-- ==== Sys2Proof/Word.lean ====
section
/-! DEFINITION. The plain types the commands and the state are made of: bytes, the numbered lines,
tanks and ports (00 Numbering and Names), one value per line, tank or port, and the parameter groups
that requests carry (11 R184). -/

namespace Sys2Proof

/-- One byte of a frame (R152, R182). -/
abbrev Byte := BitVec 8

/-- An event set: bit `k` stands for event `k` (R182). -/
abbrev EventSet := BitVec 16

/-- The six injection lines, 1 to 6. -/
inductive LineId where
  | l1 | l2 | l3 | l4 | l5 | l6
deriving DecidableEq, Repr

/-- Every LineId, in order. -/
def LineId.all : List LineId := [.l1, .l2, .l3, .l4, .l5, .l6]

/-- One value for each line. -/
structure PerLine (α : Type) where
  l1 : α
  l2 : α
  l3 : α
  l4 : α
  l5 : α
  l6 : α
deriving DecidableEq, Repr

/-- The same value at every index. -/
def PerLine.const (a : α) : PerLine α := ⟨a, a, a, a, a, a⟩

/-- The value at an index. -/
def PerLine.get (m : PerLine α) : LineId → α
  | .l1 => m.l1
  | .l2 => m.l2
  | .l3 => m.l3
  | .l4 => m.l4
  | .l5 => m.l5
  | .l6 => m.l6

/-- The value at one index changed by `f`. -/
def PerLine.upd (m : PerLine α) (i : LineId) (f : α → α) : PerLine α :=
  match i with
  | .l1 => { m with l1 := f m.l1 }
  | .l2 => { m with l2 := f m.l2 }
  | .l3 => { m with l3 := f m.l3 }
  | .l4 => { m with l4 := f m.l4 }
  | .l5 => { m with l5 := f m.l5 }
  | .l6 => { m with l6 := f m.l6 }

/-- One index given a value. -/
def PerLine.set (m : PerLine α) (i : LineId) (a : α) : PerLine α := m.upd i fun _ => a

/-- Every value changed by `f`, which sees its index. -/
def PerLine.mapIdx (f : LineId → α → β) (m : PerLine α) : PerLine β :=
  ⟨f .l1 m.l1, f .l2 m.l2, f .l3 m.l3, f .l4 m.l4, f .l5 m.l5, f .l6 m.l6⟩

/-- The values in index order. -/
def PerLine.toList (m : PerLine α) : List α := [m.l1, m.l2, m.l3, m.l4, m.l5, m.l6]

/-- The number by which the manual names it (1 up). -/
def LineId.num : LineId → Nat
  | .l1 => 1
  | .l2 => 2
  | .l3 => 3
  | .l4 => 4
  | .l5 => 5
  | .l6 => 6

/-- The LineId a number names, if it names one. -/
def LineId.ofNat? : Nat → Option LineId
  | 1 => some .l1
  | 2 => some .l2
  | 3 => some .l3
  | 4 => some .l4
  | 5 => some .l5
  | 6 => some .l6
  | _ => none

/-- The three tanks, T1 to T3. -/
inductive TankId where
  | t1 | t2 | t3
deriving DecidableEq, Repr

/-- Every TankId, in order. -/
def TankId.all : List TankId := [.t1, .t2, .t3]

/-- One value for each tank. -/
structure PerTank (α : Type) where
  t1 : α
  t2 : α
  t3 : α
deriving DecidableEq, Repr

/-- The same value at every index. -/
def PerTank.const (a : α) : PerTank α := ⟨a, a, a⟩

/-- The value at an index. -/
def PerTank.get (m : PerTank α) : TankId → α
  | .t1 => m.t1
  | .t2 => m.t2
  | .t3 => m.t3

/-- The value at one index changed by `f`. -/
def PerTank.upd (m : PerTank α) (i : TankId) (f : α → α) : PerTank α :=
  match i with
  | .t1 => { m with t1 := f m.t1 }
  | .t2 => { m with t2 := f m.t2 }
  | .t3 => { m with t3 := f m.t3 }

/-- One index given a value. -/
def PerTank.set (m : PerTank α) (i : TankId) (a : α) : PerTank α := m.upd i fun _ => a

/-- Every value changed by `f`, which sees its index. -/
def PerTank.mapIdx (f : TankId → α → β) (m : PerTank α) : PerTank β :=
  ⟨f .t1 m.t1, f .t2 m.t2, f .t3 m.t3⟩

/-- The values in index order. -/
def PerTank.toList (m : PerTank α) : List α := [m.t1, m.t2, m.t3]

/-- The number by which the manual names it (1 up). -/
def TankId.num : TankId → Nat
  | .t1 => 1
  | .t2 => 2
  | .t3 => 3

/-- The TankId a number names, if it names one. -/
def TankId.ofNat? : Nat → Option TankId
  | 1 => some .t1
  | 2 => some .t2
  | 3 => some .t3
  | _ => none

/-- The three ports: gallery, monitoring, plant. Their codes are 1 G, 2 M, 3 P (R182). -/
inductive Port where
  | gallery | monitor | plant
deriving DecidableEq, Repr

/-- Every Port, in order. -/
def Port.all : List Port := [.gallery, .monitor, .plant]

/-- One value for each port. -/
structure PerPort (α : Type) where
  gallery : α
  monitor : α
  plant : α
deriving DecidableEq, Repr

/-- The same value at every index. -/
def PerPort.const (a : α) : PerPort α := ⟨a, a, a⟩

/-- The value at an index. -/
def PerPort.get (m : PerPort α) : Port → α
  | .gallery => m.gallery
  | .monitor => m.monitor
  | .plant => m.plant

/-- The value at one index changed by `f`. -/
def PerPort.upd (m : PerPort α) (i : Port) (f : α → α) : PerPort α :=
  match i with
  | .gallery => { m with gallery := f m.gallery }
  | .monitor => { m with monitor := f m.monitor }
  | .plant => { m with plant := f m.plant }

/-- One index given a value. -/
def PerPort.set (m : PerPort α) (i : Port) (a : α) : PerPort α := m.upd i fun _ => a

/-- Every value changed by `f`, which sees its index. -/
def PerPort.mapIdx (f : Port → α → β) (m : PerPort α) : PerPort β :=
  ⟨f .gallery m.gallery, f .monitor m.monitor, f .plant m.plant⟩

/-- The values in index order. -/
def PerPort.toList (m : PerPort α) : List α := [m.gallery, m.monitor, m.plant]

/-- The number by which the manual names it (1 up). -/
def Port.num : Port → Nat
  | .gallery => 1
  | .monitor => 2
  | .plant => 3

/-- The Port a number names, if it names one. -/
def Port.ofNat? : Nat → Option Port
  | 1 => some .gallery
  | 2 => some .monitor
  | 3 => some .plant
  | _ => none

/-- One value for each mix code 1 to 8 (R173). -/
structure PerMix (α : Type) where
  c1 : α
  c2 : α
  c3 : α
  c4 : α
  c5 : α
  c6 : α
  c7 : α
  c8 : α
deriving DecidableEq, Repr

/-- The value at a mix code, if the number is one. -/
def PerMix.get? (m : PerMix α) : Nat → Option α
  | 1 => some m.c1
  | 2 => some m.c2
  | 3 => some m.c3
  | 4 => some m.c4
  | 5 => some m.c5
  | 6 => some m.c6
  | 7 => some m.c7
  | 8 => some m.c8
  | _ => none

/-- The value at a mix code replaced; a number that is no code changes nothing. -/
def PerMix.set (m : PerMix α) (code : Nat) (a : α) : PerMix α :=
  match code with
  | 1 => { m with c1 := a }
  | 2 => { m with c2 := a }
  | 3 => { m with c3 := a }
  | 4 => { m with c4 := a }
  | 5 => { m with c5 := a }
  | 6 => { m with c6 := a }
  | 7 => { m with c7 := a }
  | 8 => { m with c8 := a }
  | _ => m

/-- The values in code order. -/
def PerMix.toList (m : PerMix α) : List α := [m.c1, m.c2, m.c3, m.c4, m.c5, m.c6, m.c7, m.c8]

/-- What the converter delivers at a sample: a gauge value in kPa, or invalid for an open or shorted
transducer (R47). -/
inductive Reading where
  | value (kPa : Int)
  | invalid
deriving DecidableEq, Repr

/-- The stage parameters of a SEAT (R7), in the order of its payload (R184). -/
structure SeatParams where
  hole : Nat
  stage : Nat
  order : Nat
  top : Nat
  bottom : Nat
  pmax : Nat
  gin : Nat
  vmax : Nat
  thickest : Nat
  start : Nat
  rateCap : Nat
deriving DecidableEq, Repr

/-- The fields a WRITE_LINE carries after the line number (R171, R184). -/
structure LineWrite where
  enabled : Nat
  displacement : Nat
  efficiency : Nat
  tmin : Nat
  k : Nat
  lineVolume : Nat
  fullScale : Nat
  neighbour1 : Nat
  neighbour2 : Nat
deriving DecidableEq, Repr

/-- The fields a WRITE_MIX carries after the code (R173, R184). -/
structure MixWrite where
  enabled : Nat
  ratio : Nat
  gradient : Nat
  step : Nat
deriving DecidableEq, Repr

/-- The band table: three thresholds in tLu, four starting mixes and the no-test mix (R174). -/
structure BandTable where
  b1 : Nat
  b2 : Nat
  b3 : Nat
  m1 : Nat
  m2 : Nat
  m3 : Nat
  m4 : Nat
  m0 : Nat
deriving DecidableEq, Repr

/-- The timing table (R175): times in s, rate steps, a factor and a count of strokes. -/
structure TimingTable where
  packerSettle : Nat
  chargeStep : Nat
  flushStep : Nat
  flushFactor : Nat
  staticTime : Nat
  circStrokes : Nat
  refusalDwell : Nat
  refusalStep : Nat
deriving DecidableEq, Repr

/-- The envelope table (R176): beta in daPa/m, two percentages, the connection rise in kPa and the
standing limit in s. -/
structure EnvelopeTable where
  beta : Nat
  tolerance : Nat
  band : Nat
  rise : Nat
  standingLimit : Nat
deriving DecidableEq, Repr

end Sys2Proof
end

