-- ==== Sys2Proof/Config.lean ====
section
/-! DEFINITION. The numbers the manual fixes for every part, and the one order it leaves open. -/

namespace Sys2Proof.Config

/-- The gradient of water, in daPa/m (R49, R51). -/
def waterGradient : Nat := 981

/-- The sample period, in ms (R46). -/
def samplePeriod : Nat := 500

/-- The gap that ends a partial frame, in ms (R153). -/
def gapTime : Nat := 20

/-- The greatest payload length of a frame (R152, R153). -/
def maxPayload : Nat := 240

/-- The start byte of a request frame (R152). -/
def requestStart : Byte := 0xA5

/-- The start byte of a response frame (R152). -/
def responseStart : Byte := 0x5A

/-- The records the stage log holds (R143). -/
def logSize : Nat := 32

/-- The connection entries a record lists (R133). -/
def maxConnections : Nat := 4

/-- The greatest permeability reported, in tLu (R77). -/
def maxTLu : Nat := 9999

/-- The least elapsed time, in s, at which a cut-short test keeps a result (R75). -/
def minTestSeconds : Nat := 60

/-- The value at which the 16-bit counters of records and ports stay (R133, R138, R136). -/
def maxCount : Nat := 65535

/-- The value at which the run-seconds counter stays (R180). -/
def maxRunSeconds : Nat := 4294967295

/-- The greatest day of the site clock (R180). -/
def maxDay : Nat := 32767

/-- The greatest second of day of the site clock (R180). -/
def maxSecond : Nat := 86399

/-- A FREE VALUE (log 6): the rank in which one operation of the hold map tells a line. The manual
does not say in which order several lines are told (R116), and the order decides which of them
selects a tank first (R101). The first argument counts the operations, so that nothing links the
order of one operation to that of another. -/
opaque tellPriority : Nat → LineId → Nat

end Sys2Proof.Config
end

