-- ==== Sys2Proof/Syntax.lean ====
section
/-! DEFINITION. The commands of the CIC-6: one constructor per row of spec/opcode_table.json. A request
carries the port it arrives on and the fields of its payload (R184) as the numbers sent; an event
carries the line, port or tank it happens at. -/

namespace Sys2Proof

/-- The commands, in the table's order. -/
inductive Instr where
  | powerOn
  | cabinetReset
  | byteReceived (p : Port) (b : Byte)
  | gapTimerExpiry (p : Port)
  | responseSent (p : Port)
  | seat (p : Port) (line : Nat) (q : SeatParams)
  | test (p : Port) (line target duration : Nat)
  | charge (p : Port) (line : Nat)
  | inject (p : Port) (line : Nat)
  | finish (p : Port) (line : Nat)
  | abort (p : Port) (line : Nat)
  | clearFault (p : Port) (line : Nat)
  | circulate (p : Port) (line : Nat)
  | hold (p : Port) (lines : Byte)
  | releaseHold (p : Port) (reason : Nat) (lines : Byte)
  | releaseConnection (p : Port) (lines : Byte)
  | setCeiling (p : Port) (line ceiling : Nat)
  | supervise (p : Port) (interval : Nat)
  | deliver (p : Port) (tank mix litres : Nat)
  | dump (p : Port) (tank : Nat)
  | readTanks (p : Port)
  | readDemand (p : Port)
  | readOpen (p : Port) (line : Nat)
  | readLog (p : Port) (entry : Nat)
  | logRange (p : Port)
  | markRead (p : Port) (entry : Nat)
  | readCapture (p : Port) (line : Nat)
  | status (p : Port)
  | snapshot (p : Port)
  | readSnapshot (p : Port) (part : Nat)
  | readEvents (p : Port)
  | clearEvents (p : Port) (events : EventSet)
  | setMask (p : Port) (events : EventSet)
  | note (p : Port) (code : Nat)
  | readNote (p : Port)
  | writeLine (p : Port) (line : Nat) (q : LineWrite)
  | writeMix (p : Port) (code : Nat) (q : MixWrite)
  | writeBands (p : Port) (q : BandTable)
  | writeTiming (p : Port) (q : TimingTable)
  | writeEnvelope (p : Port) (q : EnvelopeTable)
  | writeTank (p : Port) (tank capacity ageLimit : Nat)
  | readSettings (p : Port) (table index : Nat)
  | setClock (p : Port) (day second : Nat)
  | readClock (p : Port)
  | portReset (p : Port)
  | restart (p : Port)
  | sample (l : LineId) (r : Reading)
  | packerSettleExpiry (l : LineId)
  | testTimerExpiry (l : LineId)
  | strokeComplete (l : LineId)
  | strokeWatchExpiry (l : LineId)
  | circulationStaticExpiry (l : LineId)
  | standingTimerExpiry (l : LineId)
  | refusalTimerExpiry (l : LineId)
  | silenceTimerExpiry (p : Port)
  | ageExpiry (t : TankId)
  | clockAdvance
  | runSecondsAdvance
  | resetInputDeasserted
deriving DecidableEq, Repr

end Sys2Proof
end

