-- ==== Sys2Proof/Machine/State.lean ====
section
/-! DEFINITION. The state of the part: every field the manual's blocks hold (R2, R29, R45, R70, R97,
R115, R123, R128, R136, R151, R170, R180), as plain data, and its value at power-on. -/

namespace Sys2Proof.Machine

/-! ### Common pieces -/

/-- A timer: stopped, or running with the time elapsed and the time it runs for, both in ms. -/
inductive Timer where
  | stopped
  | running (elapsed limit : Nat)
deriving DecidableEq, Repr

/-- A set of lines (R115), one flag for each line. -/
abbrev LineSet := PerLine Bool

/-- A clock time: day and second of day (R180, R182). -/
structure ClockTime where
  day : Nat
  second : Nat
deriving DecidableEq, Repr

/-- A stamped time: a clock time with the clock-unset flag (R182). -/
structure Stamp where
  time : ClockTime
  unset : Bool
deriving DecidableEq, Repr

/-- What the source select output selects (R3, R29). -/
inductive Source where
  | water
  | tank (t : TankId)
deriving DecidableEq, Repr

/-! ### Line sequencer (chapter 1) -/

/-- The line states (R2). -/
inductive LineState where
  | off | idle | seated | testing | charging | ready | injecting | held | flushing | fault
deriving DecidableEq, Repr

/-- The resume state of a HELD line (R2). -/
inductive Resume where
  | charging | injecting
deriving DecidableEq, Repr

/-- The fault causes (R2). -/
inductive FaultCause where
  | sensor | stroke | reset
deriving DecidableEq, Repr

/-- A deferred request with its parameters (R18). -/
inductive PendingReq where
  | seat (q : SeatParams)
  | test (target duration : Nat)
  | charge
  | inject
deriving DecidableEq, Repr

/-- The fields of one line sequencer (R2), its test timer (R70) and its outputs (R3). -/
structure Sequencer where
  state : LineState
  settled : Bool
  slot : Option PendingReq
  settleTimer : Timer
  standingTimer : Timer
  holdsGrout : Bool
  waitHold : Bool
  waitSupply : Bool
  resume : Option Resume
  resumeAfterBurst : Bool
  heldSince : Option Nat
  faultCause : Option FaultCause
  currentMix : Option Nat
  chargeCount : Nat
  nc : Nat
  flushCount : Nat
  nf : Nat
  testDuration : Option Nat
  testTimer : Option Nat
  packerInflated : Bool
  returnOpen : Bool
  source : Source
deriving DecidableEq, Repr

/-! ### Stroke drive (chapter 2) -/

/-- The drive's purpose (R29). -/
inductive Purpose where
  | none | test | charge | inject | flush
deriving DecidableEq, Repr

/-- The purpose of a stroke (R29, R34). -/
inductive StrokePurpose where
  | test | charge | inject | circulate | flush
deriving DecidableEq, Repr

/-- A stroke in progress (R29): `running` is its condition, RUNNING or PAUSED. -/
structure Stroke where
  purpose : StrokePurpose
  source : Source
  volume : Nat
  running : Bool
  period : Nat
deriving DecidableEq, Repr

/-- The fields of one stroke drive (R29). `watch` is the running time accrued, in ms; `burst` the
CIRCULATE strokes still to complete. -/
structure Drive where
  purpose : Purpose
  rate : Nat
  pendingRate : Nat
  stroke : Option Stroke
  watch : Option Nat
  burst : Option Nat
  staticTimer : Timer
deriving DecidableEq, Repr

/-! ### Pressure regulator (chapters 3, 4 and 7) -/

/-- The kind of the most recent sample (R45). -/
inductive LastReading where
  | none | valid | invalid
deriving DecidableEq, Repr

/-- A gauge value in kPa with its saturated mark (R45, R47). -/
structure Gauge where
  pg : Nat
  saturated : Bool
deriving DecidableEq, Repr

/-- The stage geometry (R45, R49): midpoint and length in dm. -/
structure Geometry where
  mid : Nat
  ls : Nat
deriving DecidableEq, Repr

/-- The fields of one pressure regulator (R45), its test accumulators (R70) and its connection watch
(R128). -/
structure Regulator where
  sampleTimer : Timer
  lastReading : LastReading
  gauge : Option Gauge
  invalidCount : Nat
  geometry : Option Geometry
  pf : Option Nat
  pe : Option Nat
  pn : Option Nat
  plim : Option Nat
  lowerBand : Option Nat
  v : Option Nat
  excursionStop : Bool
  refusalTimer : Timer
  testRunning : Bool
  testTarget : Option Nat
  pressureSum : Nat
  sampleCount : Nat
  testVolume : Nat
  watchArmed : Bool
  baseline : Option Nat
deriving DecidableEq, Repr

/-! ### Supply account (chapter 6) -/

/-- The tank states (R98). -/
inductive TankState where
  | unfitted | empty | stocked | stale
deriving DecidableEq, Repr

/-- What the supply account holds for one tank (R97): level in mL, birth in run seconds. -/
structure Tank where
  state : TankState
  mix : Option Nat
  level : Nat
  birth : Option Nat
deriving DecidableEq, Repr

/-- One entry of the demand queue (R105). -/
structure DemandEntry where
  mix : Nat
  waiting : List LineId
  created : Stamp
deriving DecidableEq, Repr

/-! ### Hold map (chapter 7) -/

/-- The seven keys of the hold map, in key order (R115). -/
inductive HoldKey where
  | gOperator | gSilence | mUplift | mSilence | pPlant | pSilence | watch
deriving DecidableEq, Repr

/-- What a hold entry holds beside its key (R115). -/
structure HoldEntry where
  lines : LineSet
  placed : Stamp
deriving DecidableEq, Repr

/-- The hold map: a place for each key (R115). -/
structure HoldMap where
  gOperator : Option HoldEntry
  gSilence : Option HoldEntry
  mUplift : Option HoldEntry
  mSilence : Option HoldEntry
  pPlant : Option HoldEntry
  pSilence : Option HoldEntry
  watch : Option HoldEntry
deriving DecidableEq, Repr

/-! ### Stage register (chapters 5, 7 and 8) -/

/-- The end reasons (R92 and the table of 5.4). -/
inductive EndReason where
  | refusal | volumeLimit | operator | withdrawn | abort | staticTimeout | fault | reset
deriving DecidableEq, Repr

/-- Where the starting mix came from (R79). -/
inductive MixSource where
  | explicit | band | clamped
deriving DecidableEq, Repr

/-- The water-test part of a record (R77). -/
structure TestResult where
  target : Nat
  duration : Nat
  elapsed : Nat
  samples : Nat
  mean : Nat
  volume : Nat
  tLu : Nat
  cutShort : Bool
  lowPressure : Bool
deriving DecidableEq, Repr

/-- One mix-step entry (R82). -/
structure MixStep where
  code : Nat
  volume : Nat
  entered : ClockTime
deriving DecidableEq, Repr

/-- One entry of a record's connection list (R133). -/
structure ConnEntry where
  suspects : LineSet
  rise : Nat
  time : ClockTime
deriving DecidableEq, Repr

/-- The end fields of a record (R94, R138). -/
structure Ending where
  pn : Nat
  limit : Nat
  rate : Nat
  time : ClockTime
  reason : EndReason
  origin : Option Port
deriving DecidableEq, Repr

/-- A stage record, open or closed (R137, R138). -/
structure Record where
  entry : Option Nat
  seqNo : Nat
  line : LineId
  hole : Nat
  stage : Nat
  order : Nat
  top : Nat
  bottom : Nat
  pmaxRequested : Nat
  pmaxApplied : Nat
  clamped : Bool
  gin : Nat
  vmax : Nat
  rateCap : Nat
  lowestCeiling : Option Nat
  pf : Option Nat
  noGauge : Bool
  test : Option TestResult
  startMix : Nat
  startSource : Option MixSource
  thickest : Nat
  steps : List MixStep
  charge : Nat
  injected : Nat
  unplaced : Nat
  peak : Nat
  excursions : Nat
  holdEpisodes : Nat
  supplyEpisodes : Nat
  heldSeconds : Nat
  connCount : Nat
  connections : List ConnEntry
  seatTime : ClockTime
  clockUnset : Bool
  ending : Option Ending
deriving DecidableEq, Repr

/-- The capture record of one line (R132). -/
structure Capture where
  line : LineId
  seqNo : Nat
  time : Stamp
  baseline : Nat
  pressure : Nat
  rise : Nat
  suspects : LineSet
deriving DecidableEq, Repr

/-! ### Station ports (chapter 9) -/

/-- The status codes (R156). -/
inductive Status where
  | ok | deferred | busy | held | range | rights | unknown | conflict | absent | notQuiet
deriving DecidableEq, Repr

/-- The receiver of a port (R151, R153): the bytes of the frame so far and the ms since the last. -/
inductive Receiver where
  | hunt
  | receiving (bytes : List Byte) (gap : Nat)
deriving DecidableEq, Repr

/-- A response being sent (R151, R156): request code, status and payload. -/
structure Response where
  code : Nat
  status : Status
  payload : List Byte
deriving DecidableEq, Repr

/-- The snapshot header (R163). -/
structure SnapHeader where
  time : ClockTime
  isSet : Bool
  runSeconds : Nat
deriving DecidableEq, Repr

/-- A snapshot tank entry (R163). -/
structure SnapTank where
  state : TankState
  mix : Option Nat
  level : Nat
  age : Option Nat
deriving DecidableEq, Repr

/-- A snapshot line entry (R163). -/
structure SnapLine where
  state : LineState
  waitHold : Bool
  waitSupply : Bool
  rate : Nat
  gauge : Option Gauge
  pe : Option Nat
  pn : Option Nat
  plim : Option Nat
  v : Option Nat
  mix : Option Nat
  tank : Option TankId
  injected : Option Nat
deriving DecidableEq, Repr

/-- A snapshot (R163). -/
structure Snapshot where
  header : SnapHeader
  tanks : PerTank SnapTank
  lines : PerLine SnapLine
deriving DecidableEq, Repr

/-- A note with its sender (R165). -/
structure NoteSlot where
  code : Nat
  sender : Port
deriving DecidableEq, Repr

/-- The fields of one station port (R151, R136, R123). `restartWaiting` says that a RESTART taken on
this port still waits for its response to end (R168). -/
structure PortState where
  rx : Receiver
  response : Option Response
  latches : EventSet
  masks : EventSet
  snapshot : Option Snapshot
  note : Option NoteSlot
  mark : Nat
  missed : Nat
  supervision : Option Nat
  silence : Option Nat
  restartWaiting : Bool
deriving DecidableEq, Repr

/-! ### Settings store and site clock (chapter 10) -/

/-- One entry of the line table (R171). -/
structure LineEntry where
  enabled : Bool
  displacement : Nat
  efficiency : Nat
  tmin : Nat
  k : Nat
  lineVolume : Nat
  fullScale : Nat
  neighbour1 : Option LineId
  neighbour2 : Option LineId
deriving DecidableEq, Repr

/-- The fields of a mix entry that are absent until it is written (R173). -/
structure MixFields where
  ratio : Nat
  gradient : Nat
  step : Nat
deriving DecidableEq, Repr

/-- One entry of the mix table (R173). -/
structure MixEntry where
  enabled : Bool
  fields : Option MixFields
deriving DecidableEq, Repr

/-- One entry of the tank table (R177): capacity in L, age limit in min. -/
structure TankEntry where
  capacity : Nat
  ageLimit : Nat
deriving DecidableEq, Repr

/-- The site clock (R180). -/
structure Clock where
  day : Nat
  second : Nat
  isSet : Bool
deriving DecidableEq, Repr

/-! ### The whole part -/

/-- The state of the part. `clockPhase` and `runPhase` are the ms since the last advance of the clock
and of the counter (R180, log 13). `tellCount`, `cameDue` and `pending` are the model's own: the count of
hold-map operations that told lines (log 6), the events that could come as the present millisecond began
(log 24), and the queue of waiting commands. -/
structure State where
  seq : PerLine Sequencer
  drive : PerLine Drive
  reg : PerLine Regulator
  tanks : PerTank Tank
  currentTank : PerLine (Option TankId)
  demand : List DemandEntry
  holds : HoldMap
  openRec : PerLine (Option Record)
  log : List Record
  nextSeq : Nat
  nextEntry : Nat
  capture : PerLine (Option Capture)
  port : PerPort PortState
  lineTable : PerLine LineEntry
  mixTable : PerMix MixEntry
  bands : BandTable
  timing : TimingTable
  envelope : EnvelopeTable
  ceiling : PerLine Nat
  tankTable : PerTank TankEntry
  clock : Clock
  clockPhase : Nat
  runSeconds : Nat
  runPhase : Nat
  resetAsserted : Bool
  tellCount : Nat
  cameDue : List Instr
  pending : List Instr
deriving DecidableEq, Repr

/-- The spec gives the part no machine fault: LINE_FAULT is a line state and FRAME_ERROR an event, so
nothing raises one and the type is empty (log 22). -/
inductive Fault where
deriving DecidableEq, Repr

/-- Why a command has no meaning. -/
inductive Refusal where
  /-- Raised by an arm of `exec` whose command has no meaning yet: safe, since nothing is claimed of
  it. No arm raises it. -/
  | notModelled (mnemonic : String)
deriving DecidableEq, Repr

/-! ### Power-on -/

/-- A sequencer at power-on (R2, R3, R70). -/
def Sequencer.powerOn : Sequencer where
  state := .off
  settled := false
  slot := none
  settleTimer := .stopped
  standingTimer := .stopped
  holdsGrout := false
  waitHold := false
  waitSupply := false
  resume := none
  resumeAfterBurst := false
  heldSince := none
  faultCause := none
  currentMix := none
  chargeCount := 0
  nc := 0
  flushCount := 0
  nf := 0
  testDuration := none
  testTimer := none
  packerInflated := false
  returnOpen := true
  source := .water

/-- A drive at power-on and after a cabinet reset (R29, R43). -/
def Drive.powerOn : Drive where
  purpose := .none
  rate := 0
  pendingRate := 0
  stroke := none
  watch := none
  burst := none
  staticTimer := .stopped

/-- A regulator at power-on (R45, R70, R128). -/
def Regulator.powerOn : Regulator where
  sampleTimer := .stopped
  lastReading := .none
  gauge := none
  invalidCount := 0
  geometry := none
  pf := none
  pe := none
  pn := none
  plim := none
  lowerBand := none
  v := none
  excursionStop := false
  refusalTimer := .stopped
  testRunning := false
  testTarget := none
  pressureSum := 0
  sampleCount := 0
  testVolume := 0
  watchArmed := false
  baseline := none

/-- A tank at power-on (R97). -/
def Tank.powerOn : Tank := ⟨.empty, none, 0, none⟩

/-- The empty hold map (R115). -/
def HoldMap.empty : HoldMap := ⟨none, none, none, none, none, none, none⟩

/-- A port at power-on (R151, R169). -/
def PortState.powerOn : PortState where
  rx := .hunt
  response := none
  latches := 0
  masks := 0xFFFF
  snapshot := none
  note := none
  mark := 1
  missed := 0
  supervision := none
  silence := none
  restartWaiting := false

/-- A line table entry at power-on (R171). -/
def LineEntry.powerOn : LineEntry := ⟨false, 0, 95, 1000, 0, 20000, 6000, none, none⟩

/-- A mix table entry at power-on (R173). -/
def MixEntry.powerOn : MixEntry := ⟨false, none⟩

/-- The part at power-on: every field at the value the manual gives for it. DESIGN CHOICE (logs 10 and
13): the RESET input deasserted, the two phases and the model's own count at 0, the model's
own list of events (log 24) and the queue empty. -/
def State.reset : State where
  seq := .const .powerOn
  drive := .const .powerOn
  reg := .const .powerOn
  tanks := .const .powerOn
  currentTank := .const none
  demand := []
  holds := .empty
  openRec := .const none
  log := []
  nextSeq := 1
  nextEntry := 1
  capture := .const none
  port := .const .powerOn
  lineTable := .const .powerOn
  mixTable := ⟨.powerOn, .powerOn, .powerOn, .powerOn, .powerOn, .powerOn, .powerOn, .powerOn⟩
  bands := ⟨30, 100, 300, 1, 2, 3, 4, 2⟩
  timing := ⟨30, 8, 10, 2, 120, 6, 300, 2⟩
  envelope := ⟨5000, 5, 10, 150, 1800⟩
  ceiling := .const 0
  tankTable := .const ⟨1000, 90⟩
  clock := ⟨0, 0, false⟩
  clockPhase := 0
  runSeconds := 0
  runPhase := 0
  resetAsserted := false
  tellCount := 0
  cameDue := []
  pending := []

end Sys2Proof.Machine
end

