-- ==== Sys2Proof/Machine/Ops.lean ====
section
/-! DEFINITION. The small operations every block uses: one field group of the state changed at one line,
tank, port or key; line sets; the arithmetic of R1; times and timers. -/

namespace Sys2Proof.Machine

/-! ### One place of the state changed -/

/-- The sequencer of a line changed. -/
def State.updSeq (s : State) (l : LineId) (f : Sequencer → Sequencer) : State :=
  { s with seq := s.seq.upd l f }

/-- The drive of a line changed. -/
def State.updDrive (s : State) (l : LineId) (f : Drive → Drive) : State :=
  { s with drive := s.drive.upd l f }

/-- The regulator of a line changed. -/
def State.updReg (s : State) (l : LineId) (f : Regulator → Regulator) : State :=
  { s with reg := s.reg.upd l f }

/-- A tank changed. -/
def State.updTank (s : State) (t : TankId) (f : Tank → Tank) : State :=
  { s with tanks := s.tanks.upd t f }

/-- The open record of a line changed, if there is one (R140). -/
def State.updRec (s : State) (l : LineId) (f : Record → Record) : State :=
  { s with openRec := s.openRec.upd l (Option.map f) }

/-- A port changed. -/
def State.updPort (s : State) (p : Port) (f : PortState → PortState) : State :=
  { s with port := s.port.upd p f }

/-- The current tank of a line set (R97). -/
def State.setCurrentTank (s : State) (l : LineId) (t : Option TankId) : State :=
  { s with currentTank := s.currentTank.set l t }

/-- The demand queue replaced (R105). -/
def State.setDemand (s : State) (q : List DemandEntry) : State := { s with demand := q }

/-! ### Line sets (R115, R182) -/

/-- No line. -/
def LineSet.empty : LineSet := .const false

/-- All six lines. -/
def LineSet.full : LineSet := .const true

/-- Whether the set has no line. -/
def LineSet.isEmpty (a : LineSet) : Bool := !a.toList.any id

/-- The lines of either set. -/
def LineSet.union (a b : LineSet) : LineSet := a.mapIdx fun l x => x || b.get l

/-- The lines of the first set that are not in the second. -/
def LineSet.diff (a b : LineSet) : LineSet := a.mapIdx fun l x => x && !b.get l

/-- The lines of a set, in line order. -/
def LineSet.lines (a : LineSet) : List LineId := LineId.all.filter a.get

/-- The set of the lines in a list. -/
def LineSet.ofList (ls : List LineId) : LineSet := (LineSet.empty).mapIdx fun l _ => ls.contains l

/-- The line set a byte spells: bit 0 is line 1 (R182). Bits 6 and 7 name no line. -/
def LineSet.ofByte (b : Byte) : LineSet :=
  ⟨b.getLsbD 0, b.getLsbD 1, b.getLsbD 2, b.getLsbD 3, b.getLsbD 4, b.getLsbD 5⟩

/-- The byte of a line set (R182). -/
def LineSet.toByte (a : LineSet) : Byte :=
  BitVec.ofNat 8 (a.l1.toNat + 2 * a.l2.toNat + 4 * a.l3.toNat + 8 * a.l4.toNat + 16 * a.l5.toNat +
    32 * a.l6.toNat)

/-- Whether a line-set byte names a line outside 1 to 6 (R183). -/
def namesNoLine (b : Byte) : Bool := b.getLsbD 6 || b.getLsbD 7

/-! ### The hold map's places (R115) -/

/-- The keys in key order (R115). -/
def HoldKey.all : List HoldKey :=
  [.gOperator, .gSilence, .mUplift, .mSilence, .pPlant, .pSilence, .watch]

/-- The key order of a key (R115, R187). -/
def HoldKey.num : HoldKey → Nat
  | .gOperator => 1
  | .gSilence => 2
  | .mUplift => 3
  | .mSilence => 4
  | .pPlant => 5
  | .pSilence => 6
  | .watch => 7

/-- The entry at a key. -/
def HoldMap.get (m : HoldMap) : HoldKey → Option HoldEntry
  | .gOperator => m.gOperator
  | .gSilence => m.gSilence
  | .mUplift => m.mUplift
  | .mSilence => m.mSilence
  | .pPlant => m.pPlant
  | .pSilence => m.pSilence
  | .watch => m.watch

/-- The entry at a key replaced. -/
def HoldMap.set (m : HoldMap) (k : HoldKey) (e : Option HoldEntry) : HoldMap :=
  match k with
  | .gOperator => { m with gOperator := e }
  | .gSilence => { m with gSilence := e }
  | .mUplift => { m with mUplift := e }
  | .mSilence => { m with mSilence := e }
  | .pPlant => { m with pPlant := e }
  | .pSilence => { m with pSilence := e }
  | .watch => { m with watch := e }

/-- Whether the line set of an entry, if present, contains a line. -/
def holdsLine (e : Option HoldEntry) (l : LineId) : Bool :=
  match e with
  | some e => e.lines.get l
  | none => false

/-- A line is covered when the line set of at least one entry contains it (R116). -/
def HoldMap.covers (m : HoldMap) (l : LineId) : Bool := HoldKey.all.any fun k => holdsLine (m.get k) l

/-- Whether a line is covered now (R116). -/
def State.covered (s : State) (l : LineId) : Bool := s.holds.covers l

/-! ### Arithmetic (R1) -/

/-- The smallest integer not less than the exact quotient. -/
def ceilDiv (a b : Nat) : Nat := (a + b - 1) / b

/-- The nearest integer to a thousandth, a half going up. -/
def roundThousandth (a : Nat) : Nat := (a + 500) / 1000

/-- A 16-bit counter raised by 1, staying at 65535 (R133, R138, R144). -/
def satSucc (n : Nat) : Nat := min Config.maxCount (n + 1)

/-- The number after a stage sequence or entry number: 65535 is followed by 1 (R139, R143). -/
def nextNumber (n : Nat) : Nat := if n = 65535 then 1 else n + 1

/-- `n` lies in the range, both ends included. -/
def inRange (lo hi n : Nat) : Bool := decide (lo ≤ n) && decide (n ≤ hi)

/-- The effective stroke volume E of a line, in mL (R30). -/
def LineEntry.strokeVolume (e : LineEntry) : Nat := e.displacement * e.efficiency / 100

/-- E of a line as the line table stands (R30). -/
def State.strokeVolume (s : State) (l : LineId) : Nat := (s.lineTable.get l).strokeVolume

/-- The stroke period at a rate step, in ms (R30). -/
def strokePeriod (tmin r : Nat) : Nat := tmin * 15 / r

/-- The stroke period of a line at a rate step, in ms (R30). -/
def State.period (s : State) (l : LineId) (r : Nat) : Nat := strokePeriod (s.lineTable.get l).tmin r

/-- Volume per metre in dL/m from a volume in mL and a length in dm (R53). -/
def perMetre (volume ls : Nat) : Nat := volume / (10 * ls)

/-! ### Mixes (R173) -/

/-- Whether a number is an enabled mix code now. -/
def State.mixEnabled (s : State) (code : Nat) : Bool :=
  match s.mixTable.get? code with
  | some e => e.enabled
  | none => false

/-- The gradient of a mix, in daPa/m; 0 where the code or its fields are absent. -/
def State.mixGradient (s : State) (code : Nat) : Nat :=
  match (s.mixTable.get? code).bind (·.fields) with
  | some f => f.gradient
  | none => 0

/-- The step volume S of a mix, in dL/m; 0 where the code or its fields are absent. -/
def State.mixStep (s : State) (code : Nat) : Nat :=
  match (s.mixTable.get? code).bind (·.fields) with
  | some f => f.step
  | none => 0

/-! ### Times -/

/-- The clock time now (R141, R180). -/
def State.now (s : State) : ClockTime := ⟨s.clock.day, s.clock.second⟩

/-- The stamped time now (R105, R115, R132). -/
def State.stamp (s : State) : Stamp := ⟨s.now, !s.clock.isSet⟩

/-- A timer started for a time in seconds. -/
def Timer.startSeconds (seconds : Nat) : Timer := .running 0 (seconds * 1000)

/-- Whether a timer runs. -/
def Timer.isRunning : Timer → Bool
  | .stopped => false
  | .running _ _ => true

/-! ### Line states -/

/-- The states in which a line has one open stage record (R3). -/
def LineState.hasStage : LineState → Bool
  | .seated | .testing | .charging | .ready | .injecting | .held => true
  | .off | .idle | .flushing | .fault => false

/-- OFF or IDLE: quiescent (R171, R173). -/
def LineState.quiescent : LineState → Bool
  | .off | .idle => true
  | .seated | .testing | .charging | .ready | .injecting | .held | .flushing | .fault => false

/-- The line state of a resume state (R23). -/
def Resume.lineState : Resume → LineState
  | .charging => .charging
  | .injecting => .injecting

/-- The state of a line. -/
def State.lineState (s : State) (l : LineId) : LineState := (s.seq.get l).state

end Sys2Proof.Machine
end

