-- ==== Sys2Proof/Machine/Flags.lean ====
section
/-! DEFINITION. The sixteen events, their latches and masks, and the attention line (R157, R158). -/

namespace Sys2Proof.Machine

/-- The events, numbered 0 to 15 in this order (R157). -/
inductive Event where
  | stageEnd | logOverrun | holdChange | connection | excursion | supplyWait | tankStale | lineFault
  | pendingDropped | frameError | peerNote | silence | mixChange | clamped | restarted | clockSet
deriving DecidableEq, Repr

/-- The number of an event (R157). -/
def Event.num : Event → Nat
  | .stageEnd => 0
  | .logOverrun => 1
  | .holdChange => 2
  | .connection => 3
  | .excursion => 4
  | .supplyWait => 5
  | .tankStale => 6
  | .lineFault => 7
  | .pendingDropped => 8
  | .frameError => 9
  | .peerNote => 10
  | .silence => 11
  | .mixChange => 12
  | .clamped => 13
  | .restarted => 14
  | .clockSet => 15

/-- The event set that holds one event: bit `k` stands for event `k` (R182). -/
def Event.bit (e : Event) : EventSet := BitVec.ofNat 16 (2 ^ e.num)

/-- An event latched in a port's latch set (R157). -/
def PortState.latch (e : Event) (q : PortState) : PortState := { q with latches := q.latches ||| e.bit }

/-- An event latched on one port (R157). -/
def State.latchOn (s : State) (p : Port) (e : Event) : State := s.updPort p (·.latch e)

/-- An event latched on all ports (R157). -/
def State.latchAll (s : State) (e : Event) : State :=
  { s with port := s.port.mapIdx fun _ q => q.latch e }

/-- An event latched on the two ports other than the one named (R157, R165). -/
def State.latchOthers (s : State) (p : Port) (e : Event) : State :=
  { s with port := s.port.mapIdx fun i q => if i = p then q else q.latch e }

/-- An event latched on all ports, unless the operation is part of a cabinet reset (R28, R149). -/
def State.latchUnless (s : State) (quiet : Bool) (e : Event) : State :=
  if quiet then s else s.latchAll e

/-- Whether a port holds a latch. -/
def PortState.latched (q : PortState) (e : Event) : Bool := q.latches.getLsbD e.num

/-- The attention line: asserted exactly while a latched event is not masked (R158). It is a view of
the two sets and stored nowhere else (log 12). -/
def PortState.attention (q : PortState) : Bool := decide (q.latches &&& ~~~q.masks ≠ 0)

end Sys2Proof.Machine
end

