-- ==== Sys2Proof/Machine/Register.lean ====
section
/-! DEFINITION. The stage register: opening, writing and closing records, the log ring and the read marks
(R136 to R150). -/

namespace Sys2Proof.Machine

/-- The entry number of a record in the log; 0 while open (R137, R182). -/
def Record.number (r : Record) : Nat := r.entry.getD 0

/-- A time written into a record sets its clock-unset flag if the clock is unset (R141). -/
def Record.timeWritten (r : Record) (clock : Clock) : Record :=
  { r with clockUnset := r.clockUnset || !clock.isSet }

/-- The record a SEAT opens, with the number and clock of the moment (R139, R141). -/
def State.newRecord (s : State) (l : LineId) (q : SeatParams) (pmaxApplied : Nat) (clamped : Bool) :
    Record where
  entry := none
  seqNo := s.nextSeq
  line := l
  hole := q.hole
  stage := q.stage
  order := q.order
  top := q.top
  bottom := q.bottom
  pmaxRequested := q.pmax
  pmaxApplied := pmaxApplied
  clamped := clamped
  gin := q.gin
  vmax := q.vmax
  rateCap := q.rateCap
  lowestCeiling := none
  pf := none
  noGauge := false
  test := none
  startMix := q.start
  startSource := none
  thickest := q.thickest
  steps := []
  charge := 0
  injected := 0
  unplaced := 0
  peak := 0
  excursions := 0
  holdEpisodes := 0
  supplyEpisodes := 0
  heldSeconds := 0
  connCount := 0
  connections := []
  seatTime := s.now
  clockUnset := !s.clock.isSet
  ending := none

/-- The record of a stage opened at SEAT; it takes the next stage sequence number (R139). -/
def State.openRecord (s : State) (l : LineId) (q : SeatParams) (pmaxApplied : Nat) (clamped : Bool) :
    State :=
  { s with
    openRec := s.openRec.set l (some (s.newRecord l q pmaxApplied clamped))
    nextSeq := nextNumber s.nextSeq }

/-- A mix-step entry appended: a code, 0 mL and the time now (R82, R86). -/
def State.appendMixStep (s : State) (l : LineId) (code : Nat) : State :=
  s.updRec l fun r =>
    Record.timeWritten { r with steps := r.steps ++ [⟨code, 0, s.now⟩] } s.clock

/-- The volume of the last mix-step entry raised (R140). -/
def creditLast (volume : Nat) : List MixStep → List MixStep
  | [] => []
  | [m] => [{ m with volume := m.volume + volume }]
  | m :: n :: ms => m :: creditLast volume (n :: ms)

/-- What a removal of the entry `removed` does to one port: a mark on it moves to the new oldest record
and the port counts the loss (R144). -/
def PortState.entryRemoved (removed newOldest : Nat) (quiet : Bool) (q : PortState) : PortState :=
  if q.mark = removed then
    let q' := { q with mark := newOldest, missed := satSucc q.missed }
    if quiet then q' else q'.latch .logOverrun
  else q

/-- The oldest record removed when the log holds 32, before an append of the entry `appended` (R143
step 3, R144). -/
def State.makeRoom (s : State) (appended : Nat) (quiet : Bool) : State :=
  if s.log.length < Config.logSize then s
  else
    match s.log with
    | [] => s
    | old :: rest =>
      { s with
        log := rest
        port := s.port.mapIdx fun _ q =>
          q.entryRemoved old.number ((rest.head?.map Record.number).getD appended) quiet }

/-- The final values of step 1 of R24: last pn, limit and rate step (R67, R94). -/
structure FinalValues where
  pn : Nat
  limit : Nat
  rate : Nat
deriving DecidableEq, Repr

/-- A limit lowered to a monitoring ceiling, where 0 means none (R55, R67). -/
def underCeiling (limit ceiling : Nat) : Nat := if ceiling = 0 then limit else min limit ceiling

/-- The final values the sequencer takes at step 1 of R24 (R67): the last pn, or 0; the last plim, or
Pmax applied lowered to the ceiling in force; the current rate step. DESIGN CHOICE (log 27): the ceiling in
force for a stage no sample of which computed pn is the ceiling stored. -/
def State.finalValues (s : State) (l : LineId) : FinalValues where
  pn := ((s.reg.get l).pn).getD 0
  limit :=
    match (s.reg.get l).plim with
    | some p => p
    | none => underCeiling (((s.openRec.get l).map (·.pmaxApplied)).getD 0) (s.ceiling.get l)
  rate := (s.drive.get l).rate

/-- A record with its entry number and end fields filled in (R94, R143 steps 1 and 2). -/
def State.closedRecord (s : State) (r : Record) (fin : FinalValues) (reason : EndReason)
    (origin : Option Port) : Record :=
  Record.timeWritten
    { r with
      entry := some s.nextEntry
      ending := some ⟨fin.pn, fin.limit, fin.rate, s.now, reason, origin⟩ }
    s.clock

/-- The open record of a line closed and appended to the log (R143). `quiet` marks a close made by a
cabinet reset, which latches nothing (R149). -/
def State.closeRecord (s : State) (l : LineId) (fin : FinalValues) (reason : EndReason)
    (origin : Option Port) (quiet : Bool) : State :=
  match s.openRec.get l with
  | none => s
  | some r =>
    let s1 := s.makeRoom s.nextEntry quiet
    let s2 := { s1 with
      log := s1.log ++ [s.closedRecord r fin reason origin]
      nextEntry := nextNumber s.nextEntry
      openRec := s1.openRec.set l none }
    s2.latchUnless quiet .stageEnd

/-- The record of the log with an entry number (R146). -/
def State.logEntry (s : State) (n : Nat) : Option Record := s.log.find? fun r => r.entry == some n

/-- The entry number of the oldest record, or the next entry number when the log is empty (R150). -/
def State.oldestOrNext (s : State) : Nat := (s.log.head?.map Record.number).getD s.nextEntry

/-- The records from the one the mark names through the newest (R147). -/
def State.unread (s : State) (mark : Nat) : Nat :=
  (s.log.dropWhile fun r => r.entry != some mark).length

end Sys2Proof.Machine
end

