-- ==== Sys2Proof/Machine/Supply.lean ====
section
/-! DEFINITION. The supply account: tank selection and debit, the demand queue and leaving it (R97 to
R109). -/

namespace Sys2Proof.Machine

/-- A tank qualifies for a stroke: STOCKED with the mix and a level at or above E (R101). -/
def Tank.qualifies (t : Tank) (mix e : Nat) : Bool :=
  t.state == .stocked && t.mix == some mix && decide (e ≤ t.level)

/-- The older of two tanks by birth; of equal births the first (R101). -/
def State.older (s : State) (a : Option TankId) (b : TankId) : Option TankId :=
  match a with
  | none => some b
  | some a => if (s.tanks.get b).birth.getD 0 < (s.tanks.get a).birth.getD 0 then some b else some a

/-- The oldest qualifying tank, of equal births the lower number (R101 step 2). -/
def State.oldestTank (s : State) (mix e : Nat) : Option TankId :=
  (TankId.all.filter fun t => (s.tanks.get t).qualifies mix e).foldl s.older none

/-- The selection of R101: the line's current tank if it qualifies, else the oldest that does. -/
def State.selectTank (s : State) (l : LineId) (mix e : Nat) : Option TankId :=
  match s.currentTank.get l with
  | some t => if (s.tanks.get t).qualifies mix e then some t else s.oldestTank mix e
  | none => s.oldestTank mix e

/-- A tank after a debit of E: a level of 0 makes it EMPTY (R102). -/
def Tank.debit (t : Tank) (e : Nat) : Tank :=
  if t.level - e = 0 then ⟨.empty, none, 0, none⟩ else { t with level := t.level - e }

/-- A selected tank debited and made the line's current tank (R101). -/
def State.payFrom (s : State) (l : LineId) (t : TankId) (e : Nat) : State :=
  (s.updTank t (·.debit e)).setCurrentTank l (some t)

/-- The demand queue after a line joins for a mix: the tail of the mix's list, or a new entry at the
tail of the queue (R106). -/
def joinDemand (q : List DemandEntry) (mix : Nat) (l : LineId) (now : Stamp) : List DemandEntry :=
  if q.any (·.mix == mix) then
    q.map fun e => if e.mix = mix then { e with waiting := e.waiting ++ [l] } else e
  else q ++ [⟨mix, [l], now⟩]

/-- The demand queue with a line taken off every waiting list, emptied entries still in place. -/
def strikeLine (q : List DemandEntry) (l : LineId) : List DemandEntry :=
  q.map fun e => { e with waiting := e.waiting.filter (· != l) }

/-- The demand queue without entries whose waiting list is empty (R108, R109). -/
def dropEmptied (q : List DemandEntry) : List DemandEntry := q.filter fun e => !e.waiting.isEmpty

/-- Whether a line is on a waiting list. -/
def onList (q : List DemandEntry) (l : LineId) : Bool := q.any fun e => e.waiting.contains l

/-- A line leaves its waiting list at stage end and its current tank becomes absent (R24 step 3,
R109). -/
def State.leaveDemand (s : State) (l : LineId) (quiet : Bool) : State :=
  let s1 := s.setCurrentTank l none
  if onList s.demand l then
    (s1.setDemand (dropEmptied (strikeLine s.demand l))).latchUnless quiet .supplyWait
  else s1

/-- The run seconds at which a tank's grout reaches its age limit (R103). -/
def State.expiryMoment (s : State) (t : TankId) : Nat :=
  (s.tanks.get t).birth.getD 0 + (s.tankTable.get t).ageLimit * 60

/-- The age of a tank in s; absent in EMPTY and UNFITTED (R103). -/
def State.tankAge (s : State) (t : TankId) : Option Nat :=
  match (s.tanks.get t).state with
  | .stocked | .stale => some (s.runSeconds - (s.tanks.get t).birth.getD 0)
  | .unfitted | .empty => none

/-- A STOCKED tank becomes STALE and TANK_STALE is latched (R103, R113). -/
def State.makeStale (s : State) (t : TankId) : State :=
  (s.updTank t fun k => { k with state := .stale }).latchAll .tankStale

end Sys2Proof.Machine
end

