-- ==== Sys2Proof/Machine/Stage.lean ====
section
/-! DEFINITION. Stopping a drive, ending a stage and entering FAULT (R24, R26, R32, R37, R67). -/

namespace Sys2Proof.Machine

/-- A stroke purpose that draws from a tank (R34). -/
def StrokePurpose.isGrout : StrokePurpose → Bool
  | .charge | .inject => true
  | .test | .circulate | .flush => false

/-- The stroke in progress given up: a grout stroke's volume goes to the record's unplaced volume, and
the watch stops (R37). -/
def State.abandonStroke (s : State) (l : LineId) : State :=
  match (s.drive.get l).stroke with
  | none => s
  | some k =>
    (if k.purpose.isGrout then s.updRec l fun r => { r with unplaced := r.unplaced + k.volume } else s).updDrive l
      fun d => { d with stroke := none, watch := none }

/-- A stop ordered by the sequencer: burst and stroke end, the watch and the static timer stop, the
purpose becomes NONE and the rate steps 0 (R32, R39, R42). -/
def State.stopDrive (s : State) (l : LineId) : State :=
  (s.abandonStroke l).updDrive l fun _ => .powerOn

/-- The watch of a line armed, its baseline absent (R128). -/
def Regulator.arm (g : Regulator) : Regulator := { g with watchArmed := true, baseline := none }

/-- The watch of a line disarmed (R128). -/
def Regulator.disarm (g : Regulator) : Regulator := { g with watchArmed := false, baseline := none }

/-- The test accumulators at their power-on values (R70). -/
def Regulator.clearTest (g : Regulator) : Regulator :=
  { g with testRunning := false, testTarget := none, pressureSum := 0, sampleCount := 0, testVolume := 0 }

/-- The seconds of the stay in HELD added to the record, and held-since made absent (R23 step 1). -/
def State.addHeld (s : State) (l : LineId) : State :=
  match (s.seq.get l).heldSince with
  | none => s
  | some t =>
    (s.updRec l fun r => { r with heldSeconds := r.heldSeconds + (s.runSeconds - t) }).updSeq l
      fun q => { q with heldSince := none }

/-- The deferred request of a line dropped (R20). -/
def State.dropSlot (s : State) (l : LineId) (quiet : Bool) : State :=
  match (s.seq.get l).slot with
  | none => s
  | some _ => (s.updSeq l fun q => { q with slot := none }).latchUnless quiet .pendingDropped

/-- What the regulator does at stage end (R67): refusal timer, excursion stop, pf and last pressures,
test accumulation and connection watch. -/
def Regulator.endStage (g : Regulator) : Regulator :=
  { g.clearTest.disarm with
    refusalTimer := .stopped
    excursionStop := false
    pf := none
    pn := none
    plim := none
    lowerBand := none
    v := none }

/-- Step 4 of R24: the stage's timers stop, the regulator ends the stage, a test is cancelled without
result, and a stay in HELD is added to the record. DESIGN CHOICE (log 26): the sequencer's test duration
becomes absent. -/
def State.endTimers (s : State) (l : LineId) : State :=
  let s1 := if s.lineState l = .held then s.addHeld l else s
  (s1.updSeq l fun q =>
    { q with settleTimer := .stopped, standingTimer := .stopped, testTimer := none, testDuration := none }).updReg l
    Regulator.endStage

/-- Step 5 of R24: wait causes, resume state, flags and current mix cleared, the slot dropped. -/
def State.clearCauses (s : State) (l : LineId) (quiet : Bool) : State :=
  (s.updSeq l fun q =>
    { q with
      waitHold := false, waitSupply := false, resume := none, resumeAfterBurst := false
      currentMix := none }).dropSlot l quiet

/-- Steps 1 to 6 of R24: the stage of a line ends and its record closes. `quiet` marks a close made by
a cabinet reset (R28, R149). -/
def State.endStage (s : State) (l : LineId) (reason : EndReason) (origin : Option Port) (quiet : Bool) :
    State :=
  ((((s.stopDrive l).leaveDemand l quiet).endTimers l).clearCauses l quiet).closeRecord l
    (s.finalValues l) reason origin quiet

/-- A line's outputs with the packer deflated, the return open and water selected (R3). -/
def Sequencer.released (q : Sequencer) : Sequencer :=
  { q with packerInflated := false, returnOpen := true, source := .water }

/-- Entry into FAULT with a cause, and LINE_FAULT latched (R26). -/
def State.enterFault (s : State) (l : LineId) (cause : FaultCause) : State :=
  (s.updSeq l fun q => { q.released with state := .fault, faultCause := some cause }).latchAll .lineFault

/-- A fault report from the regulator or the drive, handled by the line's state (R26). Every entry to FAULT
orders the drive to stop (R32). -/
def State.lineFault (s : State) (l : LineId) (cause : FaultCause) : State :=
  match s.lineState l with
  | .seated | .testing | .charging | .ready | .injecting | .held =>
    (s.endStage l .fault none false).enterFault l cause
  | .flushing =>
    (((s.stopDrive l).updSeq l fun q => { q with flushCount := 0, nf := 0 }).dropSlot l false).enterFault l
      cause
  | .idle => ((s.stopDrive l).updSeq l fun q => { q with holdsGrout := false }).enterFault l cause
  | .fault => s.updSeq l fun q => { q with faultCause := some cause }
  | .off => s

end Sys2Proof.Machine
end

