-- ==== Sys2Proof/Machine/Strokes.lean ====
section
/-! DEFINITION. Entry into HELD on supply wait, stroke starts, restarts and the writes of the rate step
(R22, R30 to R38). -/

namespace Sys2Proof.Machine

/-- The circulation static timer after a start order: it starts only for a line whose holds-grout flag
is set (R39). -/
def State.staticStart (s : State) (l : LineId) : Timer :=
  if (s.seq.get l).holdsGrout then .startSeconds s.timing.staticTime else .stopped

/-- What both entries into HELD share: the resume state, held-since, the standing and static timers,
the refusal timer cancelled and the connection watch armed (R21, R22, R39, R64, R90, R129). -/
def State.enterHeld (s : State) (l : LineId) (r : Resume) : State :=
  ((s.updSeq l fun q =>
    { q with
      state := .held
      resume := some r
      heldSince := some s.runSeconds
      standingTimer := .startSeconds s.envelope.standingLimit }).updDrive l fun d =>
    { d with staticTimer := s.staticStart l }).updReg l fun g =>
    { g.arm with refusalTimer := .stopped }

/-- The resume state of a line in CHARGING or INJECTING. -/
def LineState.asResume : LineState → Option Resume
  | .charging => some .charging
  | .injecting => some .injecting
  | .off | .idle | .seated | .testing | .ready | .held | .flushing | .fault => none

/-- Supply wait at a grout stroke start: the need is queued (R106), the rate steps become 0 (R33 step
3) and the line enters HELD with SUPPLY (R22). -/
def State.supplyWait (s : State) (l : LineId) (mix : Nat) : State :=
  let s1 := ((s.setDemand (joinDemand s.demand mix l s.stamp)).latchAll .supplyWait).updDrive l
    fun d => { d with rate := 0, pendingRate := 0 }
  match (s.lineState l).asResume with
  | none => s1
  | some r =>
    ((s1.enterHeld l r).updSeq l fun q => { q with waitSupply := true }).updRec l
      fun k => { k with supplyEpisodes := satSucc k.supplyEpisodes }

/-- A stroke starts from a source: the pending rate step becomes current, the stroke is recorded and
its watch starts (R33 steps 1 and 4). -/
def State.runStroke (s : State) (l : LineId) (purpose : StrokePurpose) (source : Source) : State :=
  (s.updDrive l fun d =>
    { d with
      rate := d.pendingRate
      stroke := some ⟨purpose, source, s.strokeVolume l, true, s.period l d.pendingRate⟩
      watch := some 0 }).updSeq l fun q => { q with source := source }

/-- A grout stroke starts from a tank; a CHARGE start sets the holds-grout flag (R13, R33). -/
def State.runGrout (s : State) (l : LineId) (purpose : StrokePurpose) (t : TankId) : State :=
  (s.runStroke l purpose (.tank t)).updSeq l fun q =>
    { q with holdsGrout := q.holdsGrout || purpose == .charge }

/-- A grout stroke start: the tank already selected and debited by a service (R107), or the supply
account's answer (R33 step 2, R101). A line with no current mix gets no answer (log 20). -/
def State.startGrout (s : State) (l : LineId) (purpose : StrokePurpose) (given : Option TankId) : State :=
  match given with
  | some t => s.runGrout l purpose t
  | none =>
    match (s.seq.get l).currentMix with
    | none => s
    | some mix =>
      match s.selectTank l mix (s.strokeVolume l) with
      | some t => (s.payFrom l t (s.strokeVolume l)).runGrout l purpose t
      | none => s.supplyWait l mix

/-- A stroke start by the drive's purpose (R33). -/
def State.startStroke (s : State) (l : LineId) (given : Option TankId) : State :=
  match (s.drive.get l).purpose with
  | .none => s
  | .test => s.runStroke l .test .water
  | .flush => s.runStroke l .flush .water
  | .charge => s.startGrout l .charge given
  | .inject => s.startGrout l .inject given

/-- The watch limit of a stroke, in ms: three times its period (R38). -/
def Stroke.watchLimit (k : Stroke) : Nat := 3 * k.period

/-- Whether the stroke watch of a drive has reached its limit (R38). -/
def Drive.watchExpired (d : Drive) : Bool :=
  match d.stroke, d.watch with
  | some k, some w => k.running && decide (k.watchLimit ≤ w)
  | _, _ => false

/-- The stroke watch expires: the stroke is abandoned, the rate steps become 0 and a stroke failure is
reported (R38, R26). -/
def State.strokeFailure (s : State) (l : LineId) : State :=
  ((s.abandonStroke l).updDrive l fun d => { d with rate := 0, pendingRate := 0 }).lineFault l .stroke

/-- A drive with its paused stroke restarted at the pending rate step (R36). -/
def Drive.restarted (d : Drive) (tmin : Nat) : Drive :=
  { d with
    rate := d.pendingRate
    stroke := d.stroke.map fun k => { k with running := true, period := strokePeriod tmin d.pendingRate } }

/-- A paused stroke restarts (R36). A limit lowered below the time accrued makes the watch expire at the
restart (R38, log 9). -/
def State.restartStroke (s : State) (l : LineId) : State :=
  let s1 := s.updDrive l (·.restarted (s.lineTable.get l).tmin)
  if (s1.drive.get l).watchExpired then s1.strokeFailure l else s1

/-- A drive after a write of rate step 0: at once, a running stroke paused; nothing if the current step
is 0 already (R31, R36). -/
def Drive.writeZero (d : Drive) : Drive :=
  if d.rate = 0 then d
  else { d with rate := 0, pendingRate := 0, stroke := d.stroke.map fun k => { k with running := false } }

/-- Whether a drive has a stroke in condition RUNNING (R29). -/
def Drive.isRunning (d : Drive) : Bool :=
  match d.stroke with
  | some k => k.running
  | none => false

/-- A write of the pending rate step (R31, R41). During a burst it is only stored. A nonzero write
takes effect at once on a stopped drive with a purpose: a paused stroke restarts, or a stroke starts.
`given` is the tank a service has already debited for that start (R107). -/
def State.writeRate (s : State) (l : LineId) (r : Nat) (given : Option TankId) : State :=
  let d := s.drive.get l
  let stored := s.updDrive l fun d => { d with pendingRate := r }
  if d.burst.isSome then stored
  else if r = 0 then s.updDrive l Drive.writeZero
  else if d.purpose = .none || d.isRunning then stored
  else if d.stroke.isSome then stored.restartStroke l
  else stored.startStroke l given

/-- The sequencer's order to set a purpose with a pending rate step (R32). -/
def State.setPurpose (s : State) (l : LineId) (purpose : Purpose) (r : Nat) : State :=
  (s.updDrive l fun d => { d with purpose := purpose }).writeRate l r none

end Sys2Proof.Machine
end

