-- ==== Sys2Proof/Machine/Line.lean ====
section
/-! DEFINITION. The line sequencer's transitions: seating, testing, charging, injecting, flushing, leaving
HELD, ending a test and running a deferred request (R9 to R25, R70 to R81). -/

namespace Sys2Proof.Machine

/-- Entry into FLUSHING: the packer deflates, Nf is computed and FLUSH strokes start (R25). -/
def State.enterFlushing (s : State) (l : LineId) : State :=
  let e := s.lineTable.get l
  (s.updSeq l fun q =>
    { q.released with
      state := .flushing
      nf := ceilDiv (e.lineVolume * s.timing.flushFactor) e.strokeVolume
      flushCount := 0 }).setPurpose l .flush s.timing.flushStep

/-- The line moves to IDLE with its outputs released (R24 step 7). -/
def State.enterIdle (s : State) (l : LineId) : State :=
  s.updSeq l fun q => { q.released with state := .idle }

/-- The stage of a line ends for a reason other than FAULT and RESET, and the line moves on by the state
it left (R24). -/
def State.stageEnd (s : State) (l : LineId) (reason : EndReason) (origin : Option Port) : State :=
  match s.lineState l with
  | .charging | .ready | .injecting | .held => (s.endStage l reason origin false).enterFlushing l
  | .seated | .testing => (s.endStage l reason origin false).enterIdle l
  | .off | .idle | .flushing | .fault => s

/-- The rate step a line resumes at: 1 in INJECTING, the charge step in CHARGING (R23 step 5). -/
def State.resumeRate (s : State) (r : Resume) : Nat :=
  match r with
  | .charging => s.timing.chargeStep
  | .injecting => 1

/-- The sequencer of a line that leaves HELD for its resume state (R23 steps 2 and 4). -/
def Sequencer.resumed (q : Sequencer) (r : Resume) : Sequencer :=
  { q with
    standingTimer := .stopped
    returnOpen := r == .charging
    state := r.lineState
    resume := none
    resumeAfterBurst := false }

/-- A line leaves HELD for its resume state (R23). -/
def State.leaveHeld (s : State) (l : LineId) (given : Option TankId) : State :=
  match (s.seq.get l).resume with
  | none => s
  | some r =>
    ((((s.addHeld l).updSeq l (·.resumed r)).updDrive l fun d => { d with staticTimer := .stopped }).updReg l
      fun g => { g.disarm with excursionStop := false }).writeRate l (s.resumeRate r) given

/-- A wait cause has been removed: with none left the line leaves HELD, or notes that it will when the
running burst ends (R23). -/
def State.causeRemoved (s : State) (l : LineId) (given : Option TankId) : State :=
  if (s.seq.get l).waitHold || (s.seq.get l).waitSupply then s
  else if (s.drive.get l).burst.isSome then s.updSeq l fun q => { q with resumeAfterBurst := true }
  else s.leaveHeld l given

/-! ### Seating -/

/-- The stage midpoint, in dm (R49). -/
def stageMid (q : SeatParams) : Nat := (q.top + q.bottom) / 2

/-- The depth ceiling Pcap, in kPa (R52). -/
def depthCeiling (beta mid : Nat) : Nat := beta * mid / 1000

/-- The regulator prepares for a new stage (R45). -/
def Regulator.seatStage (g : Regulator) (q : SeatParams) : Regulator :=
  { g with
    geometry := some ⟨stageMid q, q.bottom - q.top⟩
    pf := none
    pe := none
    pn := none
    plim := none
    lowerBand := none
    v := none
    excursionStop := false
    refusalTimer := .stopped }

/-- The sequencer of a line whose SEAT is taken (R9 steps 3 to 5). -/
def Sequencer.seatedWith (q : Sequencer) (settle : Timer) : Sequencer :=
  { q with
    state := .seated
    settled := false
    settleTimer := settle
    currentMix := none
    chargeCount := 0
    nc := 0
    flushCount := 0
    nf := 0
    packerInflated := true
    returnOpen := false
    source := .water }

/-- A SEAT taken (R9). -/
def State.takeSeat (s : State) (l : LineId) (q : SeatParams) : State :=
  let ceiling := depthCeiling s.envelope.beta (stageMid q)
  let clamped := decide (ceiling < q.pmax)
  let s1 := if clamped then s.latchAll .clamped else s
  ((s1.openRecord l q (min q.pmax ceiling) clamped).updSeq l
    (·.seatedWith (.startSeconds s.timing.packerSettle))).updReg l (·.seatStage q)

/-! ### Testing -/

/-- A TEST taken (R11, R71). -/
def State.takeTest (s : State) (l : LineId) (target duration : Nat) : State :=
  ((s.updReg l fun g =>
    { g.clearTest.disarm with testRunning := true, testTarget := some target }).updSeq l fun q =>
    { q with state := .testing, testDuration := some duration, testTimer := some 0 }).setPurpose l .test 1

/-- How a test ends with its line back in SEATED (R11). -/
inductive TestEnd where
  | complete | cutShort | cancelled
deriving DecidableEq, Repr

/-- The result computed from the accumulators, for a test of `seconds` (R77). -/
def testResult (g : Regulator) (target duration seconds ls : Nat) (cutShort : Bool) : Option TestResult :=
  if g.sampleCount = 0 then none
  else
    let mean := g.pressureSum / g.sampleCount
    if mean = 0 then none
    else some
      { target := target
        duration := duration
        elapsed := seconds
        samples := g.sampleCount
        mean := mean
        volume := g.testVolume
        tLu := min Config.maxTLu (g.testVolume * 6000 / (seconds * ls * mean))
        cutShort := cutShort
        lowPressure := decide (mean < target * 50 / 100) }

/-- The result of the test of a line that ends in a given way (R74 to R77). -/
def State.testOutcome (s : State) (l : LineId) (ending : TestEnd) : Option TestResult :=
  let g := s.reg.get l
  let q := s.seq.get l
  let target := g.testTarget.getD 0
  let duration := q.testDuration.getD 0
  let ls := (g.geometry.map (·.ls)).getD 0
  let elapsed := q.testTimer.getD 0 / 1000
  match ending with
  | .cancelled => none
  | .complete => testResult g target duration duration ls false
  | .cutShort =>
    if elapsed < Config.minTestSeconds then none else testResult g target duration elapsed ls true

/-! ### Charging and injecting -/

/-- The choice of the band table for a record (R80). -/
def bandChoice (b : BandTable) (test : Option TestResult) : Nat :=
  match test with
  | none => b.m0
  | some t => if t.tLu ≤ b.b1 then b.m1 else if t.tLu ≤ b.b2 then b.m2 else if t.tLu ≤ b.b3 then b.m3 else b.m4

/-- The starting mix and its source for a record at CHARGE (R79 to R81). -/
def State.startingMix (s : State) (r : Record) : Nat × MixSource :=
  if r.startMix ≠ 0 then (r.startMix, .explicit)
  else
    let choice := bandChoice s.bands r.test
    if r.thickest < choice || !s.mixEnabled choice then (r.thickest, .clamped) else (choice, .band)

/-- The starting mix of the line's open record; a line without one starts at no mix (log 20). -/
def State.chargeMix (s : State) (l : LineId) : Nat × MixSource :=
  match s.openRec.get l with
  | some r => s.startingMix r
  | none => (0, .explicit)

/-- A CHARGE taken (R12). The purpose is set last, so that a supply wait at the first start finds the
line in CHARGING (log 8). -/
def State.takeCharge (s : State) (l : LineId) : State :=
  let e := s.lineTable.get l
  let c := s.chargeMix l
  let s1 := if c.2 = .clamped then s.latchAll .clamped else s
  let s2 := (s1.updRec l fun r => { r with startMix := c.1, startSource := some c.2 }).appendMixStep l c.1
  ((s2.updSeq l fun q =>
    { q with
      state := .charging
      currentMix := some c.1
      nc := ceilDiv e.lineVolume e.strokeVolume
      chargeCount := 0
      returnOpen := true }).updReg l Regulator.disarm).setPurpose l .charge s.timing.chargeStep

/-- An INJECT taken (R14). The purpose is set last (log 8). -/
def State.takeInject (s : State) (l : LineId) : State :=
  (((s.updSeq l fun q =>
    { q with state := .injecting, returnOpen := false, standingTimer := .stopped }).updDrive l fun d =>
    { d with staticTimer := .stopped }).updReg l Regulator.disarm).setPurpose l .inject 1

/-! ### The pending slot -/

/-- The points at which a deferred request runs (R18). -/
inductive RunPoint where
  | settleExpiry | testEnd | chargeCompletion | flushCompletion
deriving DecidableEq, Repr

/-- Whether a deferred request runs at a point (R18). -/
def PendingReq.runsAt : PendingReq → RunPoint → Bool
  | .seat _, .flushCompletion => true
  | .test _ _, .settleExpiry => true
  | .charge, .settleExpiry => true
  | .charge, .testEnd => true
  | .inject, .chargeCompletion => true
  | _, _ => false

/-- A request taken as if it had just arrived (R19). -/
def State.takeDeferred (s : State) (l : LineId) : PendingReq → State
  | .seat q => s.takeSeat l q
  | .test target duration => s.takeTest l target duration
  | .charge => s.takeCharge l
  | .inject => s.takeInject l

/-- Whether a deferred request is dropped at its run point because the line is covered (R19, R20). -/
def State.dropsAtRun (s : State) (l : LineId) : PendingReq → Bool
  | .seat _ => false
  | .test _ _ | .charge | .inject => s.covered l

/-- The run point of the request in the slot: the slot is emptied, and the request is dropped or taken
(R19, R20). -/
def State.runSlot (s : State) (l : LineId) (point : RunPoint) : State :=
  match (s.seq.get l).slot with
  | none => s
  | some req =>
    if req.runsAt point then
      let s1 := s.updSeq l fun q => { q with slot := none }
      if s.dropsAtRun l req then s1.latchAll .pendingDropped else s1.takeDeferred l req
    else s

/-- A test ends with its line back in SEATED (R11, R62, R74, R75, R78). DESIGN CHOICE (log 26): the
sequencer's test duration becomes absent with it. -/
def State.endTest (s : State) (l : LineId) (ending : TestEnd) : State :=
  let result := s.testOutcome l ending
  let s1 := ((s.stopDrive l).updSeq l fun q =>
    { q with state := .seated, settled := true, testTimer := none, testDuration := none }).updReg l fun g =>
    { g.clearTest.arm with excursionStop := false }
  let s2 := match result with
    | none => s1
    | some t => s1.updRec l fun r => { r with test := some t }
  s2.runSlot l .testEnd

end Sys2Proof.Machine
end

