-- ==== Sys2Proof/Machine/Holds.lean ====
section
/-! DEFINITION. The hold map: coverage, telling the lines, and the operations on its entries (R21, R115 to
R119, R125, R131). -/

namespace Sys2Proof.Machine

/-- A line in CHARGING or INJECTING enters HELD with HOLD: a write of 0 pauses its piston and the
hold-episode count rises (R21). -/
def State.holdLine (s : State) (l : LineId) (r : Resume) : State :=
  (((s.enterHeld l r).updSeq l fun q => { q with waitHold := true }).updRec l fun k =>
    { k with holdEpisodes := satSucc k.holdEpisodes }).writeRate l 0 none

/-- HOLD added to a line already in HELD without it (R21). -/
def State.addHold (s : State) (l : LineId) : State :=
  (s.updSeq l fun q => { q with waitHold := true, resumeAfterBurst := false }).updRec l fun k =>
    { k with holdEpisodes := satSucc k.holdEpisodes }

/-- What a line does on becoming covered (R21). -/
def State.becomeCovered (s : State) (l : LineId) : State :=
  match s.lineState l with
  | .charging => s.holdLine l .charging
  | .injecting => s.holdLine l .injecting
  | .held => if (s.seq.get l).waitHold then s else s.addHold l
  | .testing => s.endTest l .cancelled
  | .off | .idle | .seated | .ready | .flushing | .fault => s

/-- What a line does on becoming uncovered: in HELD it loses HOLD (R21, R23). -/
def State.becomeUncovered (s : State) (l : LineId) : State :=
  match s.lineState l with
  | .held =>
    if (s.seq.get l).waitHold then (s.updSeq l fun q => { q with waitHold := false }).causeRemoved l none
    else s
  | .off | .idle | .seated | .testing | .charging | .ready | .injecting | .flushing | .fault => s

/-- A line inserted into a list that is in telling order. -/
def insertByRank (rank : LineId → Nat) (l : LineId) : List LineId → List LineId
  | [] => [l]
  | k :: ks => if rank l ≤ rank k then l :: k :: ks else k :: insertByRank rank l ks

/-- The lines of a list in telling order: the manual leaves the order open (R116), so it is the free
order `Config.tellPriority` (log 6). One line needs no order. -/
def tellOrder (count : Nat) : List LineId → List LineId
  | [] => []
  | l :: ls => insertByRank (Config.tellPriority count) l (tellOrder count ls)

/-- The lines whose coverage two maps give differently (R116). -/
def changedLines (before after : HoldMap) : List LineId :=
  LineId.all.filter fun l => before.covers l != after.covers l

/-- One line told of its coverage as it now stands (R116). -/
def State.tellLine (s : State) (l : LineId) : State :=
  if s.covered l then s.becomeCovered l else s.becomeUncovered l

/-- The lines told one after another (R116). -/
def State.tellLines (s : State) (ls : List LineId) : State := ls.foldl State.tellLine s

/-- One operation of the hold map: the new map stands, the lines whose coverage changed are told, and
HOLD_CHANGE is latched if the map changed (R116). -/
def State.holdOperation (s : State) (m : HoldMap) : State :=
  if m = s.holds then s
  else
    let told := tellOrder s.tellCount (changedLines s.holds m)
    (({ s with holds := m, tellCount := s.tellCount + 1 } : State).tellLines told).latchAll .holdChange

/-- An entry after lines are merged in: created with the time placed, or grown (R115, R117). -/
def mergeEntry (e : Option HoldEntry) (lines : LineSet) (now : Stamp) : HoldEntry :=
  match e with
  | none => ⟨lines, now⟩
  | some e => { e with lines := e.lines.union lines }

/-- The map after lines are merged into the entry of a key (R117). -/
def HoldMap.merge (m : HoldMap) (k : HoldKey) (lines : LineSet) (now : Stamp) : HoldMap :=
  m.set k (some (mergeEntry (m.get k) lines now))

/-- An entry after lines are removed: an entry left empty goes (R118). -/
def releaseEntry (e : Option HoldEntry) (lines : LineSet) : Option HoldEntry :=
  match e with
  | none => none
  | some e => if (e.lines.diff lines).isEmpty then none else some { e with lines := e.lines.diff lines }

/-- The map after lines are removed from the entry of a key (R118). -/
def HoldMap.release (m : HoldMap) (k : HoldKey) (lines : LineSet) : HoldMap :=
  m.set k (releaseEntry (m.get k) lines)

/-- The key of a port's own hold requests (R117). -/
def requestKey : Port → HoldKey
  | .gallery => .gOperator
  | .monitor => .mUplift
  | .plant => .pPlant

/-- The key of a port's silence entry (R115). -/
def silenceKey : Port → HoldKey
  | .gallery => .gSilence
  | .monitor => .mSilence
  | .plant => .pSilence

end Sys2Proof.Machine
end

