-- ==== Sys2Proof/Machine/Circulation.lean ====
section
/-! DEFINITION. Circulation bursts (R15, R39 to R42). -/

namespace Sys2Proof.Machine

/-- A CIRCULATE stroke starts from the source now selected, at the current rate step (R41). -/
def State.startCirculate (s : State) (l : LineId) : State :=
  s.updDrive l fun d =>
    { d with
      stroke := some ⟨.circulate, (s.seq.get l).source, s.strokeVolume l, true, s.period l d.rate⟩
      watch := some 0 }

/-- A burst starts: the static timer stops, a paused grout stroke is abandoned, the charge step is
taken and the return opens (R15, R40); the connection watch disarms (R129). -/
def State.startBurst (s : State) (l : LineId) : State :=
  (((((s.abandonStroke l).updDrive l fun d =>
    { d with
      staticTimer := .stopped
      burst := some s.timing.circStrokes
      rate := s.timing.chargeStep
      pendingRate := s.timing.chargeStep }).startCirculate l).updSeq l fun q =>
    { q with returnOpen := true }).updReg l Regulator.disarm)

/-- The return valve's position for the line's state once a burst has ended (R15). -/
def Sequencer.returnAtRest (q : Sequencer) : Bool := q.resume != some .injecting

/-- A burst ends: rate steps 0, the static timer starts again, the return is set back, the watch arms,
and a line due to resume leaves HELD (R41, R129). -/
def State.endBurst (s : State) (l : LineId) : State :=
  let s1 := ((s.updDrive l fun d =>
    { d with burst := none, rate := 0, pendingRate := 0, staticTimer := s.staticStart l }).updSeq l fun q =>
    { q with returnOpen := q.returnAtRest }).updReg l Regulator.arm
  if (s.seq.get l).resumeAfterBurst then s1.leaveHeld l none else s1

/-- A CIRCULATE completion: the count falls; the next stroke starts or the burst ends (R41). -/
def State.circulateDone (s : State) (l : LineId) : State :=
  match (s.drive.get l).burst with
  | none => s
  | some n =>
    if n ≤ 1 then s.endBurst l
    else (s.updDrive l fun d => { d with burst := some (n - 1) }).startCirculate l

/-- Whether a line may circulate: READY, or HELD with grout, and no burst running (R15). -/
def State.mayCirculate (s : State) (l : LineId) : Bool :=
  (s.drive.get l).burst.isNone &&
    (s.lineState l == .ready || (s.lineState l == .held && (s.seq.get l).holdsGrout))

end Sys2Proof.Machine
end

