-- ==== Sys2Proof/Machine/Completion.lean ====
section
/-! DEFINITION. What a stroke completion does: the credit, charge and flush completion, the volume limit
and thickening (R13, R25, R34, R35, R83 to R86). -/

namespace Sys2Proof.Machine

/-- Charging is complete: rate step 0, then a waiting INJECT runs, or the line moves to READY (R13). -/
def State.chargeComplete (s : State) (l : LineId) : State :=
  let s1 := (s.writeRate l 0 none).runSlot l .chargeCompletion
  if s1.lineState l = .charging then
    ((s1.updSeq l fun q =>
      { q with state := .ready, standingTimer := .startSeconds s.envelope.standingLimit }).updDrive l fun d =>
      { d with staticTimer := s.staticStart l }).updReg l Regulator.arm
  else s1

/-- A CHARGE completion counted (R13). -/
def State.chargeDone (s : State) (l : LineId) : State :=
  let s1 := s.updSeq l fun q => { q with chargeCount := q.chargeCount + 1 }
  if (s.seq.get l).chargeCount + 1 = (s.seq.get l).nc then s1.chargeComplete l else s1

/-- The flush is complete: rate step 0, the holds-grout flag clears, the line moves to IDLE and a
waiting SEAT runs (R25). -/
def State.flushComplete (s : State) (l : LineId) : State :=
  ((s.writeRate l 0 none).updSeq l fun q => { q with holdsGrout := false, state := .idle }).runSlot l
    .flushCompletion

/-- A FLUSH completion counted (R25). -/
def State.flushDone (s : State) (l : LineId) : State :=
  let s1 := s.updSeq l fun q => { q with flushCount := q.flushCount + 1 }
  if (s.seq.get l).flushCount + 1 = (s.seq.get l).nf then s1.flushComplete l else s1

/-- The volume of the last mix-step entry, in mL (R85). -/
def Record.stepVolume (r : Record) : Nat := (r.steps.getLast?.map (·.volume)).getD 0

/-- The stage length of a record, in dm (R49). -/
def Record.ls (r : Record) : Nat := r.bottom - r.top

/-- The last pn stands below the last lower band; an absent pn does not (R85). -/
def Regulator.belowBand (g : Regulator) : Bool :=
  match g.pn, g.lowerBand with
  | some pn, some low => decide (pn < low)
  | _, _ => false

/-- The four conditions of thickening (R85). -/
def State.thickens (s : State) (l : LineId) (r : Record) (mix : Nat) : Bool :=
  decide (0 < s.mixStep mix) && decide (s.mixStep mix ≤ perMetre r.stepVolume r.ls) &&
    decide (mix < r.thickest) && (s.reg.get l).belowBand

/-- The next enabled code above a mix, not above the thickest (R86). -/
def State.nextMix (s : State) (mix thickest : Nat) : Option Nat :=
  (List.range' (mix + 1) (thickest - mix)).find? s.mixEnabled

/-- The ladder advances one rung (R86). -/
def State.thicken (s : State) (l : LineId) (mix : Nat) : State :=
  ((s.updSeq l fun q => { q with currentMix := some mix }).appendMixStep l mix).latchAll .mixChange

/-- The thickening test and the advance (R83 steps 2 to 4). -/
def State.tryThicken (s : State) (l : LineId) (r : Record) : State :=
  match (s.seq.get l).currentMix with
  | none => s
  | some mix =>
    if s.thickens l r mix then
      match s.nextMix mix r.thickest with
      | some m => s.thicken l m
      | none => s
    else s

/-- An INJECT completion evaluated: the volume limit first, then thickening (R83 to R86). -/
def State.evaluateInject (s : State) (l : LineId) : State :=
  match s.openRec.get l with
  | none => s
  | some r =>
    if r.vmax ≤ perMetre r.injected r.ls then s.stageEnd l .volumeLimit none else s.tryThicken l r

/-- The credit of a completed stroke by its purpose (R34, R35 step 2). -/
def State.creditStroke (s : State) (l : LineId) (k : Stroke) : State :=
  match k.purpose with
  | .test => s.updReg l fun g => { g with testVolume := g.testVolume + k.volume }
  | .charge => s.updRec l fun r => { r with charge := r.charge + k.volume }
  | .inject =>
    s.updRec l fun r => { r with injected := r.injected + k.volume, steps := creditLast k.volume r.steps }
  | .circulate | .flush => s

/-- The action on the report of a completion (R35 step 4). -/
def State.completionAction (s : State) (l : LineId) : StrokePurpose → State
  | .test => s
  | .charge => s.chargeDone l
  | .inject => s.evaluateInject l
  | .circulate => s.circulateDone l
  | .flush => s.flushDone l

/-- Step 5 of R35: the next stroke starts if the drive has a purpose, no stroke, no burst and a nonzero
pending rate step. -/
def State.nextStroke (s : State) (l : LineId) : State :=
  let d := s.drive.get l
  if d.purpose ≠ .none && d.stroke.isNone && d.burst.isNone && d.pendingRate ≠ 0 then s.startStroke l none
  else s

/-- A line in CHARGING whose drive has a nonzero rate step and no stroke: a CHARGE completion has left its step
5 to come (R35, log 25). -/
def State.owesStroke (s : State) (l : LineId) : Bool :=
  let d := s.drive.get l
  s.lineState l == .charging && (s.seq.get l).currentMix.isSome && d.purpose == .charge && d.stroke.isNone &&
    d.burst.isNone && d.pendingRate != 0

/-- Whether the next stroke waits until all that comes together with the completion has been taken (R35, last
paragraph): a CHARGE stroke that has run for some time. DESIGN CHOICE (log 25): INJECT and TEST strokes start at
once (R88, R73), and so does the successor of a stroke for which no time has been counted. -/
def Drive.startsLater (d : Drive) (k : Stroke) : Bool :=
  k.purpose == .charge && decide (0 < d.watch.getD 0)

/-- A running stroke completes (R35). Its successor starts within the completion, or later in the same
millisecond: a write of 0 taken before then finds no running stroke, and no next stroke starts. -/
def State.completeStroke (s : State) (l : LineId) (k : Stroke) : State :=
  let s1 := ((s.creditStroke l k).updDrive l fun d => { d with stroke := none, watch := none }).completionAction l
    k.purpose
  if (s.drive.get l).startsLater k then s1 else s1.nextStroke l

end Sys2Proof.Machine
end

