-- ==== Sys2Proof/Machine/Regulation.lean ====
section
/-! DEFINITION. Taking a sample: classification, the pressures at the stage, the limit, the connection
watch, the test accumulation and the decision (R46 to R66, R72, R75, R130, R131). -/

namespace Sys2Proof.Machine

/-! ### The reading (R47) -/

/-- The gauge value a valid reading is taken as: a negative one as 0, full scale or above as saturated
(R47). -/
def classify (fullScale : Nat) (kPa : Int) : Gauge :=
  if (fullScale : Int) ≤ kPa then ⟨fullScale, true⟩ else ⟨kPa.toNat, false⟩

/-- The regulator after a valid reading is stored (R47). -/
def Regulator.validReading (g : Regulator) (gauge : Gauge) : Regulator :=
  { g with gauge := some gauge, lastReading := .valid, invalidCount := 0 }

/-- The regulator after an invalid reading: the count rises to at most 3 (R47). -/
def Regulator.invalidReading (g : Regulator) : Regulator :=
  { g with lastReading := .invalid, invalidCount := min 3 (g.invalidCount + 1) }

/-! ### The pressures (R48 to R50) -/

/-- The flow Q in dL/min of the stroke in progress (R48). -/
def State.flow (s : State) (l : LineId) : Nat :=
  match (s.drive.get l).stroke with
  | some k => if k.running then s.strokeVolume l * 600 / k.period else 0
  | none => 0

/-- The line loss F in kPa (R48). -/
def State.lineLoss (s : State) (l : LineId) : Nat := (s.lineTable.get l).k * s.flow l / 100

/-- The gradient of what the line is taken to hold, in daPa/m; none where no Hg is computed (R49). -/
def State.columnGradient (s : State) (l : LineId) : Option Nat :=
  match s.lineState l with
  | .seated | .testing | .flushing => some Config.waterGradient
  | .charging | .ready | .injecting | .held =>
    some (((s.seq.get l).currentMix.map s.mixGradient).getD 0)
  | .off | .idle | .fault => none

/-- The hydrostatic term of a gradient at the line's midpoint; 0 with the geometry absent (R49). -/
def State.columnPressure (s : State) (l : LineId) (gradient : Nat) : Nat :=
  match (s.reg.get l).geometry with
  | some geo => roundThousandth (gradient * geo.mid)
  | none => 0

/-- The effective pressure pe at the stage (R50). -/
def State.effectivePressure (s : State) (l : LineId) (pg : Nat) : Option Nat :=
  (s.columnGradient l).map fun g => pg + s.columnPressure l g - s.lineLoss l

/-- Whether pn is computed in the line's state (R50). -/
def State.computesPn (s : State) (l : LineId) : Bool :=
  match s.lineState l with
  | .seated => (s.seq.get l).settled
  | .testing | .charging | .ready | .injecting | .held => true
  | .off | .idle | .flushing | .fault => false

/-! ### The limit (R53 to R56) -/

/-- The INJECTING limit: Pmax applied when v is 0, else the lesser of it and the GIN term (R54). -/
def ginLimit (r : Record) (v : Nat) : Nat :=
  if v = 0 then r.pmaxApplied else min r.pmaxApplied (r.gin * 10 / v)

/-- The base limit B by the line's state (R54). -/
def State.baseLimit (s : State) (l : LineId) (r : Record) (v : Nat) : Nat :=
  match s.lineState l with
  | .testing => min ((s.reg.get l).testTarget.getD 0) r.pmaxApplied
  | .ready | .injecting => ginLimit r v
  | .held => if (s.seq.get l).resume = some .charging then r.pmaxApplied else ginLimit r v
  | .off | .idle | .seated | .charging | .flushing | .fault => r.pmaxApplied

/-- The excursion threshold of a limit (R56). -/
def excursionThreshold (plim tolerance : Nat) : Nat := plim + plim * tolerance / 100

/-- The lower band of a limit (R56). -/
def lowerBandOf (plim band : Nat) : Nat := plim * (100 - band) / 100

/-- The pressures of one sample at a stage (R50, R53 to R56). -/
structure Pressures where
  pn : Nat
  v : Nat
  plim : Nat
  threshold : Nat
  lower : Nat
deriving DecidableEq, Repr

/-- pn, v and the limits of a sample, where pn is computed: the line's state computes it, pf is present
and a record is open (R50, R53 to R56). -/
def State.stagePressures (s : State) (l : LineId) (pe : Nat) : Option Pressures :=
  if s.computesPn l then
    match (s.reg.get l).pf, s.openRec.get l with
    | some pf, some r =>
      let v := perMetre r.injected r.ls
      let plim := underCeiling (s.baseLimit l r v) (s.ceiling.get l)
      some
        { pn := pe - pf
          v := v
          plim := plim
          threshold := excursionThreshold plim s.envelope.tolerance
          lower := lowerBandOf plim s.envelope.band }
    | _, _ => none
  else none

/-- The last pressures replaced by this sample's, or made absent (R57). -/
def Regulator.storePressures (g : Regulator) (pe : Option Nat) (p : Option Pressures) : Regulator :=
  { g with
    pe := pe
    pn := p.map (·.pn)
    plim := p.map (·.plim)
    lowerBand := p.map (·.lower)
    v := p.map (·.v) }

/-- The lowest-ceiling field after a sample under a ceiling (R55). -/
def lowerCeiling (old : Option Nat) (ceiling : Nat) : Option Nat :=
  if ceiling = 0 then old
  else
    match old with
    | none => some ceiling
    | some c => some (min c ceiling)

/-- What a sample that computes pn writes to the open record: the peak and the lowest ceiling (R55,
R58). -/
def State.recordSample (s : State) (l : LineId) (pn : Nat) : State :=
  s.updRec l fun r =>
    { r with peak := max r.peak pn, lowestCeiling := lowerCeiling r.lowestCeiling (s.ceiling.get l) }

/-! ### The connection watch (R128 to R133) -/

/-- The neighbours named in a line's entry (R130, R171). -/
def LineEntry.neighbours (e : LineEntry) : List LineId := e.neighbour1.toList ++ e.neighbour2.toList

/-- A line pumps into its stage: INJECTING with a current rate step above 0 (R130). -/
def State.pumping (s : State) (l : LineId) : Bool :=
  s.lineState l == .injecting && decide (0 < (s.drive.get l).rate)

/-- The neighbours of a line that are pumping: the suspect set (R130). -/
def State.suspects (s : State) (l : LineId) : LineSet :=
  .ofList ((s.lineTable.get l).neighbours.filter s.pumping)

/-- A detection at a line (R131): capture, hold, record, events, baseline. -/
def State.detectConnection (s : State) (l : LineId) (pe base : Nat) (suspects : LineSet) : State :=
  let cap : Capture :=
    { line := l
      seqNo := ((s.openRec.get l).map (·.seqNo)).getD 0
      time := s.stamp
      baseline := base
      pressure := pe
      rise := pe - base
      suspects := suspects }
  let s1 : State := { s with capture := s.capture.set l (some cap) }
  let s2 := s1.holdOperation (s1.holds.merge .watch suspects s1.stamp)
  let s3 := s2.updRec l fun r =>
    let r' := { r with connCount := satSucc r.connCount }
    if r.connections.length < Config.maxConnections then
      Record.timeWritten { r' with connections := r.connections ++ [⟨suspects, pe - base, s.now⟩] } s.clock
    else r'
  ((s3.latchAll .connection).latchAll .holdChange).updReg l fun g => { g with baseline := some pe }

/-- pe handed to the connection watch: passed over while disarmed; the first sample sets the baseline;
later ones are tested (R128, R130). -/
def State.watchSample (s : State) (l : LineId) (pe : Nat) : State :=
  if (s.reg.get l).watchArmed then
    match (s.reg.get l).baseline with
    | none => s.updReg l fun g => { g with baseline := some pe }
    | some base =>
      if base + s.envelope.rise ≤ pe && !(s.suspects l).isEmpty then
        s.detectConnection l pe base (s.suspects l)
      else s
  else s

/-! ### The decision (R59 to R64) -/

/-- pn handed to the test accumulation while test running is yes (R57 step 5, R72). -/
def Regulator.accumulate (g : Regulator) (pn : Nat) : Regulator :=
  if g.testRunning then
    { g with pressureSum := g.pressureSum + pn, sampleCount := g.sampleCount + 1 }
  else g

/-- An excursion: rate step 0, the flag, the record's count, EXCURSION, the refusal timer (R59). -/
def State.excursion (s : State) (l : LineId) : State :=
  ((((s.writeRate l 0 none).updReg l fun g => { g with excursionStop := true }).updRec l fun r =>
    { r with excursions := satSucc r.excursions }).latchAll .excursion).updReg l fun g =>
    { g with refusalTimer := .stopped }

/-- Whether a sample is an excursion (R59). -/
def isExcursion (p : Pressures) (gauge : Gauge) : Bool := decide (p.threshold < p.pn) || gauge.saturated

/-- The rate cap of the line's stage (R61). -/
def State.rateCap (s : State) (l : LineId) : Nat := ((s.openRec.get l).map (·.rateCap)).getD 0

/-- Steps 3 to 5: one step slower above the limit, one faster below the band (R61). -/
def State.adjustRate (s : State) (l : LineId) (p : Pressures) : State :=
  let r := (s.drive.get l).rate
  if p.plim < p.pn then s.writeRate l (max 1 (r - 1)) none
  else if p.pn < p.lower then s.writeRate l (min (s.rateCap l) (r + 1)) none
  else s

/-- Step 6: the refusal timer starts, runs on or is cancelled (R64). It is taken only while the line is
still in INJECTING (log 9). -/
def State.refusalStep (s : State) (l : LineId) (p : Pressures) : State :=
  if s.lineState l = .injecting then
    if (s.drive.get l).rate ≤ s.timing.refusalStep && decide (p.lower ≤ p.pn) then
      s.updReg l fun g =>
        { g with
          refusalTimer :=
            if g.refusalTimer.isRunning then g.refusalTimer else .startSeconds s.timing.refusalDwell }
    else s.updReg l fun g => { g with refusalTimer := .stopped }
  else s

/-- An excursion stop cleared with a rate step written (R60, R63). -/
def State.clearStop (s : State) (l : LineId) (r : Nat) : State :=
  (s.updReg l fun g => { g with excursionStop := false }).writeRate l r none

/-- The decision in INJECTING (R59 to R61, R64). Under an excursion stop a saturated reading keeps the
stop, whatever pn it gives (R60, log 7). -/
def State.decideInjecting (s : State) (l : LineId) (p : Pressures) (gauge : Gauge) : State :=
  if (s.reg.get l).excursionStop then
    (if decide (p.pn ≤ p.lower) && !gauge.saturated then s.clearStop l 1 else s).refusalStep l p
  else if isExcursion p gauge then s.excursion l
  else (s.adjustRate l p).refusalStep l p

/-- The decision in TESTING: an excursion cuts the test short; no refusal timer (R62, R75). -/
def State.decideTesting (s : State) (l : LineId) (p : Pressures) (gauge : Gauge) : State :=
  if isExcursion p gauge then (s.excursion l).endTest l .cutShort else s.adjustRate l p

/-- The decision in CHARGING: the excursion check alone (R63). -/
def State.decideCharging (s : State) (l : LineId) (p : Pressures) (gauge : Gauge) : State :=
  if (s.reg.get l).excursionStop then
    if p.pn ≤ p.lower then s.clearStop l s.timing.chargeStep else s
  else if isExcursion p gauge then s.excursion l
  else s

/-- Step 6 of R57: the decision by the line's state. -/
def State.decideSample (s : State) (l : LineId) (p : Pressures) (gauge : Gauge) : State :=
  match s.lineState l with
  | .injecting => s.decideInjecting l p gauge
  | .testing => s.decideTesting l p gauge
  | .charging => s.decideCharging l p gauge
  | .off | .idle | .seated | .ready | .held | .flushing | .fault => s

/-- pe handed to the watch, if it was computed (R57 step 5). -/
def State.handToWatch (s : State) (l : LineId) : Option Nat → State
  | none => s
  | some pe => s.watchSample l pe

/-- A valid sample, as one operation (R57). -/
def State.validSample (s : State) (l : LineId) (kPa : Int) : State :=
  let gauge := classify (s.lineTable.get l).fullScale kPa
  let pe := s.effectivePressure l gauge.pg
  let p := pe.bind (s.stagePressures l)
  let s1 := s.updReg l fun g => (g.validReading gauge).storePressures pe p
  match p with
  | none => s1.handToWatch l pe
  | some p =>
    ((((s1.recordSample l p.pn).handToWatch l pe).updReg l (·.accumulate p.pn)).decideSample l p gauge)

/-- An invalid sample: nothing but the count, and a sensor failure at the third in a row and after
(R47). -/
def State.invalidSample (s : State) (l : LineId) : State :=
  let s1 := s.updReg l Regulator.invalidReading
  if (s1.reg.get l).invalidCount = 3 then s1.lineFault l .sensor else s1

/-- A sample of a line that samples (every state but OFF), the sample timer starting again (R46, R47). -/
def State.takeSample (s : State) (l : LineId) (r : Reading) : State :=
  let s1 := s.updReg l fun g => { g with sampleTimer := .running 0 Config.samplePeriod }
  match r with
  | .value kPa => s1.validSample l kPa
  | .invalid => s1.invalidSample l

end Sys2Proof.Machine
end

