-- ==== Sys2Proof/Machine/Operands.lean ====
section
/-! DEFINITION. The encodings of values in payloads (R182): big-endian fields, flags, codes and absent
values. -/

namespace Sys2Proof.Machine

/-- A value sent in `n` bytes, high byte first (R182). -/
def be : Nat → Nat → List Byte
  | 0, _ => []
  | n + 1, v => BitVec.ofNat 8 (v / 256 ^ n) :: be n v

/-- One byte. -/
def u8 (v : Nat) : List Byte := be 1 v

/-- Two bytes. -/
def u16 (v : Nat) : List Byte := be 2 v

/-- Four bytes. -/
def u32 (v : Nat) : List Byte := be 4 v

/-- A yes/no byte (R182). -/
def yesNo (b : Bool) : List Byte := u8 b.toNat

/-- A value that is sent as 0 when absent (R182). -/
def orZero (v : Option Nat) : Nat := v.getD 0

/-- An event set in two bytes, events 15 to 8 first (R182). -/
def eventSetBytes (e : EventSet) : List Byte := u16 e.toNat

/-- A clock time in five bytes (R182). -/
def ClockTime.bytes (t : ClockTime) : List Byte := u16 t.day ++ be 3 t.second

/-- A stamped time in six bytes (R182). -/
def Stamp.bytes (t : Stamp) : List Byte := t.time.bytes ++ yesNo t.unset

/-- The code of a line state (R182). -/
def LineState.code : LineState → Nat
  | .off => 0
  | .idle => 1
  | .seated => 2
  | .testing => 3
  | .charging => 4
  | .ready => 5
  | .injecting => 6
  | .held => 7
  | .flushing => 8
  | .fault => 9

/-- The wait causes: bit 0 HOLD, bit 1 SUPPLY (R182). -/
def waitCode (hold supply : Bool) : Nat := hold.toNat + 2 * supply.toNat

/-- The code of a tank state (R182). -/
def TankState.code : TankState → Nat
  | .unfitted => 0
  | .empty => 1
  | .stocked => 2
  | .stale => 3

/-- The code of a fault cause, 0 when absent (R182). -/
def faultCode : Option FaultCause → Nat
  | none => 0
  | some .sensor => 1
  | some .stroke => 2
  | some .reset => 3

/-- The code of an end reason (R182). -/
def EndReason.code : EndReason → Nat
  | .refusal => 1
  | .volumeLimit => 2
  | .operator => 3
  | .withdrawn => 4
  | .abort => 5
  | .staticTimeout => 6
  | .fault => 7
  | .reset => 8

/-- The code of a starting-mix source, 0 when absent (R182). -/
def mixSourceCode : Option MixSource → Nat
  | none => 0
  | some .explicit => 1
  | some .band => 2
  | some .clamped => 3

/-- The code of a status (R156). -/
def Status.code : Status → Nat
  | .ok => 0
  | .deferred => 1
  | .busy => 2
  | .held => 3
  | .range => 4
  | .rights => 5
  | .unknown => 6
  | .conflict => 7
  | .absent => 8
  | .notQuiet => 9

/-- The port of an origin, 0 when absent (R182). -/
def portCode (p : Option Port) : Nat := orZero (p.map Port.num)

/-- A flag byte from its bits, bit 0 first. -/
def flagByte : List Bool → Nat
  | [] => 0
  | b :: bs => b.toNat + 2 * flagByte bs

end Sys2Proof.Machine
end

