-- ==== Sys2Proof/Machine/Layouts.lean ====
section
/-! DEFINITION. The layouts of responses: records, snapshot parts, the hold map, the demand list, settings
and the frame around them (R120, R152, R184 to R187), and what the reading requests report. -/

namespace Sys2Proof.Machine

/-! ### The stage record (R185) -/

/-- The water-test bytes of a record, 16 of them, zeros when absent (R185). -/
def testBytes : Option TestResult → List Byte
  | none => be 16 0
  | some t =>
    u16 t.target ++ u16 t.duration ++ u16 t.elapsed ++ u16 t.samples ++ u16 t.mean ++ u32 t.volume ++ u16 t.tLu

/-- A mix-step entry, 10 bytes (R185). -/
def MixStep.bytes (m : MixStep) : List Byte := u8 m.code ++ u32 m.volume ++ m.entered.bytes

/-- A connection entry, 8 bytes (R185). -/
def ConnEntry.bytes (c : ConnEntry) : List Byte := [c.suspects.toByte] ++ u16 c.rise ++ c.time.bytes

/-- The presence byte of a record (R185, offset 24). -/
def Record.presence (r : Record) : Nat :=
  flagByte [r.lowestCeiling.isSome, r.pf.isSome, r.test.isSome, r.ending.isSome]

/-- The flags byte of a record (R185, offset 25). -/
def Record.flags (r : Record) : Nat :=
  flagByte [r.clamped, r.noGauge, r.clockUnset, (r.test.map (·.cutShort)).getD false,
    (r.test.map (·.lowPressure)).getD false]

/-- The identity and envelope fields of a record, offsets 0 to 23 (R185). -/
def Record.headBytes (r : Record) : List Byte :=
  u16 (orZero r.entry) ++ u16 r.seqNo ++ u8 r.line.num ++ u16 r.hole ++ u8 r.stage ++ u8 r.order ++
  u16 r.top ++ u16 r.bottom ++ u16 r.pmaxRequested ++ u16 r.pmaxApplied ++ u32 r.gin ++ u16 r.vmax ++
  u8 r.rateCap

/-- The fields of a record from the presence byte to the excursion count, offsets 24 to 64 (R185). -/
def Record.midBytes (r : Record) : List Byte :=
  u8 r.presence ++ u8 r.flags ++ u16 (orZero r.lowestCeiling) ++ u16 (orZero r.pf) ++ testBytes r.test ++
  u8 r.startMix ++ u8 (mixSourceCode r.startSource) ++ u8 r.thickest ++ u32 r.charge ++ u32 r.injected ++
  u32 r.unplaced ++ u16 r.peak ++ u16 r.excursions

/-- The end time of a record, zeros while open (R185, offset 85). -/
def Record.endTime (r : Record) : ClockTime :=
  match r.ending with
  | some e => e.time
  | none => ⟨0, 0⟩

/-- The fields of a record from the final values to the list counts, offsets 65 to 93 (R185). -/
def Record.tailBytes (r : Record) : List Byte :=
  u16 (orZero (r.ending.map (·.pn))) ++ u16 (orZero (r.ending.map (·.limit))) ++
  u8 (orZero (r.ending.map (·.rate))) ++ u16 r.holdEpisodes ++ u16 r.supplyEpisodes ++ u32 r.heldSeconds ++
  u16 r.connCount ++ r.seatTime.bytes ++ r.endTime.bytes ++
  u8 (orZero (r.ending.map (·.reason.code))) ++ u8 (portCode (r.ending.bind (·.origin))) ++
  u8 r.steps.length ++ u8 r.connections.length

/-- A record as READ_OPEN and READ_LOG carry it (R185). -/
def Record.bytes (r : Record) : List Byte :=
  r.headBytes ++ r.midBytes ++ r.tailBytes ++ r.steps.flatMap MixStep.bytes ++
  r.connections.flatMap ConnEntry.bytes

/-- A capture record, 16 bytes (R184, 34h). -/
def Capture.bytes (c : Capture) : List Byte :=
  u8 c.line.num ++ u16 c.seqNo ++ c.time.bytes ++ u16 c.baseline ++ u16 c.pressure ++ u16 c.rise ++
  [c.suspects.toByte]

/-! ### The hold map and the demand list (R187) -/

/-- One hold entry, 8 bytes, with its key order (R187). -/
def holdEntryBytes (k : HoldKey) (e : HoldEntry) : List Byte :=
  u8 k.num ++ [e.lines.toByte] ++ e.placed.bytes

/-- The entries present in the map, in key order (R115). -/
def HoldMap.entries (m : HoldMap) : List (HoldKey × HoldEntry) :=
  HoldKey.all.filterMap fun k => (m.get k).map fun e => (k, e)

/-- The hold map: a count and the entries in key order (R120, R187). -/
def HoldMap.bytes (m : HoldMap) : List Byte :=
  u8 m.entries.length ++ m.entries.flatMap fun ke => holdEntryBytes ke.1 ke.2

/-- The least volume of a demand entry: the sum of E over its lines (R111). -/
def State.leastVolume (s : State) (e : DemandEntry) : Nat := (e.waiting.map s.strokeVolume).sum

/-- One demand entry, 12 + n bytes (R187). -/
def State.demandEntryBytes (s : State) (e : DemandEntry) : List Byte :=
  u8 e.mix ++ e.created.bytes ++ u8 e.waiting.length ++ e.waiting.flatMap (fun l => u8 l.num) ++
  u32 (s.leastVolume e)

/-- The demand list: a count and the entries head first (R111, R187). -/
def State.demandBytes (s : State) : List Byte :=
  u8 s.demand.length ++ s.demand.flatMap s.demandEntryBytes

/-! ### Tanks, status and clock (R110, R162, R181) -/

/-- The time to stale of a tank in s (R110): for STOCKED what remains, 0 for STALE, else absent. -/
def State.timeToStale (s : State) (t : TankId) : Option Nat :=
  match (s.tanks.get t).state with
  | .stocked => some (s.expiryMoment t - s.runSeconds)
  | .stale => some 0
  | .unfitted | .empty => none

/-- The READ_TANKS entry of one tank, 17 bytes (R110, R184). -/
def State.tankBytes (s : State) (t : TankId) : List Byte :=
  let k := s.tanks.get t
  let e := s.tankTable.get t
  u8 k.state.code ++ u8 (orZero k.mix) ++ u32 k.level ++ u16 e.capacity ++ u8 e.ageLimit ++
  u32 (orZero (s.tankAge t)) ++ u32 (orZero (s.timeToStale t))

/-- The payload of READ_TANKS (R110). -/
def State.tanksBytes (s : State) : List Byte := TankId.all.flatMap s.tankBytes

/-- The STATUS bytes of one line: state, wait causes, indicators, fault cause (R162, R184). -/
def State.statusLineBytes (s : State) (l : LineId) : List Byte :=
  let q := s.seq.get l
  u8 q.state.code ++ u8 (waitCode q.waitHold q.waitSupply) ++
  u8 (flagByte [(s.reg.get l).excursionStop, q.holdsGrout]) ++ u8 (faultCode q.faultCause)

/-- The payload of STATUS, 31 bytes (R162, R184). -/
def State.statusBytes (s : State) : List Byte :=
  LineId.all.flatMap s.statusLineBytes ++ TankId.all.flatMap (fun t => u8 (s.tanks.get t).state.code) ++
  yesNo s.clock.isSet ++ Port.all.flatMap fun p => u8 (orZero (s.port.get p).supervision)

/-- The payload of READ_CLOCK, 10 bytes (R181, R184). -/
def State.clockBytes (s : State) : List Byte := s.now.bytes ++ yesNo s.clock.isSet ++ u32 s.runSeconds

/-! ### Snapshots (R163, R164, R186) -/

/-- The snapshot header as it stands (R163). -/
def State.snapHeader (s : State) : SnapHeader := ⟨s.now, s.clock.isSet, s.runSeconds⟩

/-- The snapshot entry of a tank as it stands (R163). -/
def State.snapTank (s : State) (t : TankId) : SnapTank where
  state := (s.tanks.get t).state
  mix := (s.tanks.get t).mix
  level := (s.tanks.get t).level
  age := s.tankAge t

/-- The snapshot entry of a line as it stands (R163). -/
def State.snapLine (s : State) (l : LineId) : SnapLine where
  state := (s.seq.get l).state
  waitHold := (s.seq.get l).waitHold
  waitSupply := (s.seq.get l).waitSupply
  rate := (s.drive.get l).rate
  gauge := (s.reg.get l).gauge
  pe := (s.reg.get l).pe
  pn := (s.reg.get l).pn
  plim := (s.reg.get l).plim
  v := (s.reg.get l).v
  mix := (s.seq.get l).currentMix
  tank := s.currentTank.get l
  injected := (s.openRec.get l).map (·.injected)

/-- The snapshot of the part as it stands (R163). -/
def State.takeSnapshot (s : State) : Snapshot where
  header := s.snapHeader
  tanks := s.tanks.mapIdx fun t _ => s.snapTank t
  lines := s.seq.mapIdx fun l _ => s.snapLine l

/-- The header, 10 bytes (R186). -/
def SnapHeader.bytes (h : SnapHeader) : List Byte := h.time.bytes ++ yesNo h.isSet ++ u32 h.runSeconds

/-- A tank entry, 10 bytes (R186). -/
def SnapTank.bytes (t : SnapTank) : List Byte :=
  u8 t.state.code ++ u8 (orZero t.mix) ++ u32 t.level ++ u32 (orZero t.age)

/-- The indicators of a line entry (R186, offset 3). -/
def SnapLine.indicators (x : SnapLine) : Nat :=
  flagByte [x.gauge.isSome, x.pe.isSome, x.pn.isSome, x.plim.isSome, x.v.isSome, x.injected.isSome,
    (x.gauge.map (·.saturated)).getD false]

/-- A line entry, 20 bytes (R186). -/
def SnapLine.bytes (x : SnapLine) : List Byte :=
  u8 x.state.code ++ u8 (waitCode x.waitHold x.waitSupply) ++ u8 x.rate ++ u8 x.indicators ++
  u16 (orZero (x.gauge.map (·.pg))) ++ u16 (orZero x.pe) ++ u16 (orZero x.pn) ++ u16 (orZero x.plim) ++
  u16 (orZero x.v) ++ u8 (orZero x.mix) ++ u8 (orZero (x.tank.map TankId.num)) ++ u32 (orZero x.injected)

/-- A part of a snapshot, if the number names one (R164, R186). -/
def Snapshot.part (x : Snapshot) : Nat → Option (List Byte)
  | 0 => some (x.header.bytes ++ x.tanks.toList.flatMap SnapTank.bytes)
  | 1 => some (x.lines.l1.bytes ++ x.lines.l2.bytes ++ x.lines.l3.bytes)
  | 2 => some (x.lines.l4.bytes ++ x.lines.l5.bytes ++ x.lines.l6.bytes)
  | _ => none

/-! ### Settings (R178, R184) -/

/-- A line table entry as WRITE_LINE carries it, 17 bytes (R184). The neighbour bytes stand as they were
written (log 17). -/
def LineEntry.bytes (e : LineEntry) (l : LineId) : List Byte :=
  u8 l.num ++ yesNo e.enabled ++ u16 e.displacement ++ u8 e.efficiency ++ u16 e.tmin ++ u16 e.k ++
  u32 e.lineVolume ++ u16 e.fullScale ++ u8 (orZero (e.neighbour1.map LineId.num)) ++
  u8 (orZero (e.neighbour2.map LineId.num))

/-- A mix table entry as WRITE_MIX carries it, 8 bytes; absent fields are 0 (R183, R184). -/
def mixEntryBytes (code : Nat) (e : MixEntry) : List Byte :=
  u8 code ++ yesNo e.enabled ++ u16 (orZero (e.fields.map (·.ratio))) ++
  u16 (orZero (e.fields.map (·.gradient))) ++ u16 (orZero (e.fields.map (·.step)))

/-- The band table, 11 bytes (R184). -/
def bandBytes (b : BandTable) : List Byte :=
  u16 b.b1 ++ u16 b.b2 ++ u16 b.b3 ++ u8 b.m1 ++ u8 b.m2 ++ u8 b.m3 ++ u8 b.m4 ++ u8 b.m0

/-- The timing table, 11 bytes (R184). -/
def timingBytes (t : TimingTable) : List Byte :=
  u16 t.packerSettle ++ u8 t.chargeStep ++ u8 t.flushStep ++ u8 t.flushFactor ++ u16 t.staticTime ++
  u8 t.circStrokes ++ u16 t.refusalDwell ++ u8 t.refusalStep

/-- The envelope table, 8 bytes (R184). -/
def envelopeBytes (e : EnvelopeTable) : List Byte :=
  u16 e.beta ++ u8 e.tolerance ++ u8 e.band ++ u16 e.rise ++ u16 e.standingLimit

/-- A tank table entry as WRITE_TANK carries it, 4 bytes (R184). -/
def State.tankEntryBytes (s : State) (t : TankId) : List Byte :=
  u8 t.num ++ u16 (s.tankTable.get t).capacity ++ u8 (s.tankTable.get t).ageLimit

/-- All eight mix entries, code order (R178). -/
def State.mixTableBytes (s : State) : List Byte :=
  (List.range' 1 8).flatMap fun code => ((s.mixTable.get? code).map (mixEntryBytes code)).getD []

/-- The settings table a READ_SETTINGS names, if it names one (R178). -/
def State.settingsBytes (s : State) (table index : Nat) : Option (List Byte) :=
  if table = 1 then (LineId.ofNat? index).map fun l => (s.lineTable.get l).bytes l
  else if index ≠ 0 then none
  else
    match table with
    | 2 => some s.mixTableBytes
    | 3 => some (bandBytes s.bands)
    | 4 => some (timingBytes s.timing)
    | 5 => some (envelopeBytes s.envelope ++ s.ceiling.toList.flatMap u16)
    | 6 => some (TankId.all.flatMap s.tankEntryBytes)
    | _ => none

/-! ### The log's range (R147) -/

/-- The payload of LOG_RANGE for a port, 12 bytes (R147, R184). -/
def State.logRangeBytes (s : State) (p : Port) : List Byte :=
  let q := s.port.get p
  u8 s.log.length ++ u16 (orZero (s.log.head?.map Record.number)) ++
  u16 (orZero (s.log.getLast?.map Record.number)) ++ u16 s.nextEntry ++ u16 q.mark ++
  u8 (s.unread q.mark) ++ u16 q.missed

/-! ### The check and the frames (R152, R182) -/

/-- One shift of the check register (R182 step 4). -/
def checkShift (r : BitVec 16) : BitVec 16 := if r.msb then (r <<< 1) ^^^ 0x1021 else r <<< 1

/-- The check register shifted `n` times. -/
def checkShifts : Nat → BitVec 16 → BitVec 16
  | 0, r => r
  | n + 1, r => checkShifts n (checkShift r)

/-- One byte taken into the check register (R182 steps 3 and 4). -/
def checkByte (r : BitVec 16) (b : Byte) : BitVec 16 := checkShifts 8 (r ^^^ ((b.setWidth 16) <<< 8))

/-- The 16-bit check over the bytes covered (R182). -/
def check (bytes : List Byte) : BitVec 16 := bytes.foldl checkByte 0xFFFF

/-- A request frame (R152). -/
def requestFrame (code : Byte) (payload : List Byte) : List Byte :=
  let body := BitVec.ofNat 8 payload.length :: code :: payload
  Config.requestStart :: (body ++ u16 (check body).toNat)

/-- The frame of a response, as the port sends it (R152, R156). -/
def Response.frame (r : Response) : List Byte :=
  let body := BitVec.ofNat 8 r.payload.length :: BitVec.ofNat 8 r.code :: BitVec.ofNat 8 r.status.code :: r.payload
  Config.responseStart :: (body ++ u16 (check body).toNat)

end Sys2Proof.Machine
end

