-- ==== Sys2Proof/Machine/Ports.lean ====
section
/-! DEFINITION. How a port takes a request and answers it (R154 to R156). A request command stands for the
valid frame that carries it (log 1). -/

namespace Sys2Proof.Machine

/-- What a command answers. -/
abbrev Result := Host.Outcome State Fault Refusal

/-- The status and payload an owner gives for a request (R155, R156). -/
structure Answer where
  status : Status
  payload : List Byte
deriving DecidableEq, Repr

/-- An answer without a payload. -/
def plain (st : Status) : Answer := ⟨st, []⟩

/-- While supervision is armed, a valid frame restarts the port's silence timer (R124, R154). -/
def PortState.restartSilence (q : PortState) : PortState :=
  { q with silence := if q.supervision.isSome then some 0 else q.silence }

/-- A valid frame on a port restarts its silence timer (R124). -/
def State.restartSilence (s : State) (p : Port) : State := s.updPort p (·.restartSilence)

/-- The port begins to send a response (R156). -/
def State.respond (s : State) (p : Port) (r : Response) : State :=
  s.updPort p fun q => { q with response := some r }

/-- A whole request on a port: discarded with FRAME_ERROR while a response is pending (R154); else the
silence timer restarts, the port's right is checked, the owner acts and the response begins (R154 to
R156). -/
def State.request (s : State) (p : Port) (code : Nat) (allowed : List Port)
    (owner : State → State × Answer) : State :=
  if (s.port.get p).response.isSome then s.latchOn p .frameError
  else
    let s1 := s.restartSilence p
    if allowed.contains p then
      let r := owner s1
      r.1.respond p ⟨code, r.2.status, r.2.payload⟩
    else s1.respond p ⟨code, .rights, []⟩

/-- A request that only reads: its owner answers and changes nothing. -/
def reading (f : State → Answer) (s : State) : State × Answer := (s, f s)

/-- An owner's action at a line number, RANGE for a number outside 1 to 6 (R6 step 1). -/
def onLine (line : Nat) (f : LineId → State → State × Answer) (s : State) : State × Answer :=
  match LineId.ofNat? line with
  | some l => f l s
  | none => (s, plain .range)

/-- An owner's action at a tank number, RANGE for a number outside 1 to 3 (R99, R100, R177). -/
def onTank (tank : Nat) (f : TankId → State → State × Answer) (s : State) : State × Answer :=
  match TankId.ofNat? tank with
  | some t => f t s
  | none => (s, plain .range)

end Sys2Proof.Machine
end

