-- ==== Sys2Proof/Machine/HoldRequests.lean ====
section
/-! DEFINITION. HOLD, RELEASE_HOLD, RELEASE_CONNECTION, SET_CEILING and SUPERVISE (R117 to R120, R123,
R127). -/

namespace Sys2Proof.Machine

/-- The three ports. -/
def anyPort : List Port := [.gallery, .monitor, .plant]

/-- An answer that carries the hold map as it now stands (R120). -/
def State.mapAnswer (s : State) (st : Status) : Answer := ⟨st, s.holds.bytes⟩

/-- HOLD: the set merged into the port's own entry (R117). -/
def holdOwner (p : Port) (lines : Byte) (s : State) : State × Answer :=
  if namesNoLine lines || (LineSet.ofByte lines).isEmpty then (s, plain .range)
  else
    let s1 := s.holdOperation (s.holds.merge (requestKey p) (LineSet.ofByte lines) s.stamp)
    (s1, s1.mapAnswer .ok)

/-- The removal of lines from the entry of a key, ABSENT without the entry (R118, R119). -/
def releaseAt (k : HoldKey) (lines : Byte) (s : State) : State × Answer :=
  if (s.holds.get k).isNone then (s, s.mapAnswer .absent)
  else
    let s1 := s.holdOperation (s.holds.release k (LineSet.ofByte lines))
    (s1, s1.mapAnswer .ok)

/-- The key a release reason names for a port: its own request entry or its own silence entry (R118,
R182). -/
def releaseKey (p : Port) (reason : Nat) : Option HoldKey :=
  match p, reason with
  | .gallery, 1 => some .gOperator
  | .monitor, 2 => some .mUplift
  | .plant, 3 => some .pPlant
  | p, 4 => some (silenceKey p)
  | _, _ => none

/-- RELEASE_HOLD (R118). -/
def releaseHoldOwner (p : Port) (reason : Nat) (lines : Byte) (s : State) : State × Answer :=
  if !inRange 1 5 reason || namesNoLine lines then (s, plain .range)
  else
    match releaseKey p reason with
    | none => (s, plain .rights)
    | some k => releaseAt k lines s

/-- RELEASE_CONNECTION (R119). -/
def releaseConnectionOwner (lines : Byte) (s : State) : State × Answer :=
  if namesNoLine lines then (s, plain .range) else releaseAt .watch lines s

/-- SET_CEILING at its line (R127). -/
def setCeilingAt (ceiling : Nat) (l : LineId) (s : State) : State × Answer :=
  if ceiling = 0 || inRange 100 9000 ceiling then
    ({ s with ceiling := s.ceiling.set l ceiling }, plain .ok)
  else (s, plain .range)

/-- SUPERVISE on its port (R123). -/
def superviseOwner (p : Port) (interval : Nat) (s : State) : State × Answer :=
  if 60 < interval then (s, plain .range)
  else if interval = 0 then (s.updPort p fun q => { q with supervision := none, silence := none }, plain .ok)
  else (s.updPort p fun q => { q with supervision := some interval, silence := some 0 }, plain .ok)

/-- HOLD (R117). -/
def execHold (p : Port) (lines : Byte) (s : State) : Result :=
  .next (s.request p 0x10 anyPort (holdOwner p lines))

/-- RELEASE_HOLD (R118). -/
def execReleaseHold (p : Port) (reason : Nat) (lines : Byte) (s : State) : Result :=
  .next (s.request p 0x11 anyPort (releaseHoldOwner p reason lines))

/-- RELEASE_CONNECTION (R119). -/
def execReleaseConnection (p : Port) (lines : Byte) (s : State) : Result :=
  .next (s.request p 0x12 [.gallery] (releaseConnectionOwner lines))

/-- SET_CEILING (R127). -/
def execSetCeiling (p : Port) (line ceiling : Nat) (s : State) : Result :=
  .next (s.request p 0x13 [.monitor] (onLine line (setCeilingAt ceiling)))

/-- SUPERVISE (R123). -/
def execSupervise (p : Port) (interval : Nat) (s : State) : Result :=
  .next (s.request p 0x14 anyPort (superviseOwner p interval))

end Sys2Proof.Machine
end

