-- ==== Sys2Proof/Machine/Cabinet.lean ====
section
/-! DEFINITION. Power-on, the cabinet reset and the RESET input (R28, R43, R46, R68, R70, R114, R135, R149,
R168, R169). -/

namespace Sys2Proof.Machine

/-- The state, fault cause and holds-grout flag a line takes at a cabinet reset (the table of R28). -/
def Sequencer.afterReset (q : Sequencer) : LineState × Option FaultCause × Bool :=
  match q.state with
  | .off => (.off, none, false)
  | .idle | .seated | .testing => (.idle, none, false)
  | .charging | .ready | .injecting | .held | .flushing | .fault =>
    if q.holdsGrout then (.fault, some .reset, true) else (.idle, none, false)

/-- A sequencer after a cabinet reset: the power-on values but for the three of R28's table. -/
def Sequencer.cabinetReset (q : Sequencer) : Sequencer :=
  { Sequencer.powerOn with
    state := q.afterReset.1
    faultCause := q.afterReset.2.1
    holdsGrout := q.afterReset.2.2 }

/-- A regulator after a cabinet reset: the power-on values, its sample timer started for a line that does
not come out in OFF (R46, R68). -/
def regulatorAfterReset (after : LineState) : Regulator :=
  { Regulator.powerOn with
    sampleTimer := if after = .off then .stopped else .running 0 Config.samplePeriod }

/-- A port after a cabinet reset (R168, R169): a response being sent goes on, the log state stays as the
appends left it, and RESTARTED alone is latched. A RESTART that waits is cancelled (log 19). -/
def PortState.cabinetReset (q : PortState) : PortState :=
  { PortState.powerOn with
    response := q.response
    mark := q.mark
    missed := q.missed
    latches := Event.restarted.bit }

/-- The open stage of a line, if there is one, ended with reason RESET (R28). -/
def State.resetStage (s : State) (l : LineId) : State :=
  if (s.lineState l).hasStage then s.endStage l .reset none true else s

/-- Every open stage ended with reason RESET, line 1 first (R28, R149). -/
def State.resetStages (s : State) : State := LineId.all.foldl State.resetStage s

/-- The blocks set after the stages have been closed: lines, drives, regulators, queue, current tanks, hold
map, capture records and ports (R28, R43, R68, R114, R135, R168). Settings, tanks, log, numbers and clock
stay. -/
def State.resetBlocks (s : State) : State :=
  { s with
    seq := s.seq.mapIdx fun _ q => q.cabinetReset
    drive := .const .powerOn
    reg := s.seq.mapIdx fun _ q => regulatorAfterReset q.afterReset.1
    currentTank := .const none
    demand := []
    holds := .empty
    capture := .const none
    port := s.port.mapIdx fun _ q => q.cabinetReset }

/-- A cabinet reset (R28, R168). -/
def State.cabinetReset (s : State) : State := s.resetStages.resetBlocks

/-- POWER_ON: every piece of state takes its initial value (R2, R29, R45, R97, R115, R136, R151, R170,
R180). The queue of commands is not the part's (log 21). -/
def execPowerOn (s : State) : Result := .next { State.reset with pending := s.pending }

/-- CABINET_RESET: the RESET input becomes asserted, and the reset takes place at that moment. While the
input stays asserted it causes no further reset (R168, log 19). -/
def execCabinetReset (s : State) : Result :=
  .next (if s.resetAsserted then s else { s.cabinetReset with resetAsserted := true })

/-- RESET_INPUT_DEASSERTED: the next assertion resets again (R168). -/
def execResetInputDeasserted (s : State) : Result := .next { s with resetAsserted := false }

end Sys2Proof.Machine
end

