-- ==== Sys2Proof/Machine/SupplyRequests.lean ====
section
/-! DEFINITION. DELIVER with the service of waiting lines, DUMP, READ_TANKS, READ_DEMAND and WRITE_TANK
(R99, R100, R107, R108, R110, R111, R113, R177). -/

namespace Sys2Proof.Machine

/-- A line that waits for supply leaves its list and loses SUPPLY (R107). -/
def State.freeWaiting (s : State) (l : LineId) (given : Option TankId) : State :=
  ((s.setDemand (strikeLine s.demand l)).updSeq l fun q => { q with waitSupply := false }).causeRemoved l given

/-- Whether a waiting line can start at once: not covered and no burst running (R107). -/
def State.canStart (s : State) (l : LineId) : Bool := !s.covered l && (s.drive.get l).burst.isNone

/-- One waiting line treated by a service, with the count of lines that have left (R107). -/
def serveLine (mix : Nat) (acc : State × Nat) (l : LineId) : State × Nat :=
  let s := acc.1
  match s.selectTank l mix (s.strokeVolume l) with
  | none => acc
  | some t =>
    if s.canStart l then ((s.payFrom l t (s.strokeVolume l)).freeWaiting l (some t), acc.2 + 1)
    else (s.freeWaiting l none, acc.2 + 1)

/-- The waiting list for a mix, empty without an entry (R107). -/
def State.waitingFor (s : State) (mix : Nat) : List LineId :=
  match s.demand.find? (·.mix == mix) with
  | some e => e.waiting
  | none => []

/-- The service of a mix's waiting list and its completion (R107, R108), with the number of lines that
left. -/
def State.serve (s : State) (mix : Nat) : State × Nat :=
  let r := (s.waitingFor mix).foldl (serveLine mix) (s, 0)
  let s1 := r.1.setDemand (dropEmptied r.1.demand)
  (if r.2 = 0 then s1 else s1.latchAll .supplyWait, r.2)

/-- The tank after an accepted delivery that gives it a level (R99). -/
def Tank.fill (t : Tank) (mix level now : Nat) : Tank :=
  if t.state = .stocked then { t with level := level } else ⟨.stocked, some mix, level, some now⟩

/-- The status of a DELIVER to a tank: the checks of R99 from the quantity on. -/
def State.deliverStatus (s : State) (t : TankId) (mix litres : Nat) : Status :=
  let k := s.tanks.get t
  if !inRange 1 4000 litres || !s.mixEnabled mix then .range
  else if k.state = .unfitted then .range
  else if k.state = .stale then .conflict
  else if k.state = .stocked && k.mix != some mix then .conflict
  else .ok

/-- DELIVER at its tank (R99). -/
def deliverAt (mix litres : Nat) (t : TankId) (s : State) : State × Answer :=
  match s.deliverStatus t mix litres with
  | .ok =>
    let full := (s.tankTable.get t).capacity * 1000
    let given := (s.tanks.get t).level + litres * 1000
    let s1 := s.updTank t fun k => k.fill mix (min given full) s.runSeconds
    let s2 := if full < given then s1.latchAll .clamped else s1
    let r := s2.serve mix
    (r.1, ⟨.ok, u32 (r.1.tanks.get t).level ++ u8 r.2⟩)
  | st => (s, plain st)

/-- DUMP at its tank (R100). -/
def dumpAt (t : TankId) (s : State) : State × Answer :=
  match (s.tanks.get t).state with
  | .unfitted => (s, plain .range)
  | .empty => (s, plain .ok)
  | .stocked | .stale => (s.updTank t fun _ => ⟨.empty, none, 0, none⟩, plain .ok)

/-- The tank's state after a capacity is written: it changes only in EMPTY and UNFITTED (R113). -/
def Tank.fitted (t : Tank) (capacity : Nat) : Tank :=
  match t.state with
  | .empty | .unfitted => { t with state := if capacity = 0 then .unfitted else .empty }
  | .stocked | .stale => t

/-- Whether a tank's grout has reached its age limit (R103). -/
def State.pastLimit (s : State) (t : TankId) : Bool :=
  (s.tanks.get t).state == .stocked && decide (s.expiryMoment t ≤ s.runSeconds)

/-- WRITE_TANK at its tank (R113, R177). -/
def writeTankAt (capacity ageLimit : Nat) (t : TankId) (s : State) : State × Answer :=
  if !inRange 0 4000 capacity || !inRange 10 240 ageLimit then (s, plain .range)
  else if capacity ≠ (s.tankTable.get t).capacity &&
      ((s.tanks.get t).state == .stocked || (s.tanks.get t).state == .stale) then (s, plain .notQuiet)
  else
    let s1 := ({ s with tankTable := s.tankTable.set t ⟨capacity, ageLimit⟩ } : State).updTank t (·.fitted capacity)
    (if s1.pastLimit t then s1.makeStale t else s1, plain .ok)

/-- DELIVER (R99). -/
def execDeliver (p : Port) (tank mix litres : Nat) (s : State) : Result :=
  .next (s.request p 0x20 [.plant] (onTank tank (deliverAt mix litres)))

/-- DUMP (R100). -/
def execDump (p : Port) (tank : Nat) (s : State) : Result :=
  .next (s.request p 0x21 [.plant] (onTank tank dumpAt))

/-- READ_TANKS (R110). -/
def execReadTanks (p : Port) (s : State) : Result :=
  .next (s.request p 0x22 anyPort (reading fun s => ⟨.ok, s.tanksBytes⟩))

/-- READ_DEMAND (R111). -/
def execReadDemand (p : Port) (s : State) : Result :=
  .next (s.request p 0x23 anyPort (reading fun s => ⟨.ok, s.demandBytes⟩))

/-- WRITE_TANK (R177). -/
def execWriteTank (p : Port) (tank capacity ageLimit : Nat) (s : State) : Result :=
  .next (s.request p 0x55 [.plant] (onTank tank (writeTankAt capacity ageLimit)))

end Sys2Proof.Machine
end

