-- ==== Sys2Proof/Machine/Due.lean ====
section
/-! DEFINITION. Which events can come in a millisecond, and what an event does that an earlier one of the same
millisecond has overtaken (R10, R35, R38, R39, R65, R74, R88, R92, R125, R153, R181; log 24). -/

namespace Sys2Proof.Machine

/-! ### Expiries due -/

/-- Whether a timer has run its time. -/
def Timer.expired : Timer → Bool
  | .stopped => false
  | .running elapsed limit => decide (limit ≤ elapsed)

/-- A command if a condition holds. -/
def dueIf (c : Bool) (i : Instr) : List Instr := if c then [i] else []

/-- Whether 20 ms have passed in RECEIVING (R153). -/
def Receiver.gapDue : Receiver → Bool
  | .hunt => false
  | .receiving _ gap => decide (Config.gapTime ≤ gap)

/-- Whether a port's silence timer has reached its interval (R125). -/
def PortState.silenceDue (q : PortState) : Bool :=
  match q.supervision, q.silence with
  | some interval, some t => decide (interval * 1000 ≤ t)
  | _, _ => false

/-- Whether a test timer has reached its duration (R74). -/
def Sequencer.testDue (q : Sequencer) : Bool :=
  match q.testDuration, q.testTimer with
  | some duration, some t => decide (duration * 1000 ≤ t)
  | _, _ => false

/-- The expiries due on a port. -/
def State.duePort (s : State) (p : Port) : List Instr :=
  dueIf (s.port.get p).rx.gapDue (.gapTimerExpiry p) ++
  dueIf (s.port.get p).silenceDue (.silenceTimerExpiry p)

/-- The expiries due on a line. -/
def State.dueLine (s : State) (l : LineId) : List Instr :=
  dueIf (s.seq.get l).settleTimer.expired (.packerSettleExpiry l) ++
  dueIf (s.seq.get l).testDue (.testTimerExpiry l) ++
  dueIf (s.drive.get l).watchExpired (.strokeWatchExpiry l) ++
  dueIf (s.drive.get l).staticTimer.expired (.circulationStaticExpiry l) ++
  dueIf (s.seq.get l).standingTimer.expired (.standingTimerExpiry l) ++
  dueIf (s.reg.get l).refusalTimer.expired (.refusalTimerExpiry l)

/-- Every expiry due, ports first, then lines, tanks and the clock (log 15). A sample is never among them:
its reading comes from outside (log 18). -/
def State.due (s : State) : List Instr :=
  Port.all.flatMap s.duePort ++ LineId.all.flatMap s.dueLine ++
  TankId.all.flatMap (fun t => dueIf (s.pastLimit t) (.ageExpiry t)) ++
  dueIf (decide (1000 ≤ s.clockPhase)) .clockAdvance ++
  dueIf (decide (1000 ≤ s.runPhase)) .runSecondsAdvance

/-! ### Events overtaken -/

/-- Whether the stroke in progress is RUNNING and has run for some time, so that its piston can reach the end of
its stroke now (R35, R38). -/
def Drive.senseDue (d : Drive) : Bool :=
  match d.watch with
  | some w => d.isRunning && decide (0 < w)
  | none => false

/-- The stroke-end senses that can come now (R35). -/
def State.senses (s : State) : List Instr :=
  LineId.all.flatMap fun l => dueIf (s.drive.get l).senseDue (.strokeComplete l)

/-- The events that can come now: the expiries due and the stroke-end senses. -/
def State.coming (s : State) : List Instr := s.due ++ s.senses

/-- An event could come as the millisecond began, and cannot come any more: a command of this millisecond has
stopped its timer, started it afresh, or paused, completed or abandoned its stroke. DESIGN CHOICE (log 24). -/
def State.overtaken (s : State) (e : Instr) : Bool := s.cameDue.contains e && !s.coming.contains e

/-- An event and what it does. One that has been overtaken does not take place: of two events that come
together, the one taken first leaves no expiry and no stroke-end sense behind (R10, R38, R39, R65, R74, R88,
R92, R125). -/
def State.onEvent (s : State) (e : Instr) (act : State → State) : State :=
  if s.overtaken e then s else act s

end Sys2Proof.Machine
end

