-- ==== Sys2Proof/Machine/Timers.lean ====
section
/-! DEFINITION. The events of the lines and tanks and of the clock: samples, stroke-end senses and the
expiry of every timer (R10, R38, R39, R46, R65, R74, R92, R103, R125, R180). An event that cannot occur in
the present state changes nothing (log 5), and so does one that an earlier event of the same millisecond has
overtaken (log 24). -/

namespace Sys2Proof.Machine

/-- SAMPLE: the sample timer of the line expires with a reading; it runs in every state but OFF (R46,
R57). -/
def execSample (l : LineId) (r : Reading) (s : State) : Result :=
  .next (if s.lineState l = .off then s else s.takeSample l r)

/-- The gauge value of a regulator under its column of water (R51). -/
def Regulator.formationPressure (g : Regulator) : Nat :=
  match g.gauge with
  | some v => v.pg + roundThousandth (Config.waterGradient * ((g.geometry.map (·.mid)).getD 0))
  | none => 0

/-- The formation pressure captured and passed to the record, with the note that there was no gauge value
(R51). -/
def State.captureFormation (s : State) (l : LineId) : State :=
  let g := s.reg.get l
  (s.updReg l fun g => { g with pf := some g.formationPressure }).updRec l fun r =>
    { r with pf := some g.formationPressure, noGauge := g.gauge.isNone }

/-- Packer settle has expired: settled, pf captured, the watch armed, and a waiting TEST or CHARGE run or
dropped (R10, R129). -/
def State.settle (s : State) (l : LineId) : State :=
  ((((s.updSeq l fun q => { q with settled := true, settleTimer := .stopped }).captureFormation l).updReg l
    Regulator.arm).runSlot l .settleExpiry)

/-- PACKER_SETTLE_EXPIRY: only for a line in SEATED with settled no whose timer runs (R10). -/
def execPackerSettleExpiry (l : LineId) (s : State) : Result :=
  .next (s.onEvent (.packerSettleExpiry l) fun s =>
    let q := s.seq.get l
    if q.state = .seated && !q.settled && q.settleTimer.isRunning then s.settle l else s)

/-- TEST_TIMER_EXPIRY: the test is complete (R74). -/
def execTestTimerExpiry (l : LineId) (s : State) : Result :=
  .next (s.onEvent (.testTimerExpiry l) fun s =>
    let q := s.seq.get l
    if q.state = .testing && q.testTimer.isSome then s.endTest l .complete else s)

/-- A stroke-end sense; it is ignored without a stroke in condition RUNNING (R35). -/
def State.senseStroke (s : State) (l : LineId) : State :=
  match (s.drive.get l).stroke with
  | some k => if k.running then s.completeStroke l k else s
  | none => s

/-- STROKE_COMPLETE: the sense of the stroke in progress (R35). The sense of a stroke that an event taken before
it in the same millisecond has abandoned is ignored (R38, R65, R73, R88; log 23). -/
def execStrokeComplete (l : LineId) (s : State) : Result :=
  .next (s.onEvent (.strokeComplete l) (·.senseStroke l))

/-- STROKE_WATCH_EXPIRY: the watch of a stroke in condition RUNNING; with the stroke-end sense taken first the
watch has stopped without expiry (R38). -/
def execStrokeWatchExpiry (l : LineId) (s : State) : Result :=
  .next (s.onEvent (.strokeWatchExpiry l) fun s =>
    if (s.drive.get l).isRunning && (s.drive.get l).watch.isSome then s.strokeFailure l else s)

/-- READY or HELD, the states in which a line stands. -/
def LineState.stands : LineState → Bool
  | .ready | .held => true
  | .off | .idle | .seated | .testing | .charging | .injecting | .flushing | .fault => false

/-- CIRCULATION_STATIC_EXPIRY: the timer stops and a burst starts; with an event that stops the timer taken first
there is no expiry, although the timer runs again (R39, R40). -/
def execCirculationStaticExpiry (l : LineId) (s : State) : Result :=
  .next (s.onEvent (.circulationStaticExpiry l) fun s =>
    if (s.drive.get l).staticTimer.isRunning && (s.lineState l).stands then s.startBurst l else s)

/-- STANDING_TIMER_EXPIRY: the stage ends with STATIC_TIMEOUT (R91, R92). -/
def execStandingTimerExpiry (l : LineId) (s : State) : Result :=
  .next (s.onEvent (.standingTimerExpiry l) fun s =>
    if (s.seq.get l).standingTimer.isRunning && (s.lineState l).stands then s.stageEnd l .staticTimeout none
    else s)

/-- REFUSAL_TIMER_EXPIRY: the stage ends with REFUSAL (R65, R89). -/
def execRefusalTimerExpiry (l : LineId) (s : State) : Result :=
  .next (s.onEvent (.refusalTimerExpiry l) fun s =>
    if (s.reg.get l).refusalTimer.isRunning && s.lineState l == .injecting then s.stageEnd l .refusal none
    else s)

/-- A silence timer has expired: supervision off, the port's silence entry merged with all six lines,
SILENCE latched (R125). -/
def State.lapse (s : State) (p : Port) : State :=
  let s1 := s.updPort p fun q => { q with supervision := none, silence := none }
  (s1.holdOperation (s1.holds.merge (silenceKey p) .full s1.stamp)).latchAll .silence

/-- SILENCE_TIMER_EXPIRY: only with supervision armed. An expiry that a valid frame of the same millisecond
has overtaken does not take place (R125). DESIGN CHOICE (log 24): R121 lets an expiry that comes with the
port's own RELEASE_HOLD act after it (its third row), and has the entries of the expiry and of a HOLD from that
very port both stand (its fourth row), where R125 has no expiry behind a valid frame of the port. The model
follows R125: the release's outcome, or the HOLD's entry, stands alone. -/
def execSilenceTimerExpiry (p : Port) (s : State) : Result :=
  .next (s.onEvent (.silenceTimerExpiry p) fun s =>
    let q := s.port.get p
    if q.supervision.isSome && q.silence.isSome then s.lapse p else s)

/-- AGE_EXPIRY: a STOCKED tank whose moment the run seconds have reached becomes STALE (R103, log 4). -/
def execAgeExpiry (t : TankId) (s : State) : Result :=
  .next (if s.pastLimit t then s.makeStale t else s)

/-- The site clock one second on, its flag unchanged (R180). -/
def Clock.advance (c : Clock) : Clock :=
  if c.second < Config.maxSecond then { c with second := c.second + 1 }
  else { c with second := 0, day := if c.day < Config.maxDay then c.day + 1 else 0 }

/-- CLOCK_ADVANCE (R180). DESIGN CHOICE (log 3): the command says that the clock's second has passed, so it
advances the clock whatever its phase has counted; an advance that was due as a SET_CLOCK of the same millisecond
was taken has been overtaken (R181). -/
def execClockAdvance (s : State) : Result :=
  .next (s.onEvent .clockAdvance fun s => { s with clock := s.clock.advance, clockPhase := 0 })

/-- RUN_SECONDS_ADVANCE: the count stays at its greatest value (R180). DESIGN CHOICE (log 3): it acts whatever
the phase has counted. -/
def execRunSecondsAdvance (s : State) : Result :=
  .next (s.onEvent .runSecondsAdvance fun s =>
    { s with runSeconds := min Config.maxRunSeconds (s.runSeconds + 1), runPhase := 0 })

end Sys2Proof.Machine
end

