-- ==== Sys2Proof/Machine/Clockwork.lean ====
section
/-! DEFINITION. Time: what the part does while no command waits. DESIGN CHOICE (logs 2, 15 and 18): an idle
step queues one expiry that is due, or starts one stroke owed (log 25), or lets one millisecond pass. -/

namespace Sys2Proof.Machine

/-! ### One millisecond -/

/-- A timer one ms on; it stays at its limit until its expiry is taken. -/
def Timer.tick : Timer → Timer
  | .stopped => .stopped
  | .running elapsed limit => .running (min limit (elapsed + 1)) limit

/-- The timers of a sequencer one ms on (R10, R70, R90). -/
def Sequencer.tick (q : Sequencer) : Sequencer :=
  { q with
    settleTimer := q.settleTimer.tick
    standingTimer := q.standingTimer.tick
    testTimer := q.testTimer.map (· + 1) }

/-- The timers of a drive one ms on: the watch counts while its stroke is RUNNING (R38, R39). -/
def Drive.tick (d : Drive) : Drive :=
  { d with
    watch := d.watch.map fun w => if d.isRunning then w + 1 else w
    staticTimer := d.staticTimer.tick }

/-- The timers of a regulator one ms on (R46, R64). -/
def Regulator.tick (g : Regulator) : Regulator :=
  { g with sampleTimer := g.sampleTimer.tick, refusalTimer := g.refusalTimer.tick }

/-- The gap timer one ms on: it runs in RECEIVING (R153). -/
def Receiver.tick : Receiver → Receiver
  | .hunt => .hunt
  | .receiving bytes gap => .receiving bytes (gap + 1)

/-- The timers of a port one ms on (R123, R153). -/
def PortState.tick (q : PortState) : PortState :=
  { q with rx := q.rx.tick, silence := q.silence.map (· + 1) }

/-- Every timer of the part one ms on. -/
def State.tickTimers (s : State) : State :=
  { s with
    seq := s.seq.mapIdx fun _ q => q.tick
    drive := s.drive.mapIdx fun _ d => d.tick
    reg := s.reg.mapIdx fun _ g => g.tick
    port := s.port.mapIdx fun _ q => q.tick
    clockPhase := s.clockPhase + 1
    runPhase := s.runPhase + 1 }

/-- One millisecond passes; the events that can come in the next one are noted (log 24). -/
def State.tick (s : State) : State := { s.tickTimers with cameDue := s.tickTimers.coming }

/-! ### The idle step -/

/-- The step of a part for which no command waits: an expiry that is due, a stroke that a CHARGE completion left
to start (R35, log 25), or one millisecond (log 2). -/
def State.idle (s : State) : State :=
  match s.due with
  | i :: _ => { s with pending := [i] }
  | [] =>
    match LineId.all.find? s.owesStroke with
    | some l => s.nextStroke l
    | none => s.tick

end Sys2Proof.Machine
end

