-- ==== Sys2Proof/WellFormed.lean ====
section
/-! DEFINITION. A command is well formed when every number of a request fits the bytes its payload gives
it (R184): only such a request can arrive in a frame. An event command is always well formed. -/

namespace Sys2Proof

/-- `n` fits in `bytes` bytes. -/
def fits (bytes n : Nat) : Bool := decide (n < 256 ^ bytes)

/-- The stage parameters fit their 19 bytes (R184, 01h). -/
def SeatParams.wf (q : SeatParams) : Bool :=
  fits 2 q.hole && fits 1 q.stage && fits 1 q.order && fits 2 q.top && fits 2 q.bottom &&
  fits 2 q.pmax && fits 4 q.gin && fits 2 q.vmax && fits 1 q.thickest && fits 1 q.start &&
  fits 1 q.rateCap

/-- The line entry fits its 16 bytes (R184, 50h). -/
def LineWrite.wf (q : LineWrite) : Bool :=
  fits 1 q.enabled && fits 2 q.displacement && fits 1 q.efficiency && fits 2 q.tmin && fits 2 q.k &&
  fits 4 q.lineVolume && fits 2 q.fullScale && fits 1 q.neighbour1 && fits 1 q.neighbour2

/-- The mix entry fits its 7 bytes (R184, 51h). -/
def MixWrite.wf (q : MixWrite) : Bool :=
  fits 1 q.enabled && fits 2 q.ratio && fits 2 q.gradient && fits 2 q.step

/-- The band table fits its 11 bytes (R184, 52h). -/
def BandTable.wf (q : BandTable) : Bool :=
  fits 2 q.b1 && fits 2 q.b2 && fits 2 q.b3 && fits 1 q.m1 && fits 1 q.m2 && fits 1 q.m3 &&
  fits 1 q.m4 && fits 1 q.m0

/-- The timing table fits its 11 bytes (R184, 53h). -/
def TimingTable.wf (q : TimingTable) : Bool :=
  fits 2 q.packerSettle && fits 1 q.chargeStep && fits 1 q.flushStep && fits 1 q.flushFactor &&
  fits 2 q.staticTime && fits 1 q.circStrokes && fits 2 q.refusalDwell && fits 1 q.refusalStep

/-- The envelope table fits its 8 bytes (R184, 54h). -/
def EnvelopeTable.wf (q : EnvelopeTable) : Bool :=
  fits 2 q.beta && fits 1 q.tolerance && fits 1 q.band && fits 2 q.rise && fits 2 q.standingLimit

/-- The check: each number of a request fits the bytes R184 gives it. -/
def Instr.wf : Instr → Bool
  | .powerOn => true
  | .cabinetReset => true
  | .byteReceived _ _ => true
  | .gapTimerExpiry _ => true
  | .responseSent _ => true
  | .seat _ line q => fits 1 line && q.wf
  | .test _ line target duration => fits 1 line && fits 2 target && fits 2 duration
  | .charge _ line => fits 1 line
  | .inject _ line => fits 1 line
  | .finish _ line => fits 1 line
  | .abort _ line => fits 1 line
  | .clearFault _ line => fits 1 line
  | .circulate _ line => fits 1 line
  | .hold _ _ => true
  | .releaseHold _ reason _ => fits 1 reason
  | .releaseConnection _ _ => true
  | .setCeiling _ line ceiling => fits 1 line && fits 2 ceiling
  | .supervise _ interval => fits 1 interval
  | .deliver _ tank mix litres => fits 1 tank && fits 1 mix && fits 2 litres
  | .dump _ tank => fits 1 tank
  | .readTanks _ => true
  | .readDemand _ => true
  | .readOpen _ line => fits 1 line
  | .readLog _ entry => fits 2 entry
  | .logRange _ => true
  | .markRead _ entry => fits 2 entry
  | .readCapture _ line => fits 1 line
  | .status _ => true
  | .snapshot _ => true
  | .readSnapshot _ part => fits 1 part
  | .readEvents _ => true
  | .clearEvents _ _ => true
  | .setMask _ _ => true
  | .note _ code => fits 1 code
  | .readNote _ => true
  | .writeLine _ line q => fits 1 line && q.wf
  | .writeMix _ code q => fits 1 code && q.wf
  | .writeBands _ q => q.wf
  | .writeTiming _ q => q.wf
  | .writeEnvelope _ q => q.wf
  | .writeTank _ tank capacity ageLimit => fits 1 tank && fits 2 capacity && fits 1 ageLimit
  | .readSettings _ table index => fits 1 table && fits 1 index
  | .setClock _ day second => fits 2 day && fits 3 second
  | .readClock _ => true
  | .portReset _ => true
  | .restart _ => true
  | .sample _ _ => true
  | .packerSettleExpiry _ => true
  | .testTimerExpiry _ => true
  | .strokeComplete _ => true
  | .strokeWatchExpiry _ => true
  | .circulationStaticExpiry _ => true
  | .standingTimerExpiry _ => true
  | .refusalTimerExpiry _ => true
  | .silenceTimerExpiry _ => true
  | .ageExpiry _ => true
  | .clockAdvance => true
  | .runSecondsAdvance => true
  | .resetInputDeasserted => true

end Sys2Proof
end

