-- ==== Sys2Proof/Decode.lean ====
section
/-! DEFINITION. The request codec of chapter 11: a request code and payload read as a command and written
back (R155, R182 to R184). The opcode table gives no bits, so `decodeTableWord` answers none (log 21). -/

namespace Sys2Proof

open Sys2Proof.Machine (be eventSetBytes)

/-- The unsigned integer a run of bytes spells, high byte first (R182). -/
def readBe (bs : List Byte) : Nat := bs.foldl (fun a b => a * 256 + b.toNat) 0

/-- The field of `len` bytes at an offset of a payload (R182). -/
def field (bs : List Byte) (off len : Nat) : Nat := readBe ((bs.drop off).take len)

/-- The byte at an offset of a payload, 0 past its end. -/
def byteAt (bs : List Byte) (off : Nat) : Byte := bs.getD off 0

/-- The event set at the start of a payload (R182). -/
def eventField (bs : List Byte) : EventSet := BitVec.ofNat 16 (field bs 0 2)

/-- The payload length of a request code; none for a code that is not in the request summary (R155,
R184). -/
def requestLength : Nat → Option Nat
  | 0x01 => some 20
  | 0x02 => some 5
  | 0x03 => some 1
  | 0x04 => some 1
  | 0x05 => some 1
  | 0x06 => some 1
  | 0x07 => some 1
  | 0x08 => some 1
  | 0x10 => some 1
  | 0x11 => some 2
  | 0x12 => some 1
  | 0x13 => some 3
  | 0x14 => some 1
  | 0x20 => some 4
  | 0x21 => some 1
  | 0x22 => some 0
  | 0x23 => some 0
  | 0x30 => some 1
  | 0x31 => some 2
  | 0x32 => some 0
  | 0x33 => some 2
  | 0x34 => some 1
  | 0x40 => some 0
  | 0x41 => some 0
  | 0x42 => some 1
  | 0x48 => some 0
  | 0x49 => some 2
  | 0x4A => some 2
  | 0x4B => some 1
  | 0x4C => some 0
  | 0x50 => some 17
  | 0x51 => some 8
  | 0x52 => some 11
  | 0x53 => some 11
  | 0x54 => some 8
  | 0x55 => some 4
  | 0x56 => some 2
  | 0x58 => some 5
  | 0x59 => some 0
  | 0x5C => some 0
  | 0x5D => some 0
  | _ => none

/-- The stage parameters of a SEAT payload (R184). -/
def seatField (bs : List Byte) : SeatParams where
  hole := field bs 1 2
  stage := field bs 3 1
  order := field bs 4 1
  top := field bs 5 2
  bottom := field bs 7 2
  pmax := field bs 9 2
  gin := field bs 11 4
  vmax := field bs 15 2
  thickest := field bs 17 1
  start := field bs 18 1
  rateCap := field bs 19 1

/-- The stage parameters of a SEAT payload, written (R184). -/
def seatPayload (q : SeatParams) : List Byte :=
  be 2 q.hole ++ be 1 q.stage ++ be 1 q.order ++ be 2 q.top ++ be 2 q.bottom ++ be 2 q.pmax ++ be 4 q.gin ++ be 2 q.vmax ++ be 1 q.thickest ++ be 1 q.start ++ be 1 q.rateCap

/-- The line entry of a WRITE_LINE payload (R184). -/
def lineWriteField (bs : List Byte) : LineWrite where
  enabled := field bs 1 1
  displacement := field bs 2 2
  efficiency := field bs 4 1
  tmin := field bs 5 2
  k := field bs 7 2
  lineVolume := field bs 9 4
  fullScale := field bs 13 2
  neighbour1 := field bs 15 1
  neighbour2 := field bs 16 1

/-- The line entry of a WRITE_LINE payload, written (R184). -/
def lineWritePayload (q : LineWrite) : List Byte :=
  be 1 q.enabled ++ be 2 q.displacement ++ be 1 q.efficiency ++ be 2 q.tmin ++ be 2 q.k ++ be 4 q.lineVolume ++ be 2 q.fullScale ++ be 1 q.neighbour1 ++ be 1 q.neighbour2

/-- The mix entry of a WRITE_MIX payload (R184). -/
def mixWriteField (bs : List Byte) : MixWrite where
  enabled := field bs 1 1
  ratio := field bs 2 2
  gradient := field bs 4 2
  step := field bs 6 2

/-- The mix entry of a WRITE_MIX payload, written (R184). -/
def mixWritePayload (q : MixWrite) : List Byte :=
  be 1 q.enabled ++ be 2 q.ratio ++ be 2 q.gradient ++ be 2 q.step

/-- The band table of a WRITE_BANDS payload (R184). -/
def bandsField (bs : List Byte) : BandTable where
  b1 := field bs 0 2
  b2 := field bs 2 2
  b3 := field bs 4 2
  m1 := field bs 6 1
  m2 := field bs 7 1
  m3 := field bs 8 1
  m4 := field bs 9 1
  m0 := field bs 10 1

/-- The band table of a WRITE_BANDS payload, written (R184). -/
def bandsPayload (q : BandTable) : List Byte :=
  be 2 q.b1 ++ be 2 q.b2 ++ be 2 q.b3 ++ be 1 q.m1 ++ be 1 q.m2 ++ be 1 q.m3 ++ be 1 q.m4 ++ be 1 q.m0

/-- The timing table of a WRITE_TIMING payload (R184). -/
def timingField (bs : List Byte) : TimingTable where
  packerSettle := field bs 0 2
  chargeStep := field bs 2 1
  flushStep := field bs 3 1
  flushFactor := field bs 4 1
  staticTime := field bs 5 2
  circStrokes := field bs 7 1
  refusalDwell := field bs 8 2
  refusalStep := field bs 10 1

/-- The timing table of a WRITE_TIMING payload, written (R184). -/
def timingPayload (q : TimingTable) : List Byte :=
  be 2 q.packerSettle ++ be 1 q.chargeStep ++ be 1 q.flushStep ++ be 1 q.flushFactor ++ be 2 q.staticTime ++ be 1 q.circStrokes ++ be 2 q.refusalDwell ++ be 1 q.refusalStep

/-- The envelope table of a WRITE_ENVELOPE payload (R184). -/
def envelopeField (bs : List Byte) : EnvelopeTable where
  beta := field bs 0 2
  tolerance := field bs 2 1
  band := field bs 3 1
  rise := field bs 4 2
  standingLimit := field bs 6 2

/-- The envelope table of a WRITE_ENVELOPE payload, written (R184). -/
def envelopePayload (q : EnvelopeTable) : List Byte :=
  be 2 q.beta ++ be 1 q.tolerance ++ be 1 q.band ++ be 2 q.rise ++ be 2 q.standingLimit

/-- The command a request code and a payload of its length spell, on a port; none for a code that is not
in the request summary (R155, R184). -/
def decodeFields (p : Port) (code : Nat) (bs : List Byte) : Option Instr :=
  match code with
  | 0x01 => some (.seat p (field bs 0 1) (seatField bs))
  | 0x02 => some (.test p (field bs 0 1) (field bs 1 2) (field bs 3 2))
  | 0x03 => some (.charge p (field bs 0 1))
  | 0x04 => some (.inject p (field bs 0 1))
  | 0x05 => some (.finish p (field bs 0 1))
  | 0x06 => some (.abort p (field bs 0 1))
  | 0x07 => some (.clearFault p (field bs 0 1))
  | 0x08 => some (.circulate p (field bs 0 1))
  | 0x10 => some (.hold p (byteAt bs 0))
  | 0x11 => some (.releaseHold p (field bs 0 1) (byteAt bs 1))
  | 0x12 => some (.releaseConnection p (byteAt bs 0))
  | 0x13 => some (.setCeiling p (field bs 0 1) (field bs 1 2))
  | 0x14 => some (.supervise p (field bs 0 1))
  | 0x20 => some (.deliver p (field bs 0 1) (field bs 1 1) (field bs 2 2))
  | 0x21 => some (.dump p (field bs 0 1))
  | 0x22 => some (.readTanks p)
  | 0x23 => some (.readDemand p)
  | 0x30 => some (.readOpen p (field bs 0 1))
  | 0x31 => some (.readLog p (field bs 0 2))
  | 0x32 => some (.logRange p)
  | 0x33 => some (.markRead p (field bs 0 2))
  | 0x34 => some (.readCapture p (field bs 0 1))
  | 0x40 => some (.status p)
  | 0x41 => some (.snapshot p)
  | 0x42 => some (.readSnapshot p (field bs 0 1))
  | 0x48 => some (.readEvents p)
  | 0x49 => some (.clearEvents p (eventField bs))
  | 0x4A => some (.setMask p (eventField bs))
  | 0x4B => some (.note p (field bs 0 1))
  | 0x4C => some (.readNote p)
  | 0x50 => some (.writeLine p (field bs 0 1) (lineWriteField bs))
  | 0x51 => some (.writeMix p (field bs 0 1) (mixWriteField bs))
  | 0x52 => some (.writeBands p (bandsField bs))
  | 0x53 => some (.writeTiming p (timingField bs))
  | 0x54 => some (.writeEnvelope p (envelopeField bs))
  | 0x55 => some (.writeTank p (field bs 0 1) (field bs 1 2) (field bs 3 1))
  | 0x56 => some (.readSettings p (field bs 0 1) (field bs 1 1))
  | 0x58 => some (.setClock p (field bs 0 2) (field bs 2 3))
  | 0x59 => some (.readClock p)
  | 0x5C => some (.portReset p)
  | 0x5D => some (.restart p)
  | _ => none

/-- The command a request frame's code and payload spell on a port; none for an unknown code or a payload
whose length is not the code's (R155, R184). -/
def decodeRequest (p : Port) (code : Nat) (bs : List Byte) : Option Instr :=
  if requestLength code = some bs.length then decodeFields p code bs else none

/-- The request code and payload of a request command; none for a command that is no request (R184). -/
def encodeRequest : Instr → Option (Nat × List Byte)
  | .powerOn => none
  | .cabinetReset => none
  | .byteReceived _ _ => none
  | .gapTimerExpiry _ => none
  | .responseSent _ => none
  | .seat _ line q => some (0x01, be 1 line ++ seatPayload q)
  | .test _ line target duration => some (0x02, be 1 line ++ be 2 target ++ be 2 duration)
  | .charge _ line => some (0x03, be 1 line)
  | .inject _ line => some (0x04, be 1 line)
  | .finish _ line => some (0x05, be 1 line)
  | .abort _ line => some (0x06, be 1 line)
  | .clearFault _ line => some (0x07, be 1 line)
  | .circulate _ line => some (0x08, be 1 line)
  | .hold _ lines => some (0x10, [lines])
  | .releaseHold _ reason lines => some (0x11, be 1 reason ++ [lines])
  | .releaseConnection _ lines => some (0x12, [lines])
  | .setCeiling _ line ceiling => some (0x13, be 1 line ++ be 2 ceiling)
  | .supervise _ interval => some (0x14, be 1 interval)
  | .deliver _ tank mix litres => some (0x20, be 1 tank ++ be 1 mix ++ be 2 litres)
  | .dump _ tank => some (0x21, be 1 tank)
  | .readTanks _ => some (0x22, [])
  | .readDemand _ => some (0x23, [])
  | .readOpen _ line => some (0x30, be 1 line)
  | .readLog _ entry => some (0x31, be 2 entry)
  | .logRange _ => some (0x32, [])
  | .markRead _ entry => some (0x33, be 2 entry)
  | .readCapture _ line => some (0x34, be 1 line)
  | .status _ => some (0x40, [])
  | .snapshot _ => some (0x41, [])
  | .readSnapshot _ part => some (0x42, be 1 part)
  | .readEvents _ => some (0x48, [])
  | .clearEvents _ events => some (0x49, eventSetBytes events)
  | .setMask _ events => some (0x4A, eventSetBytes events)
  | .note _ code => some (0x4B, be 1 code)
  | .readNote _ => some (0x4C, [])
  | .writeLine _ line q => some (0x50, be 1 line ++ lineWritePayload q)
  | .writeMix _ code q => some (0x51, be 1 code ++ mixWritePayload q)
  | .writeBands _ q => some (0x52, bandsPayload q)
  | .writeTiming _ q => some (0x53, timingPayload q)
  | .writeEnvelope _ q => some (0x54, envelopePayload q)
  | .writeTank _ tank capacity ageLimit => some (0x55, be 1 tank ++ be 2 capacity ++ be 1 ageLimit)
  | .readSettings _ table index => some (0x56, be 1 table ++ be 1 index)
  | .setClock _ day second => some (0x58, be 2 day ++ be 3 second)
  | .readClock _ => some (0x59, [])
  | .portReset _ => some (0x5C, [])
  | .restart _ => some (0x5D, [])
  | .sample _ _ => none
  | .packerSettleExpiry _ => none
  | .testTimerExpiry _ => none
  | .strokeComplete _ => none
  | .strokeWatchExpiry _ => none
  | .circulationStaticExpiry _ => none
  | .standingTimerExpiry _ => none
  | .refusalTimerExpiry _ => none
  | .silenceTimerExpiry _ => none
  | .ageExpiry _ => none
  | .clockAdvance => none
  | .runSecondsAdvance => none
  | .resetInputDeasserted => none

/-- The port a request command arrives on; none for a command that is no request. -/
def requestPort : Instr → Option Port
  | .powerOn => none
  | .cabinetReset => none
  | .byteReceived _ _ => none
  | .gapTimerExpiry _ => none
  | .responseSent _ => none
  | .seat p _ _ => some p
  | .test p _ _ _ => some p
  | .charge p _ => some p
  | .inject p _ => some p
  | .finish p _ => some p
  | .abort p _ => some p
  | .clearFault p _ => some p
  | .circulate p _ => some p
  | .hold p _ => some p
  | .releaseHold p _ _ => some p
  | .releaseConnection p _ => some p
  | .setCeiling p _ _ => some p
  | .supervise p _ => some p
  | .deliver p _ _ _ => some p
  | .dump p _ => some p
  | .readTanks p => some p
  | .readDemand p => some p
  | .readOpen p _ => some p
  | .readLog p _ => some p
  | .logRange p => some p
  | .markRead p _ => some p
  | .readCapture p _ => some p
  | .status p => some p
  | .snapshot p => some p
  | .readSnapshot p _ => some p
  | .readEvents p => some p
  | .clearEvents p _ => some p
  | .setMask p _ => some p
  | .note p _ => some p
  | .readNote p => some p
  | .writeLine p _ _ => some p
  | .writeMix p _ _ => some p
  | .writeBands p _ => some p
  | .writeTiming p _ => some p
  | .writeEnvelope p _ => some p
  | .writeTank p _ _ _ => some p
  | .readSettings p _ _ => some p
  | .setClock p _ _ => some p
  | .readClock p => some p
  | .portReset p => some p
  | .restart p => some p
  | .sample _ _ => none
  | .packerSettleExpiry _ => none
  | .testTimerExpiry _ => none
  | .strokeComplete _ => none
  | .strokeWatchExpiry _ => none
  | .circulationStaticExpiry _ => none
  | .standingTimerExpiry _ => none
  | .refusalTimerExpiry _ => none
  | .silenceTimerExpiry _ => none
  | .ageExpiry _ => none
  | .clockAdvance => none
  | .runSecondsAdvance => none
  | .resetInputDeasserted => none

/-- The table gives no bits to any row, so no word spells a command (log 21). -/
def decodeTableWord (_nbits _w : Nat) : Option Instr := none

end Sys2Proof
end

