-- ==== Sys2Proof/Machine/LineRequests.lean ====
section
/-! DEFINITION. The eight line requests: SEAT, TEST, CHARGE, INJECT, FINISH, ABORT, CLEAR_FAULT and
CIRCULATE (R5 to R8, R15 to R18, R27). -/

namespace Sys2Proof.Machine

/-- Whether a line takes a request at once, defers it or is busy (R5). -/
inductive Taking where
  | atOnce | deferred | busy
deriving DecidableEq, Repr

/-- The table of R5 for SEAT, TEST, CHARGE and INJECT. -/
def taking (q : Sequencer) (burst : Bool) : PendingReq → Taking
  | .seat _ =>
    match q.state with
    | .idle => .atOnce
    | .flushing => .deferred
    | .off | .seated | .testing | .charging | .ready | .injecting | .held | .fault => .busy
  | .test _ _ =>
    match q.state with
    | .seated => if q.settled then .atOnce else .deferred
    | .off | .idle | .testing | .charging | .ready | .injecting | .held | .flushing | .fault => .busy
  | .charge =>
    match q.state with
    | .seated => if q.settled then .atOnce else .deferred
    | .testing => .deferred
    | .off | .idle | .charging | .ready | .injecting | .held | .flushing | .fault => .busy
  | .inject =>
    match q.state with
    | .ready => if burst then .busy else .atOnce
    | .charging => .deferred
    | .off | .idle | .seated | .testing | .injecting | .held | .flushing | .fault => .busy

/-- Whether a covered line answers the request HELD (R6 step 4). -/
def PendingReq.needsRelease : PendingReq → Bool
  | .seat _ => false
  | .test _ _ | .charge | .inject => true

/-- The stage parameters of a SEAT lie in their ranges (R7). -/
def State.seatValid (s : State) (q : SeatParams) : Bool :=
  inRange 1 65535 q.hole && inRange 1 99 q.stage && inRange 1 4 q.order && inRange 0 3000 q.top &&
  inRange 0 3000 q.bottom && decide (q.top < q.bottom) && inRange 5 300 (q.bottom - q.top) &&
  inRange 100 9000 q.pmax && inRange 10000 500000 q.gin && inRange 10 5000 q.vmax &&
  s.mixEnabled q.thickest &&
  (q.start == 0 || (s.mixEnabled q.start && decide (q.start ≤ q.thickest))) && inRange 1 15 q.rateCap

/-- The parameters of a request lie in their ranges (R6 step 5). -/
def State.paramsValid (s : State) : PendingReq → Bool
  | .seat q => s.seatValid q
  | .test target duration => inRange 100 9000 target && inRange 60 1800 duration
  | .charge | .inject => true

/-- Another line's open record, or a SEAT in its slot, names the same hole and stage (R8). -/
def State.namesStage (s : State) (k : LineId) (q : SeatParams) : Bool :=
  (match s.openRec.get k with
    | some r => r.hole == q.hole && r.stage == q.stage
    | none => false) ||
  (match (s.seq.get k).slot with
    | some (.seat w) => w.hole == q.hole && w.stage == q.stage
    | _ => false)

/-- The conflict condition of R8. -/
def State.seatConflict (s : State) (l : LineId) : PendingReq → Bool
  | .seat q => LineId.all.any fun k => k != l && s.namesStage k q
  | .test _ _ | .charge | .inject => false

/-- The status of a SEAT, TEST, CHARGE or INJECT: the checks of R6 in their order. -/
def State.lineStatus (s : State) (l : LineId) (req : PendingReq) : Status :=
  let t := taking (s.seq.get l) (s.drive.get l).burst.isSome req
  if t = .busy then .busy
  else if t = .deferred && (s.seq.get l).slot.isSome then .busy
  else if req.needsRelease && s.covered l then .held
  else if !s.paramsValid req then .range
  else if s.seatConflict l req then .conflict
  else if t = .deferred then .deferred
  else .ok

/-- A request placed in the pending slot (R18). -/
def State.deferTo (s : State) (l : LineId) (req : PendingReq) : State :=
  s.updSeq l fun q => { q with slot := some req }

/-- A SEAT, TEST, CHARGE or INJECT at its line: taken, deferred or refused with no effect (R6, R18). -/
def deferrable (req : PendingReq) (l : LineId) (s : State) : State × Answer :=
  match s.lineStatus l req with
  | .ok => (s.takeDeferred l req, plain .ok)
  | .deferred => (s.deferTo l req, plain .deferred)
  | st => (s, plain st)

/-- FINISH at its line (R16). -/
def finishAt (l : LineId) (s : State) : State × Answer :=
  match s.lineState l with
  | .seated | .testing => (s.stageEnd l .withdrawn none, plain .ok)
  | .charging | .ready | .injecting | .held => (s.stageEnd l .operator none, plain .ok)
  | .off | .idle | .flushing | .fault => (s, plain .busy)

/-- ABORT at its line, with the port it came from as the record's abort origin (R17). -/
def abortAt (p : Port) (l : LineId) (s : State) : State × Answer :=
  if (s.lineState l).hasStage then (s.stageEnd l .abort (some p), plain .ok) else (s, plain .busy)

/-- CLEAR_FAULT at its line (R27). -/
def clearFaultAt (l : LineId) (s : State) : State × Answer :=
  if s.lineState l ≠ .fault then (s, plain .busy)
  else if (s.seq.get l).faultCause = some .sensor && (s.reg.get l).lastReading == .invalid then
    (s, plain .conflict)
  else
    let s1 := s.updSeq l fun q => { q with faultCause := none }
    (if (s.seq.get l).holdsGrout then s1.enterFlushing l else s1.enterIdle l, plain .ok)

/-- CIRCULATE at its line (R15). -/
def circulateAt (l : LineId) (s : State) : State × Answer :=
  if s.mayCirculate l then (s.startBurst l, plain .ok) else (s, plain .busy)

/-- SEAT (R9). -/
def execSeat (p : Port) (line : Nat) (q : SeatParams) (s : State) : Result :=
  .next (s.request p 0x01 [.gallery] (onLine line (deferrable (.seat q))))

/-- TEST (R11). -/
def execTest (p : Port) (line target duration : Nat) (s : State) : Result :=
  .next (s.request p 0x02 [.gallery] (onLine line (deferrable (.test target duration))))

/-- CHARGE (R12). -/
def execCharge (p : Port) (line : Nat) (s : State) : Result :=
  .next (s.request p 0x03 [.gallery] (onLine line (deferrable .charge)))

/-- INJECT (R14). -/
def execInject (p : Port) (line : Nat) (s : State) : Result :=
  .next (s.request p 0x04 [.gallery] (onLine line (deferrable .inject)))

/-- FINISH (R16). -/
def execFinish (p : Port) (line : Nat) (s : State) : Result :=
  .next (s.request p 0x05 [.gallery] (onLine line finishAt))

/-- ABORT (R17). -/
def execAbort (p : Port) (line : Nat) (s : State) : Result :=
  .next (s.request p 0x06 [.gallery, .monitor] (onLine line (abortAt p)))

/-- CLEAR_FAULT (R27). -/
def execClearFault (p : Port) (line : Nat) (s : State) : Result :=
  .next (s.request p 0x07 [.gallery] (onLine line clearFaultAt))

/-- CIRCULATE (R15). -/
def execCirculate (p : Port) (line : Nat) (s : State) : Result :=
  .next (s.request p 0x08 [.gallery] (onLine line circulateAt))

end Sys2Proof.Machine
end

