-- ==== Sys2Proof/Machine/PortRequests.lean ====
section
/-! DEFINITION. STATUS, snapshots, events, masks, notes, PORT_RESET and RESTART (R159 to R168). -/

namespace Sys2Proof.Machine

/-- SNAPSHOT: the values copied into the port's buffer (R163). -/
def snapshotOwner (p : Port) (s : State) : State × Answer :=
  (s.updPort p fun q => { q with snapshot := some s.takeSnapshot }, ⟨.ok, s.snapHeader.bytes⟩)

/-- READ_SNAPSHOT: RANGE for a part other than 0 to 2, ABSENT for an empty buffer (R164). -/
def readSnapshotOwner (p : Port) (part : Nat) (s : State) : State × Answer :=
  if 2 < part then (s, plain .range)
  else
    match (s.port.get p).snapshot with
    | none => (s, plain .absent)
    | some x => (s, ⟨.ok, (x.part part).getD []⟩)

/-- The payload of READ_EVENTS: latch set, mask set (R159, R184). -/
def State.eventsBytes (s : State) (p : Port) : List Byte :=
  eventSetBytes (s.port.get p).latches ++ eventSetBytes (s.port.get p).masks

/-- CLEAR_EVENTS: the named latches of the port cleared (R160). -/
def clearEventsOwner (p : Port) (events : EventSet) (s : State) : State × Answer :=
  let s1 := s.updPort p fun q => { q with latches := q.latches &&& ~~~events }
  (s1, ⟨.ok, eventSetBytes (s1.port.get p).latches⟩)

/-- SET_MASK: the port's mask set replaced (R161). -/
def setMaskOwner (p : Port) (events : EventSet) (s : State) : State × Answer :=
  (s.updPort p fun q => { q with masks := events },
    ⟨.ok, eventSetBytes events ++ eventSetBytes (s.port.get p).latches⟩)

/-- NOTE: the code written into the other two ports' slots, and PEER_NOTE latched on them (R165). -/
def noteOwner (p : Port) (code : Nat) (s : State) : State × Answer :=
  if !inRange 1 255 code then (s, plain .range)
  else
    let s1 : State :=
      { s with port := s.port.mapIdx fun i q => if i = p then q else { q with note := some ⟨code, p⟩ } }
    (s1.latchOthers p .peerNote, plain .ok)

/-- The payload of READ_NOTE: the code and its sender, zeros when the slot is empty (R166, R184). -/
def State.noteBytes (s : State) (p : Port) : List Byte :=
  match (s.port.get p).note with
  | some n => u8 n.code ++ u8 n.sender.num
  | none => u8 0 ++ u8 0

/-- PORT_RESET on its port (R150, R167). -/
def portResetOwner (p : Port) (s : State) : State × Answer :=
  (s.updPort p fun q =>
    { q with
      latches := 0
      masks := 0xFFFF
      snapshot := none
      note := none
      mark := s.oldestOrNext
      missed := 0
      supervision := none
      silence := none }, plain .ok)

/-- RESTART: its cabinet reset waits for the response to end (R168). -/
def restartOwner (p : Port) (s : State) : State × Answer :=
  (s.updPort p fun q => { q with restartWaiting := true }, plain .ok)

/-- STATUS (R162). -/
def execStatus (p : Port) (s : State) : Result :=
  .next (s.request p 0x40 anyPort (reading fun s => ⟨.ok, s.statusBytes⟩))

/-- SNAPSHOT (R163). -/
def execSnapshot (p : Port) (s : State) : Result :=
  .next (s.request p 0x41 anyPort (snapshotOwner p))

/-- READ_SNAPSHOT (R164). -/
def execReadSnapshot (p : Port) (part : Nat) (s : State) : Result :=
  .next (s.request p 0x42 anyPort (readSnapshotOwner p part))

/-- READ_EVENTS (R159). -/
def execReadEvents (p : Port) (s : State) : Result :=
  .next (s.request p 0x48 anyPort (reading fun s => ⟨.ok, s.eventsBytes p⟩))

/-- CLEAR_EVENTS (R160). -/
def execClearEvents (p : Port) (events : EventSet) (s : State) : Result :=
  .next (s.request p 0x49 anyPort (clearEventsOwner p events))

/-- SET_MASK (R161). -/
def execSetMask (p : Port) (events : EventSet) (s : State) : Result :=
  .next (s.request p 0x4A anyPort (setMaskOwner p events))

/-- NOTE (R165). -/
def execNote (p : Port) (code : Nat) (s : State) : Result :=
  .next (s.request p 0x4B anyPort (noteOwner p code))

/-- READ_NOTE (R166). -/
def execReadNote (p : Port) (s : State) : Result :=
  .next (s.request p 0x4C anyPort (reading fun s => ⟨.ok, s.noteBytes p⟩))

/-- PORT_RESET (R167). -/
def execPortReset (p : Port) (s : State) : Result :=
  .next (s.request p 0x5C anyPort (portResetOwner p))

/-- RESTART (R168). -/
def execRestart (p : Port) (s : State) : Result :=
  .next (s.request p 0x5D [.gallery, .monitor] (restartOwner p))

end Sys2Proof.Machine
end

