-- ==== Sys2Proof/Machine/RecordRequests.lean ====
section
/-! DEFINITION. READ_OPEN, READ_LOG, LOG_RANGE, MARK_READ and READ_CAPTURE (R132, R142, R145 to R147). -/

namespace Sys2Proof.Machine

/-- An answer that carries a payload if there is one, ABSENT if not. -/
def orAbsent : Option (List Byte) → Answer
  | some b => ⟨.ok, b⟩
  | none => plain .absent

/-- READ_OPEN at its line (R142). -/
def readOpenAt (l : LineId) (s : State) : State × Answer :=
  (s, orAbsent ((s.openRec.get l).map Record.bytes))

/-- READ_LOG: entry 0 is read as the port's mark (R146). -/
def readLogOwner (p : Port) (entry : Nat) (s : State) : State × Answer :=
  (s, orAbsent ((s.logEntry (if entry = 0 then (s.port.get p).mark else entry)).map Record.bytes))

/-- MARK_READ: the mark moves past a held entry and the missed count clears (R145). -/
def markReadOwner (p : Port) (entry : Nat) (s : State) : State × Answer :=
  match s.logEntry entry with
  | none => (s, plain .absent)
  | some _ =>
    (s.updPort p fun q => { q with mark := nextNumber entry, missed := 0 }, ⟨.ok, u16 (nextNumber entry)⟩)

/-- READ_CAPTURE at its line (R132). -/
def readCaptureAt (l : LineId) (s : State) : State × Answer :=
  (s, orAbsent ((s.capture.get l).map Capture.bytes))

/-- READ_OPEN (R142). -/
def execReadOpen (p : Port) (line : Nat) (s : State) : Result :=
  .next (s.request p 0x30 anyPort (onLine line readOpenAt))

/-- READ_LOG (R146). -/
def execReadLog (p : Port) (entry : Nat) (s : State) : Result :=
  .next (s.request p 0x31 anyPort (readLogOwner p entry))

/-- LOG_RANGE (R147). -/
def execLogRange (p : Port) (s : State) : Result :=
  .next (s.request p 0x32 anyPort (reading fun s => ⟨.ok, s.logRangeBytes p⟩))

/-- MARK_READ (R145). -/
def execMarkRead (p : Port) (entry : Nat) (s : State) : Result :=
  .next (s.request p 0x33 anyPort (markReadOwner p entry))

/-- READ_CAPTURE (R132). -/
def execReadCapture (p : Port) (line : Nat) (s : State) : Result :=
  .next (s.request p 0x34 anyPort (onLine line readCaptureAt))

end Sys2Proof.Machine
end

