-- ==== Sys2Proof/Machine/SettingsRequests.lean ====
section
/-! DEFINITION. The settings writes and reads of the gallery and monitoring stations, and the site clock
(R4, R46, R170 to R181). -/

namespace Sys2Proof.Machine

/-- A yes/no byte is 0 or 1 (R182, R183). -/
def isYesNo (n : Nat) : Bool := n == 0 || n == 1

/-- A neighbour byte is 0 or a line number other than the line's own (R171 note b, R183). -/
def neighbourValid (l : LineId) (n : Nat) : Bool := n == 0 || (inRange 1 6 n && n != l.num)

/-- The fields of a WRITE_LINE lie in their ranges (R171 check 3). -/
def lineWriteValid (l : LineId) (q : LineWrite) : Bool :=
  isYesNo q.enabled && (q.displacement == 0 || inRange 100 5000 q.displacement) &&
  !(q.displacement == 0 && q.enabled == 1) && inRange 70 100 q.efficiency && inRange 300 3000 q.tmin &&
  inRange 0 500 q.k && inRange 1000 200000 q.lineVolume && inRange 1000 10000 q.fullScale &&
  neighbourValid l q.neighbour1 && neighbourValid l q.neighbour2 &&
  (q.neighbour1 == 0 || q.neighbour1 != q.neighbour2)

/-- The line table entry a WRITE_LINE writes (R171). -/
def lineEntryOf (q : LineWrite) : LineEntry where
  enabled := q.enabled == 1
  displacement := q.displacement
  efficiency := q.efficiency
  tmin := q.tmin
  k := q.k
  lineVolume := q.lineVolume
  fullScale := q.fullScale
  neighbour1 := LineId.ofNat? q.neighbour1
  neighbour2 := LineId.ofNat? q.neighbour2

/-- A line leaves OFF for IDLE and its regulator begins to sample (R4, R46). -/
def State.enableLine (s : State) (l : LineId) : State :=
  (s.updSeq l fun q => { q.released with state := .idle }).updReg l fun g =>
    { g with sampleTimer := .running 0 Config.samplePeriod }

/-- A line leaves IDLE for OFF and its regulator stops sampling (R4, R46). -/
def State.disableLine (s : State) (l : LineId) : State :=
  (s.updSeq l fun q => { q.released with state := .off }).updReg l fun g =>
    { g with sampleTimer := .stopped, lastReading := .none, gauge := none, invalidCount := 0 }

/-- The move of R4 after the enabled setting is written. -/
def State.followEnabled (s : State) (l : LineId) (enabled : Bool) : State :=
  match s.lineState l, enabled with
  | .off, true => s.enableLine l
  | .idle, false => s.disableLine l
  | _, _ => s

/-- WRITE_LINE at its line (R171). -/
def writeLineAt (q : LineWrite) (l : LineId) (s : State) : State × Answer :=
  if !(s.lineState l).quiescent then (s, plain .notQuiet)
  else if !lineWriteValid l q then (s, plain .range)
  else
    (({ s with lineTable := s.lineTable.set l (lineEntryOf q) } : State).followEnabled l (q.enabled == 1),
      plain .ok)

/-- The fields of a WRITE_MIX lie in their ranges (R173 check 3). -/
def mixWriteValid (q : MixWrite) : Bool :=
  isYesNo q.enabled && inRange 50 1000 q.ratio && inRange 1000 2200 q.gradient && inRange 0 5000 q.step

/-- Every line is quiescent (R173 check 2). -/
def State.allQuiescent (s : State) : Bool := LineId.all.all fun l => (s.lineState l).quiescent

/-- WRITE_MIX (R173). -/
def writeMixOwner (code : Nat) (q : MixWrite) (s : State) : State × Answer :=
  if !inRange 1 8 code then (s, plain .range)
  else if !s.allQuiescent then (s, plain .notQuiet)
  else if !mixWriteValid q then (s, plain .range)
  else
    ({ s with mixTable := s.mixTable.set code ⟨q.enabled == 1, some ⟨q.ratio, q.gradient, q.step⟩⟩ }, plain .ok)

/-- The fields of a WRITE_BANDS lie in their ranges (R174). -/
def State.bandsValid (s : State) (q : BandTable) : Bool :=
  inRange 0 9999 q.b1 && inRange 0 9999 q.b2 && inRange 0 9999 q.b3 && decide (q.b1 < q.b2) &&
  decide (q.b2 < q.b3) && [q.m1, q.m2, q.m3, q.m4, q.m0].all s.mixEnabled

/-- WRITE_BANDS (R174). -/
def writeBandsOwner (q : BandTable) (s : State) : State × Answer :=
  if s.bandsValid q then ({ s with bands := q }, plain .ok) else (s, plain .range)

/-- The fields of a WRITE_TIMING lie in their ranges (R175). -/
def timingValid (q : TimingTable) : Bool :=
  inRange 5 600 q.packerSettle && inRange 1 15 q.chargeStep && inRange 1 15 q.flushStep &&
  inRange 1 4 q.flushFactor && inRange 30 600 q.staticTime && inRange 1 40 q.circStrokes &&
  inRange 60 1800 q.refusalDwell && inRange 1 15 q.refusalStep

/-- WRITE_TIMING (R175). -/
def writeTimingOwner (q : TimingTable) (s : State) : State × Answer :=
  if timingValid q then ({ s with timing := q }, plain .ok) else (s, plain .range)

/-- The fields of a WRITE_ENVELOPE lie in their ranges (R176). -/
def envelopeValid (q : EnvelopeTable) : Bool :=
  inRange 1000 12000 q.beta && inRange 1 20 q.tolerance && inRange 1 30 q.band && inRange 20 2000 q.rise &&
  inRange 300 7200 q.standingLimit

/-- WRITE_ENVELOPE (R176). -/
def writeEnvelopeOwner (q : EnvelopeTable) (s : State) : State × Answer :=
  if envelopeValid q then ({ s with envelope := q }, plain .ok) else (s, plain .range)

/-- READ_SETTINGS (R178). -/
def readSettingsOwner (table index : Nat) (s : State) : State × Answer :=
  match s.settingsBytes table index with
  | some b => (s, ⟨.ok, b⟩)
  | none => (s, plain .range)

/-- SET_CLOCK: the clock takes the values, its phase starts again, the flag is set and CLOCK_SET is
latched (R181). -/
def setClockOwner (day second : Nat) (s : State) : State × Answer :=
  if Config.maxDay < day || Config.maxSecond < second then (s, plain .range)
  else (({ s with clock := ⟨day, second, true⟩, clockPhase := 0 } : State).latchAll .clockSet, plain .ok)

/-- WRITE_LINE (R171). -/
def execWriteLine (p : Port) (line : Nat) (q : LineWrite) (s : State) : Result :=
  .next (s.request p 0x50 [.gallery] (onLine line (writeLineAt q)))

/-- WRITE_MIX (R173). -/
def execWriteMix (p : Port) (code : Nat) (q : MixWrite) (s : State) : Result :=
  .next (s.request p 0x51 [.gallery] (writeMixOwner code q))

/-- WRITE_BANDS (R174). -/
def execWriteBands (p : Port) (q : BandTable) (s : State) : Result :=
  .next (s.request p 0x52 [.gallery] (writeBandsOwner q))

/-- WRITE_TIMING (R175). -/
def execWriteTiming (p : Port) (q : TimingTable) (s : State) : Result :=
  .next (s.request p 0x53 [.gallery] (writeTimingOwner q))

/-- WRITE_ENVELOPE (R176). -/
def execWriteEnvelope (p : Port) (q : EnvelopeTable) (s : State) : Result :=
  .next (s.request p 0x54 [.monitor] (writeEnvelopeOwner q))

/-- READ_SETTINGS (R178). -/
def execReadSettings (p : Port) (table index : Nat) (s : State) : Result :=
  .next (s.request p 0x56 anyPort (readSettingsOwner table index))

/-- SET_CLOCK (R181). -/
def execSetClock (p : Port) (day second : Nat) (s : State) : Result :=
  .next (s.request p 0x58 [.gallery, .monitor] (setClockOwner day second))

/-- READ_CLOCK (R181). -/
def execReadClock (p : Port) (s : State) : Result :=
  .next (s.request p 0x59 anyPort (reading fun s => ⟨.ok, s.clockBytes⟩))

end Sys2Proof.Machine
end

