-- ==== Sys2Proof/Machine/Link.lean ====
section
/-! DEFINITION. The link of a port: bytes received, frames checked and dispatched, the gap timer and the end
of a response (R152 to R156, R168). -/

namespace Sys2Proof.Machine

/-- The meaning of a request command, as its own arm of `exec` gives it. A command that is no request is
never carried by a frame and changes nothing here. -/
def runRequest (i : Instr) (s : State) : Result :=
  match i with
  | .powerOn => .next s
  | .cabinetReset => .next s
  | .byteReceived _ _ => .next s
  | .gapTimerExpiry _ => .next s
  | .responseSent _ => .next s
  | .seat p line q => execSeat p line q s
  | .test p line target duration => execTest p line target duration s
  | .charge p line => execCharge p line s
  | .inject p line => execInject p line s
  | .finish p line => execFinish p line s
  | .abort p line => execAbort p line s
  | .clearFault p line => execClearFault p line s
  | .circulate p line => execCirculate p line s
  | .hold p lines => execHold p lines s
  | .releaseHold p reason lines => execReleaseHold p reason lines s
  | .releaseConnection p lines => execReleaseConnection p lines s
  | .setCeiling p line ceiling => execSetCeiling p line ceiling s
  | .supervise p interval => execSupervise p interval s
  | .deliver p tank mix litres => execDeliver p tank mix litres s
  | .dump p tank => execDump p tank s
  | .readTanks p => execReadTanks p s
  | .readDemand p => execReadDemand p s
  | .readOpen p line => execReadOpen p line s
  | .readLog p entry => execReadLog p entry s
  | .logRange p => execLogRange p s
  | .markRead p entry => execMarkRead p entry s
  | .readCapture p line => execReadCapture p line s
  | .status p => execStatus p s
  | .snapshot p => execSnapshot p s
  | .readSnapshot p part => execReadSnapshot p part s
  | .readEvents p => execReadEvents p s
  | .clearEvents p events => execClearEvents p events s
  | .setMask p events => execSetMask p events s
  | .note p code => execNote p code s
  | .readNote p => execReadNote p s
  | .writeLine p line q => execWriteLine p line q s
  | .writeMix p code q => execWriteMix p code q s
  | .writeBands p q => execWriteBands p q s
  | .writeTiming p q => execWriteTiming p q s
  | .writeEnvelope p q => execWriteEnvelope p q s
  | .writeTank p tank capacity ageLimit => execWriteTank p tank capacity ageLimit s
  | .readSettings p table index => execReadSettings p table index s
  | .setClock p day second => execSetClock p day second s
  | .readClock p => execReadClock p s
  | .portReset p => execPortReset p s
  | .restart p => execRestart p s
  | .sample _ _ => .next s
  | .packerSettleExpiry _ => .next s
  | .testTimerExpiry _ => .next s
  | .strokeComplete _ => .next s
  | .strokeWatchExpiry _ => .next s
  | .circulationStaticExpiry _ => .next s
  | .standingTimerExpiry _ => .next s
  | .refusalTimerExpiry _ => .next s
  | .silenceTimerExpiry _ => .next s
  | .ageExpiry _ => .next s
  | .clockAdvance => .next s
  | .runSecondsAdvance => .next s
  | .resetInputDeasserted => .next s

/-- The receiver of a port set. -/
def State.setReceiver (s : State) (p : Port) (rx : Receiver) : State :=
  s.updPort p fun q => { q with rx := rx }

/-- A frame discarded: the receiver in HUNT and FRAME_ERROR latched on its port (R153). -/
def State.dropFrame (s : State) (p : Port) : State := (s.setReceiver p .hunt).latchOn p .frameError

/-- The payload length a frame states in its second byte (R152). -/
def statedLength (frame : List Byte) : Nat := (frame.getD 1 0).toNat

/-- Whether the bytes are a whole frame: 5 + n bytes for a payload of n (R153). -/
def isComplete (frame : List Byte) : Bool :=
  decide (2 ≤ frame.length) && frame.length == 5 + statedLength frame

/-- The bytes a frame's check covers: length, code and payload (R182). -/
def frameBody (frame : List Byte) : List Byte := frame.tail.take (2 + statedLength frame)

/-- Whether the check received is the check of the bytes covered (R154). -/
def checkGood (frame : List Byte) : Bool :=
  frame.drop (3 + statedLength frame) == u16 (check (frameBody frame)).toNat

/-- The request code of a frame (R152). -/
def frameCode (frame : List Byte) : Nat := (frame.getD 2 0).toNat

/-- The payload of a frame (R152). -/
def framePayload (frame : List Byte) : List Byte := (frame.drop 3).take (statedLength frame)

/-- A valid frame that carries no request of the summary: an unknown code is answered UNKNOWN, a wrong
length discarded with FRAME_ERROR; the silence timer has restarted (R155 steps 1 and 2, R124). -/
def State.rejectFrame (s : State) (p : Port) (code : Nat) : State :=
  let s1 := s.restartSilence p
  match requestLength code with
  | none => s1.respond p ⟨code, .unknown, []⟩
  | some _ => s1.latchOn p .frameError

/-- A complete frame checked and dispatched (R154, R155). A request it carries has the meaning of its
command. -/
def takeFrame (p : Port) (frame : List Byte) (s : State) : Result :=
  if (s.port.get p).response.isSome || !checkGood frame then .next (s.latchOn p .frameError)
  else
    match decodeRequest p (frameCode frame) (framePayload frame) with
    | some i => runRequest i s
    | none => .next (s.rejectFrame p (frameCode frame))

/-- A byte kept in RECEIVING: a length above 240 ends the frame, the last check byte completes it (R153). -/
def keepByte (p : Port) (frame : List Byte) (s : State) : Result :=
  if frame.length = 2 ∧ Config.maxPayload < statedLength frame then .next (s.dropFrame p)
  else if isComplete frame then takeFrame p frame (s.setReceiver p .hunt)
  else .next (s.setReceiver p (.receiving frame 0))

/-- BYTE_RECEIVED (R153). -/
def execByteReceived (p : Port) (b : Byte) (s : State) : Result :=
  match (s.port.get p).rx with
  | .hunt => .next (if b = Config.requestStart then s.setReceiver p (.receiving [b] 0) else s)
  | .receiving bytes _ => keepByte p (bytes ++ [b]) s

/-- GAP_TIMER_EXPIRY: the timer runs in RECEIVING alone; the frame is discarded (R153). A byte of the same
millisecond taken first has started the timer afresh (log 24). -/
def execGapTimerExpiry (p : Port) (s : State) : Result :=
  .next (s.onEvent (.gapTimerExpiry p) fun s =>
    match (s.port.get p).rx with
    | .hunt => s
    | .receiving _ _ => s.dropFrame p)

/-- RESPONSE_SENT: the response pending returns to no, and a RESTART that waited for it resets the cabinet
(R156, R168). -/
def execResponseSent (p : Port) (s : State) : Result :=
  let q := s.port.get p
  let s1 := s.updPort p fun q => { q with response := none }
  .next (if q.response.isNone then s else if q.restartWaiting then s1.cabinetReset else s1)

end Sys2Proof.Machine
end

