-- ==== Sys2Proof/Machine/Dispatch.lean ====
section
/-! DEFINITION. One arm for each command of the opcode table, each a call of that command's meaning. -/

namespace Sys2Proof.Machine

def exec (i : Instr) (s : State) : Host.Outcome State Fault Refusal :=
  match i with
  | .powerOn => Sys2Proof.Machine.execPowerOn s
  | .cabinetReset => Sys2Proof.Machine.execCabinetReset s
  | .byteReceived p b => Sys2Proof.Machine.execByteReceived p b s
  | .gapTimerExpiry p => Sys2Proof.Machine.execGapTimerExpiry p s
  | .responseSent p => Sys2Proof.Machine.execResponseSent p s
  | .seat p line q => Sys2Proof.Machine.execSeat p line q s
  | .test p line target duration => Sys2Proof.Machine.execTest p line target duration s
  | .charge p line => Sys2Proof.Machine.execCharge p line s
  | .inject p line => Sys2Proof.Machine.execInject p line s
  | .finish p line => Sys2Proof.Machine.execFinish p line s
  | .abort p line => Sys2Proof.Machine.execAbort p line s
  | .clearFault p line => Sys2Proof.Machine.execClearFault p line s
  | .circulate p line => Sys2Proof.Machine.execCirculate p line s
  | .hold p lines => Sys2Proof.Machine.execHold p lines s
  | .releaseHold p reason lines => Sys2Proof.Machine.execReleaseHold p reason lines s
  | .releaseConnection p lines => Sys2Proof.Machine.execReleaseConnection p lines s
  | .setCeiling p line ceiling => Sys2Proof.Machine.execSetCeiling p line ceiling s
  | .supervise p interval => Sys2Proof.Machine.execSupervise p interval s
  | .deliver p tank mix litres => Sys2Proof.Machine.execDeliver p tank mix litres s
  | .dump p tank => Sys2Proof.Machine.execDump p tank s
  | .readTanks p => Sys2Proof.Machine.execReadTanks p s
  | .readDemand p => Sys2Proof.Machine.execReadDemand p s
  | .readOpen p line => Sys2Proof.Machine.execReadOpen p line s
  | .readLog p entry => Sys2Proof.Machine.execReadLog p entry s
  | .logRange p => Sys2Proof.Machine.execLogRange p s
  | .markRead p entry => Sys2Proof.Machine.execMarkRead p entry s
  | .readCapture p line => Sys2Proof.Machine.execReadCapture p line s
  | .status p => Sys2Proof.Machine.execStatus p s
  | .snapshot p => Sys2Proof.Machine.execSnapshot p s
  | .readSnapshot p part => Sys2Proof.Machine.execReadSnapshot p part s
  | .readEvents p => Sys2Proof.Machine.execReadEvents p s
  | .clearEvents p events => Sys2Proof.Machine.execClearEvents p events s
  | .setMask p events => Sys2Proof.Machine.execSetMask p events s
  | .note p code => Sys2Proof.Machine.execNote p code s
  | .readNote p => Sys2Proof.Machine.execReadNote p s
  | .writeLine p line q => Sys2Proof.Machine.execWriteLine p line q s
  | .writeMix p code q => Sys2Proof.Machine.execWriteMix p code q s
  | .writeBands p q => Sys2Proof.Machine.execWriteBands p q s
  | .writeTiming p q => Sys2Proof.Machine.execWriteTiming p q s
  | .writeEnvelope p q => Sys2Proof.Machine.execWriteEnvelope p q s
  | .writeTank p tank capacity ageLimit => Sys2Proof.Machine.execWriteTank p tank capacity ageLimit s
  | .readSettings p table index => Sys2Proof.Machine.execReadSettings p table index s
  | .setClock p day second => Sys2Proof.Machine.execSetClock p day second s
  | .readClock p => Sys2Proof.Machine.execReadClock p s
  | .portReset p => Sys2Proof.Machine.execPortReset p s
  | .restart p => Sys2Proof.Machine.execRestart p s
  | .sample l r => Sys2Proof.Machine.execSample l r s
  | .packerSettleExpiry l => Sys2Proof.Machine.execPackerSettleExpiry l s
  | .testTimerExpiry l => Sys2Proof.Machine.execTestTimerExpiry l s
  | .strokeComplete l => Sys2Proof.Machine.execStrokeComplete l s
  | .strokeWatchExpiry l => Sys2Proof.Machine.execStrokeWatchExpiry l s
  | .circulationStaticExpiry l => Sys2Proof.Machine.execCirculationStaticExpiry l s
  | .standingTimerExpiry l => Sys2Proof.Machine.execStandingTimerExpiry l s
  | .refusalTimerExpiry l => Sys2Proof.Machine.execRefusalTimerExpiry l s
  | .silenceTimerExpiry p => Sys2Proof.Machine.execSilenceTimerExpiry p s
  | .ageExpiry t => Sys2Proof.Machine.execAgeExpiry t s
  | .clockAdvance => Sys2Proof.Machine.execClockAdvance s
  | .runSecondsAdvance => Sys2Proof.Machine.execRunSecondsAdvance s
  | .resetInputDeasserted => Sys2Proof.Machine.execResetInputDeasserted s

end Sys2Proof.Machine
end

