-- ==== Sys2Proof/Safety.lean ====
section
/-! DEFINITION. What the claims about the part are stated in: the answer to a request, the frames, the
invariants of the line, the supply, the hold map and the log, and the account of grout. -/

namespace Sys2Proof.Machine

/-! ### Answers -/

/-- A port free to take a frame (R154). -/
def State.free (s : State) (p : Port) : Prop := (s.port.get p).response = none

/-- `s` with the answer to a request on `p`: the silence timer from 0 if supervision is armed, and the
response being sent (R124, R154, R156). -/
def State.answered (s : State) (p : Port) (code : Nat) (status : Status) (payload : List Byte) : State :=
  { s with
    port := s.port.upd p fun q =>
      { q with
        silence := if q.supervision.isSome then some 0 else q.silence
        response := some ⟨code, status, payload⟩ } }

/-- A command answers a next state of which `P` holds. -/
def Answers (r : Result) (P : State → Prop) : Prop := ∃ t, r = .next t ∧ P t

/-- A run of bytes received on a port, one after another. -/
def receive (p : Port) : List Byte → State → Result
  | [], s => .next s
  | b :: bs, s =>
    match exec (.byteReceived p b) s with
    | .next t => receive p bs t
    | .fault r => .fault r
    | .refused r => .refused r

/-- A request command, the port it arrives on, its code and its payload (R155, R184). -/
def IsRequest (i : Instr) (p : Port) (code : Nat) (payload : List Byte) : Prop :=
  requestPort i = some p ∧ encodeRequest i = some (code, payload)

/-- The ports that the request summary allows for a code (the table of section 9.3). -/
def allowedPorts : Nat → List Port
  | 0x01 => [.gallery]
  | 0x02 => [.gallery]
  | 0x03 => [.gallery]
  | 0x04 => [.gallery]
  | 0x05 => [.gallery]
  | 0x06 => [.gallery, .monitor]
  | 0x07 => [.gallery]
  | 0x08 => [.gallery]
  | 0x12 => [.gallery]
  | 0x13 => [.monitor]
  | 0x20 => [.plant]
  | 0x21 => [.plant]
  | 0x50 => [.gallery]
  | 0x51 => [.gallery]
  | 0x52 => [.gallery]
  | 0x53 => [.gallery]
  | 0x54 => [.monitor]
  | 0x55 => [.plant]
  | 0x58 => [.gallery, .monitor]
  | 0x5D => [.gallery, .monitor]
  | _ => [.gallery, .monitor, .plant]

/-! ### Frames -/

/-- The settings store is the same (R170). -/
def SameSettings (s t : State) : Prop :=
  t.lineTable = s.lineTable ∧ t.mixTable = s.mixTable ∧ t.bands = s.bands ∧ t.timing = s.timing ∧
  t.envelope = s.envelope ∧ t.ceiling = s.ceiling ∧ t.tankTable = s.tankTable

/-- The site clock, the counter, the RESET input, the events of the millisecond and the queue of commands are the
same (R180, log 24). -/
def SameClock (s t : State) : Prop :=
  t.clock = s.clock ∧ t.clockPhase = s.clockPhase ∧ t.runSeconds = s.runSeconds ∧ t.runPhase = s.runPhase ∧
  t.resetAsserted = s.resetAsserted ∧ t.cameDue = s.cameDue ∧ t.pending = s.pending

/-- A line's sequencer, drive, regulator, open record, current tank and capture record are the same. -/
def SameLine (k : LineId) (s t : State) : Prop :=
  t.seq.get k = s.seq.get k ∧ t.drive.get k = s.drive.get k ∧ t.reg.get k = s.reg.get k ∧
  t.openRec.get k = s.openRec.get k ∧ t.currentTank.get k = s.currentTank.get k ∧
  t.capture.get k = s.capture.get k

/-- Every line is the same. -/
def SameLines (s t : State) : Prop := ∀ k, SameLine k s t

/-- Every line but one is the same. -/
def SameOtherLines (l : LineId) (s t : State) : Prop := ∀ k, k ≠ l → SameLine k s t

/-- The tanks and the demand queue are the same (R97). -/
def SameSupply (s t : State) : Prop := t.tanks = s.tanks ∧ t.demand = s.demand

/-- The stage log and the two counters are the same (R136). -/
def SameLog (s t : State) : Prop :=
  t.log = s.log ∧ t.nextSeq = s.nextSeq ∧ t.nextEntry = s.nextEntry

/-- Every event of a set is latched on every port (R157). -/
def AllLatched (t : State) (events : EventSet) : Prop :=
  ∀ p, (t.port.get p).latches &&& events = events

/-- The ports of `t` are those of `s` with the answer to a request and the events of a set latched (R156,
R157). -/
def AnsweredWith (s t : State) (p : Port) (code : Nat) (status : Status) (payload : List Byte)
    (events : EventSet) : Prop :=
  ∀ q, t.port.get q =
    { (s.answered p code status payload).port.get q with latches := (s.port.get q).latches ||| events }

/-- On every port exactly the events of a set have been latched, and nothing else of a port has changed
(R157). -/
def Latched (s t : State) (events : EventSet) : Prop :=
  ∀ p, t.port.get p = { s.port.get p with latches := (s.port.get p).latches ||| events }

/-- The event set of a list of events (R182). -/
def eventsOf (es : List Event) : EventSet := es.foldl (fun a e => a ||| e.bit) 0

/-- All that a line operation never touches: settings, clock, hold map and the other lines. -/
def OnlyLine (l : LineId) (s t : State) : Prop :=
  SameSettings s t ∧ SameClock s t ∧ SameOtherLines l s t ∧ t.holds = s.holds ∧ t.capture = s.capture

/-! ### Events due and overtaken (R10, R35, R38, R39, R64, R74, R90, R103, R125, R153, R180) -/

/-- A timer has run its time. -/
def RanOut (x : Timer) : Prop := ∃ elapsed limit, x = .running elapsed limit ∧ limit ≤ elapsed

/-- The event commands whose time has come. -/
def State.IsDue (s : State) : Instr → Prop
  | .gapTimerExpiry p => ∃ bytes gap, (s.port.get p).rx = .receiving bytes gap ∧ 20 ≤ gap
  | .silenceTimerExpiry p =>
    ∃ n ∈ (s.port.get p).supervision, ∃ elapsed ∈ (s.port.get p).silence, n * 1000 ≤ elapsed
  | .packerSettleExpiry l => RanOut (s.seq.get l).settleTimer
  | .testTimerExpiry l =>
    ∃ n ∈ (s.seq.get l).testDuration, ∃ elapsed ∈ (s.seq.get l).testTimer, n * 1000 ≤ elapsed
  | .strokeWatchExpiry l =>
    ∃ k ∈ (s.drive.get l).stroke, k.running = true ∧ ∃ w ∈ (s.drive.get l).watch, 3 * k.period ≤ w
  | .circulationStaticExpiry l => RanOut (s.drive.get l).staticTimer
  | .standingTimerExpiry l => RanOut (s.seq.get l).standingTimer
  | .refusalTimerExpiry l => RanOut (s.reg.get l).refusalTimer
  | .ageExpiry k =>
    (s.tanks.get k).state = .stocked ∧
      (s.tanks.get k).birth.getD 0 + (s.tankTable.get k).ageLimit * 60 ≤ s.runSeconds
  | .clockAdvance => 1000 ≤ s.clockPhase
  | .runSecondsAdvance => 1000 ≤ s.runPhase
  | _ => False

/-- The event commands that can come now: an expiry whose time has come, and the stroke-end sense of a RUNNING
stroke that has run for some time (R35). -/
def State.CanCome (s : State) : Instr → Prop
  | .strokeComplete l =>
    ∃ k ∈ (s.drive.get l).stroke, k.running = true ∧ ∃ w ∈ (s.drive.get l).watch, 0 < w
  | i => s.IsDue i

/-- No event taken before it in the same millisecond has overtaken a command: one that could come as the
millisecond began can still come (log 24). -/
def State.NotOvertaken (s : State) (i : Instr) : Prop := i ∈ s.cameDue → s.CanCome i

/-- A CHARGE completion has left the next stroke of a line to start (R35, log 25). -/
def State.Owes (s : State) (l : LineId) : Prop :=
  s.lineState l = .charging ∧ (s.seq.get l).currentMix ≠ none ∧ (s.drive.get l).purpose = .charge ∧
  (s.drive.get l).stroke = none ∧ (s.drive.get l).burst = none ∧ (s.drive.get l).pendingRate ≠ 0

/-! ### What the requests ask of the state (R7, R8, R16, R17) -/

/-- The stage parameters lie in the ranges of R7. -/
def SeatInRange (s : State) (q : SeatParams) : Prop :=
  1 ≤ q.hole ∧ q.hole ≤ 65535 ∧ 1 ≤ q.stage ∧ q.stage ≤ 99 ∧ 1 ≤ q.order ∧ q.order ≤ 4 ∧
  q.top ≤ 3000 ∧ q.bottom ≤ 3000 ∧ q.top + 5 ≤ q.bottom ∧ q.bottom ≤ q.top + 300 ∧
  100 ≤ q.pmax ∧ q.pmax ≤ 9000 ∧ 10000 ≤ q.gin ∧ q.gin ≤ 500000 ∧ 10 ≤ q.vmax ∧ q.vmax ≤ 5000 ∧
  s.mixEnabled q.thickest = true ∧
  (q.start = 0 ∨ s.mixEnabled q.start = true ∧ q.start ≤ q.thickest) ∧ 1 ≤ q.rateCap ∧ q.rateCap ≤ 15

/-- The hole and stage a waiting SEAT names. -/
def slotClaim : Option PendingReq → List (Nat × Nat)
  | some (.seat w) => [(w.hole, w.stage)]
  | _ => []

/-- The holes and stages a line names by its open record and its slot (R8). -/
def State.claims (s : State) (k : LineId) : List (Nat × Nat) :=
  ((s.openRec.get k).map fun r => (r.hole, r.stage)).toList ++ slotClaim (s.seq.get k).slot

/-- A command that ends the stage of a line, with the reason and abort origin of its record (R16, R17, R65,
R91). -/
def EndsStage (s : State) (l : LineId) (i : Instr) (reason : EndReason) (origin : Option Port) : Prop :=
  (i = .finish .gallery l.num ∧ s.free .gallery ∧ (s.lineState l).hasStage = true ∧ origin = none ∧
    reason = if s.lineState l = .seated ∨ s.lineState l = .testing then .withdrawn else .operator) ∨
  (i = .abort .gallery l.num ∧ s.free .gallery ∧ (s.lineState l).hasStage = true ∧
    origin = some .gallery ∧ reason = .abort) ∨
  (i = .abort .monitor l.num ∧ s.free .monitor ∧ (s.lineState l).hasStage = true ∧
    origin = some .monitor ∧ reason = .abort) ∨
  (i = .standingTimerExpiry l ∧ (s.lineState l = .ready ∨ s.lineState l = .held) ∧
    (s.seq.get l).standingTimer ≠ .stopped ∧ s.NotOvertaken i ∧ origin = none ∧ reason = .staticTimeout) ∨
  (i = .refusalTimerExpiry l ∧ s.lineState l = .injecting ∧ (s.reg.get l).refusalTimer ≠ .stopped ∧
    s.NotOvertaken i ∧ origin = none ∧ reason = .refusal)

/-! ### What the line requests ask of the line (R5, R6, R18) -/

/-- The command by which a port sends a SEAT, TEST, CHARGE or INJECT to a line number. -/
def reqCommand (p : Port) (line : Nat) : PendingReq → Instr
  | .seat q => .seat p line q
  | .test target duration => .test p line target duration
  | .charge => .charge p line
  | .inject => .inject p line

/-- The request code of a SEAT, TEST, CHARGE or INJECT (the table of section 9.3). -/
def reqCode : PendingReq → Nat
  | .seat _ => 0x01
  | .test _ _ => 0x02
  | .charge => 0x03
  | .inject => 0x04

/-- The line takes the request at once (the table of R5). -/
def State.takesAtOnce (s : State) (l : LineId) : PendingReq → Prop
  | .seat _ => s.lineState l = .idle
  | .test _ _ | .charge => s.lineState l = .seated ∧ (s.seq.get l).settled = true
  | .inject => s.lineState l = .ready ∧ (s.drive.get l).burst = none

/-- The line defers the request (the tables of R5 and R18). -/
def State.defers (s : State) (l : LineId) : PendingReq → Prop
  | .seat _ => s.lineState l = .flushing
  | .test _ _ => s.lineState l = .seated ∧ (s.seq.get l).settled = false
  | .charge => s.lineState l = .seated ∧ (s.seq.get l).settled = false ∨ s.lineState l = .testing
  | .inject => s.lineState l = .charging

/-- The line can act on the request now or keep it: checks 2 and 3 of R6. -/
def State.accepts (s : State) (l : LineId) (req : PendingReq) : Prop :=
  s.takesAtOnce l req ∨ s.defers l req ∧ (s.seq.get l).slot = none

/-- A hold on the line stops the request: check 4 of R6. -/
def State.heldBack (s : State) (l : LineId) : PendingReq → Prop
  | .seat _ => False
  | .test _ _ | .charge | .inject => s.covered l = true

/-- The parameters of the request lie in their ranges: check 5 of R6. -/
def ReqInRange (s : State) : PendingReq → Prop
  | .seat q => SeatInRange s q
  | .test target duration => 100 ≤ target ∧ target ≤ 9000 ∧ 60 ≤ duration ∧ duration ≤ 1800
  | .charge | .inject => True

/-- Another line names the stage of a SEAT: check 6 of R6, by R8. -/
def ReqConflict (s : State) (l : LineId) : PendingReq → Prop
  | .seat q => ∃ k, k ≠ l ∧ (q.hole, q.stage) ∈ s.claims k
  | .test _ _ | .charge | .inject => False

/-! ### Ends of stages (R24, R67, R143, R144) -/

/-- The grout in flight on a line: paid for and not yet placed (R34). -/
def State.inFlight (s : State) (l : LineId) : Nat :=
  match (s.drive.get l).stroke with
  | some k => if k.purpose.isGrout then k.volume else 0
  | none => 0

/-- The seconds of the stay in HELD in progress on a line (R23 step 1). -/
def State.heldNow (s : State) (l : LineId) : Nat :=
  if s.lineState l = .held then s.runSeconds - (s.seq.get l).heldSince.getD s.runSeconds else 0

/-- The record of a stage of a line that closes now (R24, R37, R67, R94, R141, R143). -/
def State.closing (s : State) (l : LineId) (r : Record) (reason : EndReason) (origin : Option Port) : Record :=
  { r with
    entry := some s.nextEntry
    unplaced := r.unplaced + s.inFlight l
    heldSeconds := r.heldSeconds + s.heldNow l
    clockUnset := r.clockUnset || !s.clock.isSet
    ending := some
      { pn := (s.reg.get l).pn.getD 0
        limit := (s.reg.get l).plim.getD
          (if s.ceiling.get l = 0 then r.pmaxApplied else min r.pmaxApplied (s.ceiling.get l))
        rate := (s.drive.get l).rate
        time := ⟨s.clock.day, s.clock.second⟩
        reason := reason
        origin := origin } }

/-- The newest 32 of a run of records (R143). -/
def newest32 (log : List Record) : List Record := log.drop (log.length - 32)

/-- One closed record has been appended to the log (R143, R144): the log keeps its newest 32; a mark on the
record removed moves to the new oldest, the port counts the loss, and the port has LOG_OVERRUN latched. -/
def Appended (s t : State) (r : Record) : Prop :=
  t.log = newest32 (s.log ++ [r]) ∧
  t.nextEntry = (if s.nextEntry = 65535 then 1 else s.nextEntry + 1) ∧
  t.nextSeq = s.nextSeq ∧
  ∀ p,
    if s.log.length = 32 ∧ (s.log.head?.map Record.number) = some (s.port.get p).mark then
      some (t.port.get p).mark = (t.log.head?.map Record.number) ∧
      (t.port.get p).missed = min 65535 ((s.port.get p).missed + 1) ∧
      (t.port.get p).latched .logOverrun = true
    else
      (t.port.get p).mark = (s.port.get p).mark ∧ (t.port.get p).missed = (s.port.get p).missed

/-- What a command adds to the log (R143): the records closed, at most one for each line, in order, under the
next entry numbers, of which with the log before the newest 32 stay, each as it was. -/
def Gained (s t : State) (news : List Record) : Prop :=
  news.length ≤ 6 ∧ t.log = newest32 (s.log ++ news) ∧ t.nextEntry = nextNumber^[news.length] s.nextEntry ∧
  (news.map fun r => r.entry) = (List.range news.length).map (fun i => some (nextNumber^[i] s.nextEntry)) ∧
  ∀ r ∈ news, r.ending.isSome = true

/-- A drive at rest (R29, R32). -/
def restDrive : Drive := ⟨.none, 0, 0, none, none, none, .stopped⟩

/-- A drive that has just started a stroke of one of the four purposes at a rate step (R30, R33). -/
def startedDrive (s : State) (l : LineId) (purpose : Purpose) (kind : StrokePurpose) (source : Source) (r : Nat)
    (static : Timer) : Drive where
  purpose := purpose
  rate := r
  pendingRate := r
  stroke := some ⟨kind, source, s.strokeVolume l, true, (s.lineTable.get l).tmin * 15 / r⟩
  watch := some 0
  burst := none
  staticTimer := static

/-- A sequencer whose stage has ended, with its line out in a state (R3, R24). -/
def Sequencer.stageOver (q : Sequencer) (state : LineState) : Sequencer :=
  { q with
    state := state
    slot := none
    settleTimer := .stopped
    standingTimer := .stopped
    waitHold := false
    waitSupply := false
    resume := none
    resumeAfterBurst := false
    heldSince := if q.state = .held then none else q.heldSince
    currentMix := none
    testDuration := none
    testTimer := none
    packerInflated := false
    returnOpen := true
    source := .water }

/-- A regulator whose stage has ended (R24 step 4, R67). -/
def Regulator.stageOver (g : Regulator) : Regulator :=
  { g with
    pf := none
    pn := none
    plim := none
    lowerBand := none
    v := none
    excursionStop := false
    refusalTimer := .stopped
    testRunning := false
    testTarget := none
    pressureSum := 0
    sampleCount := 0
    testVolume := 0
    watchArmed := false
    baseline := none }

/-- The tank a line stands on changed, with its level lowered by one stroke of the line (R101, R102). -/
def Debited (s t : State) (l : LineId) (k : TankId) : Prop :=
  t.tanks.get k =
    (if (s.tanks.get k).level = s.strokeVolume l then ⟨.empty, none, 0, none⟩
      else { s.tanks.get k with level := (s.tanks.get k).level - s.strokeVolume l }) ∧
  (∀ j, j ≠ k → t.tanks.get j = s.tanks.get j) ∧ t.currentTank.get l = some k ∧ t.demand = s.demand

/-- A line that has just entered HELD (R21, R22, R90): what its sequencer holds, apart from the wait cause. -/
def Sequencer.heldAs (q : Sequencer) (s : State) (r : Resume) : Sequencer :=
  { q with
    state := .held
    resume := some r
    heldSince := some s.runSeconds
    standingTimer := .running 0 (s.envelope.standingLimit * 1000) }

/-- The circulation static timer just started: it runs only for a line that holds grout (R39). -/
def State.staticAfresh (s : State) (holdsGrout : Bool) : Timer :=
  if holdsGrout then .running 0 (s.timing.staticTime * 1000) else .stopped

/-- The watch of a regulator armed afresh, its refusal timer cancelled (R64, R129). -/
def Regulator.standing (g : Regulator) : Regulator :=
  { g with refusalTimer := .stopped, watchArmed := true, baseline := none }

/-! ### Leaving HELD, grout stroke starts and supply wait (R22, R23, R33, R101, R106) -/

/-- A sequencer that has left HELD for its resume state with no wait cause left (R23). -/
def Sequencer.outOfHeld (q : Sequencer) (r : Resume) : Sequencer :=
  { q with
    state := if r = .charging then .charging else .injecting
    waitHold := false
    waitSupply := false
    resume := none
    resumeAfterBurst := false
    heldSince := none
    standingTimer := .stopped
    returnOpen := decide (r = .charging) }

/-- A regulator whose line has left HELD (R23 step 3, R129). -/
def Regulator.outOfHeld (g : Regulator) : Regulator :=
  { g with excursionStop := false, watchArmed := false, baseline := none }

/-- The record of a line that leaves HELD, the stay added to its held seconds (R23 step 1). -/
def State.stayAdded (s : State) (l : LineId) : Option Record :=
  (s.openRec.get l).map fun x => { x with heldSeconds := x.heldSeconds + s.heldNow l }

/-- The rate step a line resumes at (R23 step 5). -/
def State.rateOf (s : State) (r : Resume) : Nat := if r = .charging then s.timing.chargeStep else 1

/-- A grout stroke of CHARGE or INJECT has started from a tank, which has paid for it (R33, R101, R102): what
the line's blocks hold, from what they held before the start. -/
def GroutStarts (s t : State) (l : LineId) (r : Resume) (k : TankId) (rate : Nat) (q : Sequencer) (static : Timer)
    (g : Regulator) (x : Option Record) : Prop :=
  Debited s t l k ∧
  t.seq.get l = { q with source := .tank k, holdsGrout := q.holdsGrout || decide (r = .charging) } ∧
  t.drive.get l =
    (if r = .charging then startedDrive s l .charge .charge (.tank k) rate static
      else startedDrive s l .inject .inject (.tank k) rate static) ∧
  t.reg.get l = g ∧ t.openRec.get l = x

/-- A grout stroke start has been answered with supply wait (R22, R33 step 3, R106): the line is in HELD with
SUPPLY, its rate steps 0, its timers and its watch afresh, its record's episodes counted, and it stands at the
tail of the waiting list of its mix, in a new entry if there was none. -/
def SupplyWaits (s t : State) (l : LineId) (r : Resume) (mix : Nat) (q : Sequencer) (d : Drive) (g : Regulator)
    (x : Option Record) : Prop :=
  t.tanks = s.tanks ∧ t.currentTank.get l = s.currentTank.get l ∧
  t.seq.get l = { q.heldAs s r with waitSupply := true } ∧
  t.drive.get l =
    { d with rate := 0, pendingRate := 0, stroke := none, staticTimer := s.staticAfresh q.holdsGrout } ∧
  t.reg.get l = g.standing ∧
  t.openRec.get l = x.map (fun r => { r with supplyEpisodes := min 65535 (r.supplyEpisodes + 1) }) ∧
  ((∀ e ∈ s.demand, e.mix ≠ mix) →
    t.demand = s.demand ++ [⟨mix, [l], ⟨⟨s.clock.day, s.clock.second⟩, !s.clock.isSet⟩⟩]) ∧
  ((∃ e ∈ s.demand, e.mix = mix) →
    t.demand = s.demand.map fun e => if e.mix = mix then { e with waiting := e.waiting ++ [l] } else e)

/-- The treatment of one waiting line by a service, and the number of lines it takes off the list (R107). -/
def Treated (mix : Nat) (l : LineId) (s t : State) (left : Nat) : Prop :=
  match s.selectTank l mix (s.strokeVolume l), (s.seq.get l).resume with
  | some k, some r =>
    let q := { s.seq.get l with waitSupply := false }
    let struck := s.demand.map fun d => { d with waiting := d.waiting.filter (· != l) }
    OnlyLine l s t ∧ SameLog s t ∧ t.port = s.port ∧ t.demand = struck ∧ left = 1 ∧
    if s.covered l = true ∨ (s.drive.get l).burst ≠ none then
      t.tanks = s.tanks ∧ t.currentTank = s.currentTank ∧
      t.seq.get l = { q with resumeAfterBurst := !q.waitHold } ∧ t.drive.get l = s.drive.get l ∧
      t.reg.get l = s.reg.get l ∧ t.openRec.get l = s.openRec.get l
    else
      GroutStarts { s with demand := struck } t l r k (s.rateOf r) (q.outOfHeld r) .stopped
        (s.reg.get l).outOfHeld (s.stayAdded l)
  | _, _ => t = s ∧ left = 0

/-- The treatment of a waiting list from its head, each line with the tank levels the lines before it have
left, and the number of lines that leave it (R107). -/
def TreatedInTurn (mix : Nat) : List LineId → State → State → Nat → Prop
  | [], s, t, n => t = s ∧ n = 0
  | l :: ls, s, t, n => ∃ u a b, Treated mix l s u a ∧ TreatedInTurn mix ls u t b ∧ n = a + b

/-! ### The line (R3, R21 to R23, R32, R40, R41) -/

/-- The purposes the drive of a line may hold in the line's state (R32): a completed flush leaves FLUSH
behind, and a completed charge CHARGE. -/
def purposeFits (q : Sequencer) : Purpose → Bool
  | .none => q.state == .off || q.state == .idle || q.state == .seated || q.state == .fault
  | .flush =>
    q.state == .off || q.state == .idle || q.state == .seated || q.state == .flushing
  | .test => q.state == .testing
  | .charge =>
    q.state == .charging || q.state == .ready || (q.state == .held && q.resume == some .charging)
  | .inject => q.state == .injecting || (q.state == .held && q.resume == some .injecting)

/-- The strokes a line may have in progress in its state (R3, R36, R40, R41). -/
def strokeFits (q : Sequencer) (d : Drive) (k : Stroke) : Bool :=
  match k.purpose with
  | .test => q.state == .testing && d.burst.isNone
  | .flush => q.state == .flushing && d.burst.isNone
  | .circulate => q.state.stands && d.burst.isSome
  | .charge =>
    d.burst.isNone &&
      (q.state == .charging || (q.state == .held && q.resume == some .charging && !k.running && !q.waitSupply))
  | .inject =>
    d.burst.isNone &&
      (q.state == .injecting || (q.state == .held && q.resume == some .injecting && !k.running && !q.waitSupply))

/-- A line in a grout state (R2). -/
def LineState.isGrout : LineState → Bool
  | .charging | .ready | .injecting | .held => true
  | .off | .idle | .seated | .testing | .flushing | .fault => false

/-- What holds of every line between commands: its open record (R3), its resume state and wait causes in
HELD and nowhere else (R21 to R23), its place on a waiting list (R105), its coverage (R21), and the work
its drive may have (R32, R39 to R41). -/
structure State.LineInv (s : State) (l : LineId) : Prop where
  record : (s.openRec.get l).isSome = (s.seq.get l).state.hasStage
  resume : (s.seq.get l).resume.isSome = ((s.seq.get l).state == .held)
  mix : (s.seq.get l).currentMix.isSome = (s.seq.get l).state.isGrout
  uncovered : s.covered l = true →
    (s.seq.get l).state ≠ .testing ∧ (s.seq.get l).state ≠ .charging ∧ (s.seq.get l).state ≠ .injecting
  hold : (s.seq.get l).waitHold = ((s.seq.get l).state == .held && s.covered l)
  supply : (s.seq.get l).waitSupply = onList s.demand l
  cause : (s.seq.get l).state = .held →
    (s.seq.get l).waitHold = true ∨ (s.seq.get l).waitSupply = true ∨ (s.seq.get l).resumeAfterBurst = true
  waits : (s.seq.get l).waitSupply = true ∨ (s.seq.get l).resumeAfterBurst = true →
    (s.seq.get l).state = .held
  afterBurst : (s.seq.get l).resumeAfterBurst = true →
    (s.seq.get l).waitHold = false ∧ (s.seq.get l).waitSupply = false ∧ (s.drive.get l).burst.isSome = true
  purpose : purposeFits (s.seq.get l) (s.drive.get l).purpose = true
  stroke : ∀ k, (s.drive.get l).stroke = some k → strokeFits (s.seq.get l) (s.drive.get l) k = true
  burst : (s.drive.get l).burst.isSome = true → (s.seq.get l).state.stands = true
  running : ∀ k, (s.drive.get l).stroke = some k → k.running = true → k.purpose ≠ .circulate →
    0 < (s.drive.get l).rate
  zero : (s.drive.get l).burst = none → (s.drive.get l).rate = 0 → (s.drive.get l).pendingRate = 0
  still : (s.drive.get l).burst = none →
    (s.seq.get l).state ≠ .testing → (s.seq.get l).state ≠ .charging → (s.seq.get l).state ≠ .injecting →
    (s.seq.get l).state ≠ .flushing → (s.drive.get l).rate = 0 ∧ (s.drive.get l).pendingRate = 0

/-- No two lines name the same hole and stage, by an open record or by a SEAT in the slot (R3, R8). -/
def State.StagesDistinct (s : State) : Prop := ∀ j k, j ≠ k → ∀ c ∈ s.claims j, c ∉ s.claims k

/-- Every line is as `LineInv` says. -/
def State.LinesInv (s : State) : Prop := ∀ l, s.LineInv l

/-! ### The supply account (R97, R98) -/

/-- What holds of every tank between commands (R98). -/
def State.TankInv (s : State) (t : TankId) : Prop :=
  ((s.tanks.get t).state = .unfitted ↔ (s.tankTable.get t).capacity = 0) ∧
  (s.tanks.get t).level ≤ (s.tankTable.get t).capacity * 1000 ∧
  match (s.tanks.get t).state with
  | .unfitted | .empty =>
    (s.tanks.get t).mix = none ∧ (s.tanks.get t).level = 0 ∧ (s.tanks.get t).birth = none
  | .stocked | .stale =>
    (∃ m, (s.tanks.get t).mix = some m ∧ 1 ≤ m ∧ m ≤ 8) ∧ 0 < (s.tanks.get t).level ∧
    ∃ b, (s.tanks.get t).birth = some b ∧ b ≤ s.runSeconds

/-! ### The hold map (R115) -/

/-- No entry of the hold map has an empty line set (R115). -/
def HoldMap.NoEmptyEntry (m : HoldMap) : Prop := ∀ k e, m.get k = some e → e.lines.isEmpty = false

/-! ### The stage log (R136, R143, R144) -/

/-- A list of entry numbers in which each follows the one before it, 65535 followed by 1, up to a last
number whose follower is `next` (R143). -/
def runsTo (next : Nat) : List Nat → Prop
  | [] => True
  | [n] => nextNumber n = next
  | n :: m :: ns => nextNumber n = m ∧ runsTo next (m :: ns)

/-- The entry numbers of the log, oldest first. -/
def State.numbers (s : State) : List Nat := s.log.map Record.number

/-- What holds of the log and the marks between commands: at most 32 closed records, their numbers without
a gap up to the next entry number, each mark on a held record or on the next entry number (R136, R143,
R144). -/
structure State.LogInv (s : State) : Prop where
  size : s.log.length ≤ Config.logSize
  closed : ∀ r ∈ s.log, r.entry.isSome = true ∧ r.ending.isSome = true
  range : ∀ n ∈ s.nextEntry :: s.numbers, 1 ≤ n ∧ n ≤ 65535
  run : runsTo s.nextEntry s.numbers
  marks : ∀ p, (s.port.get p).mark = s.nextEntry ∨ (s.port.get p).mark ∈ s.numbers

/-! ### The account of grout (R34) -/

/-- The three volumes of a record (R138). -/
def Record.placed (r : Record) : Nat := r.charge + r.injected + r.unplaced

/-- The grout the part accounts for outside the log: in the tanks, in flight, and in the three volumes of
the open records (R34). -/
def State.grout (s : State) : Nat :=
  (TankId.all.map fun t => (s.tanks.get t).level).sum + (LineId.all.map s.inFlight).sum +
  (LineId.all.map fun l => ((s.openRec.get l).map Record.placed).getD 0).sum

end Sys2Proof.Machine
end

