-- ==== Sys2Proof/Certificates/Slice0/Obligations.lean ====
section
/-! DEFINITION. The statements about the part, made from the numbered rules of the manual. -/

open Sys2Proof Sys2Proof.Machine

/-! ### Steps, power-on and the cabinet reset -/

/-- A step takes the command at the front of the queue (log 2 says what an empty queue does). -/
def Obligations.StepRunsFrontCommand : Prop :=
  ∀ (s : State) (c : Instr) (rest : List Instr),
    s.pending = c :: rest → step s = exec c { s with pending := rest }

/-- The model's choice (logs 2, 15 and 18): with no command waiting, a step queues one expiry that is due (of
several the first of a fixed order), and lets one millisecond pass when none is and no stroke is owed (log 25). What
is due is what R10, R38, R39, R64, R74, R90, R103, R125, R153 and R180 say; a sample is never due. As the new
millisecond begins the events that can come in it are noted (log 24). -/
def Obligations.IdleStepPassesTime : Prop :=
  ∀ (s : State), s.pending = [] →
    let ticked : Timer → Timer := fun x =>
      match x with
      | .stopped => .stopped
      | .running elapsed limit => .running (min limit (elapsed + 1)) limit
    let rung : Receiver → Receiver := fun x =>
      match x with
      | .hunt => .hunt
      | .receiving bytes gap => .receiving bytes (gap + 1)
    ((∀ i, ¬s.IsDue i) → (∀ l, ¬s.Owes l) →
      Answers (step s) fun t => (∀ i, i ∈ t.cameDue ↔ t.CanCome i) ∧ t = { s with
        seq := s.seq.mapIdx fun _ q =>
          { q with
            settleTimer := ticked q.settleTimer
            standingTimer := ticked q.standingTimer
            testTimer := q.testTimer.map (· + 1) }
        drive := s.drive.mapIdx fun _ d =>
          { d with
            watch := if (d.stroke.map (·.running)) = some true then d.watch.map (· + 1) else d.watch
            staticTimer := ticked d.staticTimer }
        reg := s.reg.mapIdx fun _ g =>
          { g with sampleTimer := ticked g.sampleTimer, refusalTimer := ticked g.refusalTimer }
        port := s.port.mapIdx fun _ q =>
          { q with rx := rung q.rx, silence := q.silence.map (· + 1) }
        clockPhase := s.clockPhase + 1
        runPhase := s.runPhase + 1
        cameDue := t.cameDue }) ∧
    ((∃ i, s.IsDue i) → ∃ i, s.IsDue i ∧ step s = .next { s with pending := [i] }) ∧
    (∀ i, i ∈ s.due ↔ s.IsDue i) ∧
    ∀ i rest, s.due = i :: rest → step s = .next { s with pending := [i] }

/-- Every field at its power-on value (R2, R29, R45, R97, R115, R136, R151, R171 to R177, R180). -/
def Obligations.PowerOnGivesInitialValues : Prop :=
  ∀ (s : State), Answers (exec .powerOn s) fun t =>
    (∀ l,
      t.seq.get l =
        { state := .off, settled := false, slot := none, settleTimer := .stopped, standingTimer := .stopped
          holdsGrout := false, waitHold := false, waitSupply := false, resume := none
          resumeAfterBurst := false, heldSince := none, faultCause := none, currentMix := none
          chargeCount := 0, nc := 0, flushCount := 0, nf := 0, testDuration := none, testTimer := none
          packerInflated := false, returnOpen := true, source := .water } ∧
      t.drive.get l = ⟨.none, 0, 0, none, none, none, .stopped⟩ ∧
      t.reg.get l =
        { sampleTimer := .stopped, lastReading := .none, gauge := none, invalidCount := 0, geometry := none
          pf := none, pe := none, pn := none, plim := none, lowerBand := none, v := none
          excursionStop := false, refusalTimer := .stopped, testRunning := false, testTarget := none
          pressureSum := 0, sampleCount := 0, testVolume := 0, watchArmed := false, baseline := none } ∧
      t.openRec.get l = none ∧ t.currentTank.get l = none ∧ t.capture.get l = none ∧ t.ceiling.get l = 0 ∧
      t.lineTable.get l = ⟨false, 0, 95, 1000, 0, 20000, 6000, none, none⟩) ∧
    (∀ k, t.tanks.get k = ⟨.empty, none, 0, none⟩ ∧ t.tankTable.get k = ⟨1000, 90⟩) ∧
    (∀ p, t.port.get p =
      { rx := .hunt, response := none, latches := 0, masks := 0xFFFF, snapshot := none, note := none
        mark := 1, missed := 0, supervision := none, silence := none, restartWaiting := false }) ∧
    t.demand = [] ∧ (∀ k, t.holds.get k = none) ∧ t.log = [] ∧ t.nextSeq = 1 ∧ t.nextEntry = 1 ∧
    (∀ c, 1 ≤ c → c ≤ 8 → t.mixTable.get? c = some ⟨false, none⟩) ∧
    t.bands = ⟨30, 100, 300, 1, 2, 3, 4, 2⟩ ∧ t.timing = ⟨30, 8, 10, 2, 120, 6, 300, 2⟩ ∧
    t.envelope = ⟨5000, 5, 10, 150, 1800⟩ ∧ t.clock = ⟨0, 0, false⟩ ∧ t.runSeconds = 0 ∧
    t.pending = s.pending

/-- A cabinet reset sets every line by the table of R28, the drives, regulators, hold map, queue, capture
records and ports to their reset values, and keeps settings, tanks, clock and stage sequence number. An input
already asserted causes no second reset until it has been deasserted (R28, R43, R68, R114, R135, R149, R168,
R169). -/
def Obligations.CabinetResetSetsEveryBlock : Prop :=
  ∀ (s : State),
    (s.resetAsserted = true → exec .cabinetReset s = .next s) ∧
    exec .resetInputDeasserted s = .next { s with resetAsserted := false } ∧
    (s.resetAsserted = false → (∀ l, (s.openRec.get l).isSome = (s.lineState l).hasStage) →
      Answers (exec .cabinetReset s) fun t =>
        (∀ l,
          let st := s.lineState l
          let keepsGrout : Bool := decide ((s.seq.get l).holdsGrout = true ∧
            (st = .charging ∨ st = .ready ∨ st = .injecting ∨ st = .held ∨ st = .flushing ∨ st = .fault))
          let after : LineState := if st = .off then .off else if keepsGrout then .fault else .idle
          t.seq.get l =
            { Sequencer.powerOn with
              state := after
              faultCause := if keepsGrout then some .reset else none
              holdsGrout := keepsGrout } ∧
          t.drive.get l = restDrive ∧
          t.reg.get l =
            { Regulator.powerOn with
              sampleTimer := if after = .off then .stopped else .running 0 500 } ∧
          t.openRec.get l = none ∧ t.currentTank.get l = none ∧ t.capture.get l = none) ∧
        t.demand = [] ∧ (∀ k, t.holds.get k = none) ∧ t.tanks = s.tanks ∧ SameSettings s t ∧
        t.clock = s.clock ∧ t.runSeconds = s.runSeconds ∧ t.nextSeq = s.nextSeq ∧ t.pending = s.pending ∧
        t.resetAsserted = true ∧
        ∀ p, t.port.get p =
          { rx := .hunt, response := (s.port.get p).response, latches := Event.restarted.bit, masks := 0xFFFF
            snapshot := none, note := none, mark := (t.port.get p).mark, missed := (t.port.get p).missed
            supervision := none, silence := none, restartWaiting := false })

/-- A cabinet reset closes every open record with reason RESET, line 1 first, each with its true volumes and
the next entry number, and keeps the newest 32 records of the log (R24, R28, R67, R143, R149; the final limit of a
stage without a pn is log 27). -/
def Obligations.CabinetResetClosesOpenStages : Prop :=
  ∀ (s : State), s.resetAsserted = false → s.log.length ≤ 32 →
    (∀ l, (s.openRec.get l).isSome = (s.lineState l).hasStage) →
    Answers (exec .cabinetReset s) fun t =>
      let opens : List (LineId × Record) :=
        LineId.all.filterMap fun l => (s.openRec.get l).map fun r => (l, r)
      let closed : List Record :=
        opens.zipIdx.map fun x =>
          { s.closing x.1.1 x.1.2 .reset none with entry := some (nextNumber^[x.2] s.nextEntry) }
      t.log = newest32 (s.log ++ closed) ∧ t.nextEntry = nextNumber^[opens.length] s.nextEntry ∧
      t.nextSeq = s.nextSeq

/-! ### The link -/

/-- The receiver passes over bytes in HUNT until A5h, keeps bytes in RECEIVING, drops a frame whose length
byte is above 240, and drops a partial frame when its gap timer expires; the gap timer does not run in HUNT
(R153; the last clause is the model's, log 5). -/
def Obligations.ReceiverAssemblesFrames : Prop :=
  ∀ (s : State) (p : Port) (b : Byte),
    ((s.port.get p).rx = .hunt →
      exec (.byteReceived p b) s = .next (if b = 0xA5 then s.setReceiver p (.receiving [0xA5] 0) else s) ∧
      exec (.gapTimerExpiry p) s = .next s) ∧
    ∀ bytes gap, (s.port.get p).rx = .receiving bytes gap →
      (bytes.length = 1 → 240 < b.toNat →
        exec (.byteReceived p b) s = .next ((s.setReceiver p .hunt).latchOn p .frameError)) ∧
      (bytes.length = 1 → b.toNat ≤ 240 →
        exec (.byteReceived p b) s = .next (s.setReceiver p (.receiving (bytes ++ [b]) 0))) ∧
      (2 ≤ bytes.length → bytes.length + 1 ≠ 5 + (bytes.getD 1 0).toNat →
        exec (.byteReceived p b) s = .next (s.setReceiver p (.receiving (bytes ++ [b]) 0))) ∧
      (s.NotOvertaken (.gapTimerExpiry p) →
        exec (.gapTimerExpiry p) s = .next ((s.setReceiver p .hunt).latchOn p .frameError))

/-- The last check byte completes a frame. It is discarded with FRAME_ERROR on its port alone while a
response is pending or where its check is bad. A good frame with an unknown code is answered UNKNOWN; one of
a known code and the wrong length is discarded with FRAME_ERROR after the silence timer has restarted (R153
to R155, R124). -/
def Obligations.CompleteFramesAreChecked : Prop :=
  ∀ (s : State) (p : Port) (n code c1 c2 : Byte) (payload : List Byte) (gap : Nat),
    payload.length = n.toNat → n.toNat ≤ 240 →
    (s.port.get p).rx = .receiving (0xA5 :: n :: code :: (payload ++ [c1])) gap →
    let s1 := s.setReceiver p .hunt
    let good : Prop := [c1, c2] = be 2 (check (n :: code :: payload)).toNat
    ((s.port.get p).response.isSome = true ∨ ¬good →
      exec (.byteReceived p c2) s = .next (s1.latchOn p .frameError)) ∧
    (s.free p → good → requestLength code.toNat = none →
      exec (.byteReceived p c2) s = .next (s1.answered p code.toNat .unknown [])) ∧
    (s.free p → good → ∀ m, requestLength code.toNat = some m → m ≠ payload.length →
      exec (.byteReceived p c2) s =
        .next ((s1.updPort p fun q =>
          { q with
            silence := if q.supervision.isSome then some 0 else q.silence }).latchOn p .frameError))

/-- The bytes of the frame that carries a well-formed request, received one after another on a port that
hunts and is free, do what the request command does (R152 to R155, log 1). -/
def Obligations.FrameRunsItsRequest : Prop :=
  ∀ (s : State) (i : Instr) (p : Port) (code : Nat) (payload : List Byte),
    IsRequest i p code payload → i.wf = true → (s.port.get p).rx = .hunt → s.free p →
    receive p (requestFrame (BitVec.ofNat 8 code) payload) s = exec i s

/-- Decoding the code and payload of a well-formed request gives that request, with every field at every
value its bytes admit (R155, R182, R184). -/
def Obligations.DecodingTheEncodingIsTheRequest : Prop :=
  ∀ (i : Instr) (p : Port) (code : Nat) (payload : List Byte),
    IsRequest i p code payload → i.wf = true → decodeRequest p code payload = some i

/-- Every request is discarded with FRAME_ERROR on its port while a response is pending there, and is
answered RIGHTS, with the silence timer restarted and nothing else done, on a port the request summary does
not allow (R154, R155, R124; log 1). -/
def Obligations.PendingAndRightsChecks : Prop :=
  ∀ (s : State) (i : Instr) (p : Port) (code : Nat) (payload : List Byte),
    IsRequest i p code payload →
    (¬s.free p → exec i s = .next (s.latchOn p .frameError)) ∧
    (s.free p → p ∉ allowedPorts code → exec i s = .next (s.answered p code .rights []))

/-- A response that has been sent leaves the port free. A RESTART is answered OK and waits; the cabinet
reset follows the last byte of that response, and is the reset the RESET input makes (R156, R168, log 19).
Without a response being sent the command changes nothing (log 5). -/
def Obligations.ResponseEndFreesThePortOrRestarts : Prop :=
  ∀ (s : State) (p : Port),
    (s.free p → exec (.responseSent p) s = .next s) ∧
    (¬s.free p → (s.port.get p).restartWaiting = false →
      exec (.responseSent p) s = .next (s.updPort p fun q => { q with response := none })) ∧
    (¬s.free p → (s.port.get p).restartWaiting = true →
      Answers (exec (.responseSent p) s) fun t =>
        t.resetAsserted = s.resetAsserted ∧
        exec .cabinetReset
            { s.updPort p (fun q => { q with response := none }) with resetAsserted := false } =
          .next { t with resetAsserted := true }) ∧
    (s.free p → p ≠ .plant →
      exec (.restart p) s =
        .next ((s.answered p 0x5D .ok []).updPort p fun q => { q with restartWaiting := true }))

/-! ### Requests that only read -/

/-- READ_EVENTS answers the requesting port's latch set and mask set as they stand, and changes nothing but
the response it begins and the silence timer it restarts (R159). -/
def Obligations.ReadEventsReportsBothSets : Prop :=
  ∀ (s : State) (p : Port), s.free p →
    exec (.readEvents p) s =
      .next (s.answered p 0x48 .ok
        (be 2 (s.port.get p).latches.toNat ++ be 2 (s.port.get p).masks.toNat))

/-- READ_TANKS, READ_DEMAND, READ_CLOCK, READ_NOTE and STATUS: the values each reports (R103, R110, R111,
R162, R166, R181, R184, R187). READ_OPEN and READ_CAPTURE: the line's record or ABSENT, and RANGE for a number that is
no line; every field of a record at its place in a fixed part of 94 bytes, then 10 bytes for each mix step and 8 for
each connection entry, and of a capture record in 16 (R132, R142, R182, R184, R185). -/
def Obligations.ReadsReportTheirValues : Prop :=
  ∀ (s : State) (p : Port), s.free p →
    exec (.readTanks p) s =
      .next (s.answered p 0x22 .ok (TankId.all.flatMap fun k =>
        let held : Bool := (s.tanks.get k).state == .stocked || (s.tanks.get k).state == .stale
        let birth := (s.tanks.get k).birth.getD 0
        be 1 (s.tanks.get k).state.code ++ be 1 ((s.tanks.get k).mix.getD 0) ++
        be 4 (s.tanks.get k).level ++ be 2 (s.tankTable.get k).capacity ++
        be 1 (s.tankTable.get k).ageLimit ++
        be 4 (if held then s.runSeconds - birth else 0) ++
        be 4 (if (s.tanks.get k).state = .stocked
          then birth + (s.tankTable.get k).ageLimit * 60 - s.runSeconds else 0))) ∧
    exec (.readDemand p) s =
      .next (s.answered p 0x23 .ok (be 1 s.demand.length ++ s.demand.flatMap fun e =>
        be 1 e.mix ++ be 2 e.created.time.day ++ be 3 e.created.time.second ++ be 1 e.created.unset.toNat ++
        be 1 e.waiting.length ++ (e.waiting.flatMap fun l => be 1 l.num) ++
        be 4 (e.waiting.map s.strokeVolume).sum)) ∧
    exec (.readClock p) s =
      .next (s.answered p 0x59 .ok
        (be 2 s.clock.day ++ be 3 s.clock.second ++ be 1 s.clock.isSet.toNat ++ be 4 s.runSeconds)) ∧
    exec (.readNote p) s =
      .next (s.answered p 0x4C .ok
        (match (s.port.get p).note with
          | some n => be 1 n.code ++ be 1 n.sender.num
          | none => [0, 0])) ∧
    exec (.status p) s =
      .next (s.answered p 0x40 .ok
        ((LineId.all.flatMap fun l =>
            be 1 (s.lineState l).code ++
            be 1 ((s.seq.get l).waitHold.toNat + 2 * (s.seq.get l).waitSupply.toNat) ++
            be 1 ((s.reg.get l).excursionStop.toNat + 2 * (s.seq.get l).holdsGrout.toNat) ++
            be 1 (faultCode (s.seq.get l).faultCause)) ++
          (TankId.all.flatMap fun k => be 1 (s.tanks.get k).state.code) ++
          be 1 s.clock.isSet.toNat ++
          (Port.all.flatMap fun q => be 1 ((s.port.get q).supervision.getD 0)))) ∧
    (∀ l,
      exec (.readOpen p l.num) s =
        .next (match s.openRec.get l with
          | some r => s.answered p 0x30 .ok r.bytes
          | none => s.answered p 0x30 .absent []) ∧
      exec (.readCapture p l.num) s =
        .next (match s.capture.get l with
          | some c => s.answered p 0x34 .ok c.bytes
          | none => s.answered p 0x34 .absent [])) ∧
    (∀ n, n = 0 ∨ 6 < n →
      exec (.readOpen p n) s = .next (s.answered p 0x30 .range []) ∧
      exec (.readCapture p n) s = .next (s.answered p 0x34 .range [])) ∧
    (∀ r : Record,
      let test : TestResult := r.test.getD ⟨0, 0, 0, 0, 0, 0, 0, false, false⟩
      let ended : Ending := r.ending.getD ⟨0, 0, 0, ⟨0, 0⟩, .refusal, none⟩
      r.bytes =
        be 2 (r.entry.getD 0) ++ be 2 r.seqNo ++ be 1 r.line.num ++ be 2 r.hole ++ be 1 r.stage ++
        be 1 r.order ++ be 2 r.top ++ be 2 r.bottom ++ be 2 r.pmaxRequested ++ be 2 r.pmaxApplied ++
        be 4 r.gin ++ be 2 r.vmax ++ be 1 r.rateCap ++
        be 1 (r.lowestCeiling.isSome.toNat + 2 * r.pf.isSome.toNat + 4 * r.test.isSome.toNat +
          8 * r.ending.isSome.toNat) ++
        be 1 (r.clamped.toNat + 2 * r.noGauge.toNat + 4 * r.clockUnset.toNat + 8 * test.cutShort.toNat +
          16 * test.lowPressure.toNat) ++
        be 2 (r.lowestCeiling.getD 0) ++ be 2 (r.pf.getD 0) ++
        be 2 test.target ++ be 2 test.duration ++ be 2 test.elapsed ++ be 2 test.samples ++ be 2 test.mean ++
        be 4 test.volume ++ be 2 test.tLu ++
        be 1 r.startMix ++
        be 1 (match r.startSource with
          | none => 0
          | some .explicit => 1
          | some .band => 2
          | some .clamped => 3) ++
        be 1 r.thickest ++ be 4 r.charge ++ be 4 r.injected ++ be 4 r.unplaced ++ be 2 r.peak ++
        be 2 r.excursions ++ be 2 ended.pn ++ be 2 ended.limit ++ be 1 ended.rate ++ be 2 r.holdEpisodes ++
        be 2 r.supplyEpisodes ++ be 4 r.heldSeconds ++ be 2 r.connCount ++ be 2 r.seatTime.day ++
        be 3 r.seatTime.second ++ be 2 ended.time.day ++ be 3 ended.time.second ++
        be 1 (match (r.ending.map fun x => x.reason : Option EndReason) with
          | none => 0
          | some .refusal => 1
          | some .volumeLimit => 2
          | some .operator => 3
          | some .withdrawn => 4
          | some .abort => 5
          | some .staticTimeout => 6
          | some .fault => 7
          | some .reset => 8) ++
        be 1 (match ended.origin with
          | none => 0
          | some .gallery => 1
          | some .monitor => 2
          | some .plant => 3) ++
        be 1 r.steps.length ++ be 1 r.connections.length ++
        (r.steps.flatMap fun m => be 1 m.code ++ be 4 m.volume ++ be 2 m.entered.day ++ be 3 m.entered.second) ++
        (r.connections.flatMap fun c =>
          [c.suspects.toByte] ++ be 2 c.rise ++ be 2 c.time.day ++ be 3 c.time.second) ∧
      r.bytes.length = 94 + 10 * r.steps.length + 8 * r.connections.length) ∧
    ∀ c : Capture,
      c.bytes =
        be 1 c.line.num ++ be 2 c.seqNo ++ be 2 c.time.time.day ++ be 3 c.time.time.second ++
        be 1 c.time.unset.toNat ++ be 2 c.baseline ++ be 2 c.pressure ++ be 2 c.rise ++ [c.suspects.toByte] ∧
      c.bytes.length = 16

/-- READ_LOG finds exactly the records the log holds; entry 0 reads the port's mark (R146). -/
def Obligations.ReadLogFindsHeldRecords : Prop :=
  ∀ (s : State) (p : Port), s.free p → s.LogInv →
    (∀ r ∈ s.log, exec (.readLog p r.number) s = .next (s.answered p 0x31 .ok r.bytes)) ∧
    (∀ n, n ≠ 0 → n ∉ s.numbers → exec (.readLog p n) s = .next (s.answered p 0x31 .absent [])) ∧
    (∀ r ∈ s.log, r.number = (s.port.get p).mark →
      exec (.readLog p 0) s = .next (s.answered p 0x31 .ok r.bytes)) ∧
    ((s.port.get p).mark = s.nextEntry →
      exec (.readLog p 0) s = .next (s.answered p 0x31 .absent []))

/-- LOG_RANGE: the count, oldest, newest and next number, the port's mark, the records from the mark through
the newest, and the missed count (R147). -/
def Obligations.LogRangeCountsFromTheMark : Prop :=
  ∀ (s : State) (p : Port), s.free p → s.LogInv →
    exec (.logRange p) s =
      .next (s.answered p 0x32 .ok
        (be 1 s.log.length ++ be 2 (s.numbers.head?.getD 0) ++ be 2 (s.numbers.getLast?.getD 0) ++
          be 2 s.nextEntry ++ be 2 (s.port.get p).mark ++
          be 1 (if (s.port.get p).mark = s.nextEntry then 0
            else s.log.length - s.numbers.idxOf (s.port.get p).mark) ++
          be 2 (s.port.get p).missed))

/-- MARK_READ: a held entry moves the mark past it, 65535 followed by 1, and clears the missed count; an
entry that is not held is answered ABSENT (R145). -/
def Obligations.MarkReadMovesTheMark : Prop :=
  ∀ (s : State) (p : Port) (n : Nat), s.free p → s.LogInv →
    (n ∈ s.numbers →
      let m := if n = 65535 then 1 else n + 1
      exec (.markRead p n) s =
        .next ((s.answered p 0x33 .ok (be 2 m)).updPort p fun q => { q with mark := m, missed := 0 }) ∧
      (s.numbers.getLast? = some n → m = s.nextEntry)) ∧
    (n ∉ s.numbers → exec (.markRead p n) s = .next (s.answered p 0x33 .absent []))

/-- SNAPSHOT copies every value as it stands into the port's own buffer and answers its header. READ_SNAPSHOT
is RANGE above part 2, ABSENT for an empty buffer, else the part, every field of its header and tank entries at
its place in 10 bytes and of its line entries in 20 (R163, R164, R182, R186). -/
def Obligations.SnapshotsAreOneInstant : Prop :=
  ∀ (s : State) (p : Port), s.free p →
    (∃ x : Snapshot,
      exec (.snapshot p) s =
        .next ((s.answered p 0x41 .ok
          (be 2 s.clock.day ++ be 3 s.clock.second ++ be 1 s.clock.isSet.toNat ++ be 4 s.runSeconds)).updPort p
            fun q => { q with snapshot := some x }) ∧
      x.header = ⟨⟨s.clock.day, s.clock.second⟩, s.clock.isSet, s.runSeconds⟩ ∧
      (∀ k, x.tanks.get k =
        ⟨(s.tanks.get k).state, (s.tanks.get k).mix, (s.tanks.get k).level,
          if (s.tanks.get k).state = .stocked ∨ (s.tanks.get k).state = .stale
          then some (s.runSeconds - (s.tanks.get k).birth.getD 0) else none⟩) ∧
      ∀ l, x.lines.get l =
        { state := s.lineState l
          waitHold := (s.seq.get l).waitHold
          waitSupply := (s.seq.get l).waitSupply
          rate := (s.drive.get l).rate
          gauge := (s.reg.get l).gauge
          pe := (s.reg.get l).pe
          pn := (s.reg.get l).pn
          plim := (s.reg.get l).plim
          v := (s.reg.get l).v
          mix := (s.seq.get l).currentMix
          tank := s.currentTank.get l
          injected := (s.openRec.get l).map (·.injected) }) ∧
    (∀ n, 2 < n → exec (.readSnapshot p n) s = .next (s.answered p 0x42 .range [])) ∧
    ((s.port.get p).snapshot = none →
      ∀ n, n ≤ 2 → exec (.readSnapshot p n) s = .next (s.answered p 0x42 .absent [])) ∧
    ∀ x ∈ (s.port.get p).snapshot,
      exec (.readSnapshot p 0) s =
        .next (s.answered p 0x42 .ok
          (x.header.bytes ++ (x.tanks.t1.bytes ++ x.tanks.t2.bytes ++ x.tanks.t3.bytes))) ∧
      exec (.readSnapshot p 1) s =
        .next (s.answered p 0x42 .ok (x.lines.l1.bytes ++ x.lines.l2.bytes ++ x.lines.l3.bytes)) ∧
      exec (.readSnapshot p 2) s =
        .next (s.answered p 0x42 .ok (x.lines.l4.bytes ++ x.lines.l5.bytes ++ x.lines.l6.bytes)) ∧
      x.header.bytes =
        be 2 x.header.time.day ++ be 3 x.header.time.second ++ be 1 x.header.isSet.toNat ++
        be 4 x.header.runSeconds ∧
      (∀ e : SnapTank,
        e.bytes = be 1 e.state.code ++ be 1 (e.mix.getD 0) ++ be 4 e.level ++ be 4 (e.age.getD 0) ∧
        e.bytes.length = 10) ∧
      ∀ e : SnapLine,
        e.bytes =
          be 1 e.state.code ++ be 1 (e.waitHold.toNat + 2 * e.waitSupply.toNat) ++ be 1 e.rate ++
          be 1 (e.gauge.isSome.toNat + 2 * e.pe.isSome.toNat + 4 * e.pn.isSome.toNat + 8 * e.plim.isSome.toNat +
            16 * e.v.isSome.toNat + 32 * e.injected.isSome.toNat +
            64 * ((e.gauge.map (·.saturated)).getD false).toNat) ++
          be 2 ((e.gauge.map (·.pg)).getD 0) ++ be 2 (e.pe.getD 0) ++ be 2 (e.pn.getD 0) ++
          be 2 (e.plim.getD 0) ++ be 2 (e.v.getD 0) ++ be 1 (e.mix.getD 0) ++
          be 1 ((e.tank.map TankId.num).getD 0) ++ be 4 (e.injected.getD 0) ∧
        e.bytes.length = 20

/-- READ_SETTINGS returns each table in the layout its write request carries, and RANGE for a table number
or index that names none (R178, R184). That the two neighbour bytes of a line come back in the places in which
they were written is the model's choice (log 17). -/
def Obligations.SettingsReadBackAsWritten : Prop :=
  ∀ (s : State) (p : Port), s.free p →
    (∀ l,
      let e := s.lineTable.get l
      exec (.readSettings p 1 l.num) s =
        .next (s.answered p 0x56 .ok
          (be 1 l.num ++ lineWritePayload
            ⟨e.enabled.toNat, e.displacement, e.efficiency, e.tmin, e.k, e.lineVolume, e.fullScale,
              (e.neighbour1.map LineId.num).getD 0, (e.neighbour2.map LineId.num).getD 0⟩))) ∧
    exec (.readSettings p 2 0) s =
      .next (s.answered p 0x56 .ok ((List.range' 1 8).zip s.mixTable.toList |>.flatMap fun x =>
        be 1 x.1 ++ mixWritePayload
          ⟨x.2.enabled.toNat, (x.2.fields.map (·.ratio)).getD 0, (x.2.fields.map (·.gradient)).getD 0,
            (x.2.fields.map (·.step)).getD 0⟩)) ∧
    exec (.readSettings p 3 0) s = .next (s.answered p 0x56 .ok (bandsPayload s.bands)) ∧
    exec (.readSettings p 4 0) s = .next (s.answered p 0x56 .ok (timingPayload s.timing)) ∧
    exec (.readSettings p 5 0) s =
      .next (s.answered p 0x56 .ok
        (envelopePayload s.envelope ++ LineId.all.flatMap fun l => be 2 (s.ceiling.get l))) ∧
    exec (.readSettings p 6 0) s =
      .next (s.answered p 0x56 .ok (TankId.all.flatMap fun k =>
        be 1 k.num ++ be 2 (s.tankTable.get k).capacity ++ be 1 (s.tankTable.get k).ageLimit)) ∧
    ∀ table index,
      (table = 0 ∨ 6 < table ∨ table = 1 ∧ (index = 0 ∨ 6 < index) ∨ 2 ≤ table ∧ index ≠ 0) →
      exec (.readSettings p table index) s = .next (s.answered p 0x56 .range [])

/-! ### Events, notes, supervision -/

/-- CLEAR_EVENTS clears the named latches of its own port, for every set, and answers what is left. SET_MASK
replaces the mask set of its own port, for every set, changes no latch and answers both sets. After either the
attention line is asserted exactly while an unmasked event is latched (R158, R160, R161). NOTE: 0 is RANGE; a
code of 1 to 255 reaches the slots of the other two ports with its sender, and PEER_NOTE is latched on those two;
the sender's slot and latches stay (R165). -/
def Obligations.EventsMasksAndNotes : Prop :=
  ∀ (s : State) (p : Port), s.free p →
    (∀ events : EventSet, Answers (exec (.clearEvents p events) s) fun t =>
      t = (s.answered p 0x49 .ok (be 2 ((s.port.get p).latches &&& ~~~events).toNat)).updPort p
        (fun q => { q with latches := (s.port.get p).latches &&& ~~~events }) ∧
      (∀ e : Event, (t.port.get p).latched e =
        ((s.port.get p).latched e && !(events &&& e.bit == e.bit))) ∧
      ((t.port.get p).attention = true ↔
        ∃ e : Event, (t.port.get p).latched e = true ∧ (t.port.get p).masks &&& e.bit = 0)) ∧
    (∀ events : EventSet, Answers (exec (.setMask p events) s) fun t =>
      t = (s.answered p 0x4A .ok (be 2 events.toNat ++ be 2 (s.port.get p).latches.toNat)).updPort p
        (fun q => { q with masks := events }) ∧
      ((t.port.get p).attention = true ↔
        ∃ e : Event, (s.port.get p).latched e = true ∧ events &&& e.bit = 0)) ∧
    exec (.note p 0) s = .next (s.answered p 0x4B .range []) ∧
    ∀ code, 1 ≤ code → code ≤ 255 →
      Answers (exec (.note p code) s) fun t =>
        t = { s.answered p 0x4B .ok [] with port := t.port } ∧
        t.port.get p = (s.answered p 0x4B .ok []).port.get p ∧
        ∀ q, q ≠ p → t.port.get q =
          { s.port.get q with
            note := some ⟨code, p⟩, latches := (s.port.get q).latches ||| Event.peerNote.bit }

/-- PORT_RESET acts on its own port alone: latches cleared, masks set, buffer and slot emptied, the mark on
the oldest record, the missed count 0, supervision off. SUPERVISE: above 60 s RANGE, 0 off, 1 to 60 armed with
the timer from 0; it changes nothing else (R123, R126, R150, R167). -/
def Obligations.PortResetAndSupervise : Prop :=
  ∀ (s : State) (p : Port) (interval : Nat), s.free p →
    (Answers (exec (.portReset p) s) fun t =>
      t = { s with port := t.port } ∧ (∀ q, q ≠ p → t.port.get q = s.port.get q) ∧
      t.port.get p =
        { (s.answered p 0x5C .ok []).port.get p with
          latches := 0
          masks := 0xFFFF
          snapshot := none
          note := none
          mark := s.numbers.head?.getD s.nextEntry
          missed := 0
          supervision := none
          silence := none } ∧
      (t.port.get p).attention = false) ∧
    (60 < interval → exec (.supervise p interval) s = .next (s.answered p 0x14 .range [])) ∧
    (interval = 0 →
      exec (.supervise p interval) s =
        .next ((s.answered p 0x14 .ok []).updPort p fun q => { q with supervision := none, silence := none })) ∧
    (1 ≤ interval → interval ≤ 60 →
      exec (.supervise p interval) s =
        .next ((s.answered p 0x14 .ok []).updPort p fun q =>
          { q with supervision := some interval, silence := some 0 }))

/-! ### Settings and clock -/

/-- WRITE_BANDS, WRITE_TIMING, WRITE_ENVELOPE and SET_CEILING: in range the table becomes what the request
carries and nothing else changes, else RANGE (R127, R174 to R176). -/
def Obligations.TableWritesReplaceTheTable : Prop :=
  ∀ (s : State),
    (∀ q : BandTable, s.free .gallery →
      exec (.writeBands .gallery q) s =
        .next (if q.b1 ≤ 9999 ∧ q.b2 ≤ 9999 ∧ q.b3 ≤ 9999 ∧ q.b1 < q.b2 ∧ q.b2 < q.b3 ∧
            (∀ m ∈ [q.m1, q.m2, q.m3, q.m4, q.m0], s.mixEnabled m = true)
          then { s.answered .gallery 0x52 .ok [] with bands := q }
          else s.answered .gallery 0x52 .range [])) ∧
    (∀ q : TimingTable, s.free .gallery →
      exec (.writeTiming .gallery q) s =
        .next (if 5 ≤ q.packerSettle ∧ q.packerSettle ≤ 600 ∧ 1 ≤ q.chargeStep ∧ q.chargeStep ≤ 15 ∧
            1 ≤ q.flushStep ∧ q.flushStep ≤ 15 ∧ 1 ≤ q.flushFactor ∧ q.flushFactor ≤ 4 ∧
            30 ≤ q.staticTime ∧ q.staticTime ≤ 600 ∧ 1 ≤ q.circStrokes ∧ q.circStrokes ≤ 40 ∧
            60 ≤ q.refusalDwell ∧ q.refusalDwell ≤ 1800 ∧ 1 ≤ q.refusalStep ∧ q.refusalStep ≤ 15
          then { s.answered .gallery 0x53 .ok [] with timing := q }
          else s.answered .gallery 0x53 .range [])) ∧
    (∀ q : EnvelopeTable, s.free .monitor →
      exec (.writeEnvelope .monitor q) s =
        .next (if 1000 ≤ q.beta ∧ q.beta ≤ 12000 ∧ 1 ≤ q.tolerance ∧ q.tolerance ≤ 20 ∧ 1 ≤ q.band ∧
            q.band ≤ 30 ∧ 20 ≤ q.rise ∧ q.rise ≤ 2000 ∧ 300 ≤ q.standingLimit ∧ q.standingLimit ≤ 7200
          then { s.answered .monitor 0x54 .ok [] with envelope := q }
          else s.answered .monitor 0x54 .range [])) ∧
    (∀ l ceiling, s.free .monitor →
      exec (.setCeiling .monitor l.num ceiling) s =
        .next (if ceiling = 0 ∨ 100 ≤ ceiling ∧ ceiling ≤ 9000
          then { s.answered .monitor 0x13 .ok [] with ceiling := s.ceiling.set l ceiling }
          else s.answered .monitor 0x13 .range [])) ∧
    ∀ n ceiling, s.free .monitor → n = 0 ∨ 6 < n →
      exec (.setCeiling .monitor n ceiling) s = .next (s.answered .monitor 0x13 .range [])

/-- WRITE_MIX: a code that is none is RANGE, a line that is neither OFF nor IDLE makes it NOT_QUIET, a field
out of range RANGE, else the entry is written whole. WRITE_LINE: a number that is no line RANGE; a line neither
OFF nor IDLE NOT_QUIET; a field out of range RANGE; else the entry is written, and the line follows its enabled
setting between OFF and IDLE, its regulator starting or stopping its samples (R4, R46, R171, R173). -/
def Obligations.MixAndLineWrites : Prop :=
  ∀ (s : State) (l : LineId) (q : LineWrite) (code : Nat) (m : MixWrite), s.free .gallery →
    (exec (.writeMix .gallery code m) s =
      .next (if code = 0 ∨ 8 < code then s.answered .gallery 0x51 .range []
        else if ∃ l ∈ LineId.all, s.lineState l ≠ .off ∧ s.lineState l ≠ .idle
          then s.answered .gallery 0x51 .notQuiet []
        else if m.enabled ≤ 1 ∧ 50 ≤ m.ratio ∧ m.ratio ≤ 1000 ∧ 1000 ≤ m.gradient ∧ m.gradient ≤ 2200 ∧
            m.step ≤ 5000
          then { s.answered .gallery 0x51 .ok [] with
            mixTable := s.mixTable.set code ⟨m.enabled == 1, some ⟨m.ratio, m.gradient, m.step⟩⟩ }
        else s.answered .gallery 0x51 .range [])) ∧
    (s.lineState l ≠ .off → s.lineState l ≠ .idle →
      exec (.writeLine .gallery l.num q) s = .next (s.answered .gallery 0x50 .notQuiet [])) ∧
    (∀ n, n = 0 ∨ 6 < n → exec (.writeLine .gallery n q) s = .next (s.answered .gallery 0x50 .range [])) ∧
    (s.lineState l = .off ∨ s.lineState l = .idle →
      if q.enabled ≤ 1 ∧ (q.displacement = 0 ∧ q.enabled = 0 ∨ 100 ≤ q.displacement ∧ q.displacement ≤ 5000) ∧
          70 ≤ q.efficiency ∧ q.efficiency ≤ 100 ∧ 300 ≤ q.tmin ∧ q.tmin ≤ 3000 ∧ q.k ≤ 500 ∧
          1000 ≤ q.lineVolume ∧ q.lineVolume ≤ 200000 ∧ 1000 ≤ q.fullScale ∧ q.fullScale ≤ 10000 ∧
          q.neighbour1 ≤ 6 ∧ q.neighbour1 ≠ l.num ∧ q.neighbour2 ≤ 6 ∧ q.neighbour2 ≠ l.num ∧
          (q.neighbour1 = 0 ∨ q.neighbour1 ≠ q.neighbour2) then
        Answers (exec (.writeLine .gallery l.num q) s) fun t =>
          t = { s.answered .gallery 0x50 .ok [] with lineTable := t.lineTable, seq := t.seq, reg := t.reg } ∧
          (∀ k, k ≠ l → SameLine k s t ∧ t.lineTable.get k = s.lineTable.get k) ∧
          t.lineTable.get l =
            ⟨q.enabled == 1, q.displacement, q.efficiency, q.tmin, q.k, q.lineVolume, q.fullScale,
              LineId.ofNat? q.neighbour1, LineId.ofNat? q.neighbour2⟩ ∧
          (if s.lineState l = .off ∧ q.enabled = 1 then
            t.seq.get l =
              { s.seq.get l with
                state := .idle, packerInflated := false, returnOpen := true, source := .water } ∧
            t.reg.get l = { s.reg.get l with sampleTimer := .running 0 500 }
          else if s.lineState l = .idle ∧ q.enabled = 0 then
            t.seq.get l =
              { s.seq.get l with
                state := .off, packerInflated := false, returnOpen := true, source := .water } ∧
            t.reg.get l =
              { s.reg.get l with sampleTimer := .stopped, lastReading := .none, gauge := none, invalidCount := 0 }
          else t.seq.get l = s.seq.get l ∧ t.reg.get l = s.reg.get l)
      else exec (.writeLine .gallery l.num q) s = .next (s.answered .gallery 0x50 .range []))

/-- SET_CLOCK and the two advances: the clock takes the values given, its phase starts again, its flag is set
and CLOCK_SET latched; an advance rolls over at 86399 s and at day 32767 and keeps the flag; the run seconds
stay at 4294967295 (R180, R181). -/
def Obligations.ClockIsSetAndAdvances : Prop :=
  ∀ (s : State),
    (∀ p day second, s.free p → p ≠ .plant →
      if day ≤ 32767 ∧ second ≤ 86399 then
        Answers (exec (.setClock p day second) s) fun t =>
          t = { s with clock := ⟨day, second, true⟩, clockPhase := 0, port := t.port } ∧
          AnsweredWith s t p 0x58 .ok [] Event.clockSet.bit
      else exec (.setClock p day second) s = .next (s.answered p 0x58 .range [])) ∧
    (s.NotOvertaken .clockAdvance → s.clock.second < 86399 →
      exec .clockAdvance s =
        .next { s with clock := { s.clock with second := s.clock.second + 1 }, clockPhase := 0 }) ∧
    (s.NotOvertaken .clockAdvance → s.clock.second = 86399 → s.clock.day ≤ 32767 →
      exec .clockAdvance s =
        .next { s with
          clock := { s.clock with second := 0, day := if s.clock.day = 32767 then 0 else s.clock.day + 1 }
          clockPhase := 0 }) ∧
    (s.NotOvertaken .runSecondsAdvance → s.runSeconds < 4294967295 →
      exec .runSecondsAdvance s = .next { s with runSeconds := s.runSeconds + 1, runPhase := 0 }) ∧
    (s.NotOvertaken .runSecondsAdvance → s.runSeconds = 4294967295 →
      exec .runSecondsAdvance s = .next { s with runPhase := 0 })

/-! ### The hold map -/

/-- HOLD: an empty set or one that names no line is RANGE; else the set is merged into the port's own entry,
created with the time now or grown with its time kept, HOLD_CHANGE is latched if the entry changed, and the
answer carries the map. A line whose coverage does not change stays as it is (R115 to R117, R120). -/
def Obligations.HoldMergesIntoItsEntry : Prop :=
  ∀ (s : State) (p : Port) (b : Byte), s.free p →
    ((b.toNat = 0 ∨ 64 ≤ b.toNat) → exec (.hold p b) s = .next (s.answered p 0x10 .range [])) ∧
    (1 ≤ b.toNat → b.toNat ≤ 63 →
      Answers (exec (.hold p b) s) fun t =>
        let key := requestKey p
        let entry : HoldEntry :=
          match s.holds.get key with
          | none => ⟨.ofByte b, s.stamp⟩
          | some e => ⟨⟨e.lines.l1 || b.getLsbD 0, e.lines.l2 || b.getLsbD 1, e.lines.l3 || b.getLsbD 2,
              e.lines.l4 || b.getLsbD 3, e.lines.l5 || b.getLsbD 4, e.lines.l6 || b.getLsbD 5⟩, e.placed⟩
        t.holds.get key = some entry ∧ (∀ k, k ≠ key → t.holds.get k = s.holds.get k) ∧
        (t.port.get p).response = some ⟨0x10, .ok, t.holds.bytes⟩ ∧
        (s.holds.get key ≠ some entry → AllLatched t Event.holdChange.bit) ∧
        (s.holds.get key = some entry → t = s.answered p 0x10 .ok s.holds.bytes) ∧
        (∀ l, t.covered l = (s.covered l || (LineSet.ofByte b).get l)) ∧
        (∀ l, t.covered l = s.covered l → SameLine l s t) ∧
        SameSettings s t ∧ SameClock s t ∧ SameSupply s t ∧ SameLog s t)

/-- On becoming covered by a HOLD a line acts by its state: in CHARGING or INJECTING it enters HELD with HOLD,
its piston paused mid-stroke, its refusal timer cancelled and its watch armed; in HELD it gains HOLD; in
TESTING its test is cancelled without result; in any other state it stays as it is (R21, R36, R39, R64, R129). That
the test duration goes with the test is the model's choice (log 26). -/
def Obligations.HoldActsByTheLineState : Prop :=
  ∀ (s : State) (p : Port) (b : Byte) (l : LineId), s.free p → b.toNat ≤ 63 →
    (LineSet.ofByte b).get l = true → s.covered l = false → s.LineInv l →
    Answers (exec (.hold p b) s) fun t =>
      let q := s.seq.get l
      let d := s.drive.get l
      let g := s.reg.get l
      let paused : Drive :=
        { d with
          rate := 0
          pendingRate := 0
          stroke := d.stroke.map fun k => { k with running := false }
          staticTimer := s.staticAfresh q.holdsGrout }
      let counted := (s.openRec.get l).map fun r => { r with holdEpisodes := min 65535 (r.holdEpisodes + 1) }
      (q.state = .charging →
        t.seq.get l = { q.heldAs s .charging with waitHold := true } ∧ t.drive.get l = paused ∧
        t.reg.get l = g.standing ∧ t.openRec.get l = counted) ∧
      (q.state = .injecting →
        t.seq.get l = { q.heldAs s .injecting with waitHold := true } ∧ t.drive.get l = paused ∧
        t.reg.get l = g.standing ∧ t.openRec.get l = counted) ∧
      (q.state = .held →
        t.seq.get l = { q with waitHold := true, resumeAfterBurst := false } ∧
        t.drive.get l = d ∧ t.reg.get l = g ∧ t.openRec.get l = counted) ∧
      (q.state = .testing →
        t.seq.get l =
          { q with state := .seated, settled := true, testTimer := none, testDuration := none,
                   slot := if q.slot = some .charge then none else q.slot } ∧
        t.drive.get l = restDrive ∧
        t.reg.get l = { g.clearTest with watchArmed := true, baseline := none, excursionStop := false } ∧
        t.openRec.get l = s.openRec.get l ∧
        (q.slot = some .charge → AllLatched t Event.pendingDropped.bit)) ∧
      (q.state ≠ .charging → q.state ≠ .injecting → q.state ≠ .held → q.state ≠ .testing → SameLine l s t)

/-- RELEASE_HOLD and RELEASE_CONNECTION: RANGE, RIGHTS and ABSENT in the order of the checks; else the given
lines leave the named entry, an entry left empty goes, HOLD_CHANGE is latched if a line was removed, and the
answer carries the map (R116, R118 to R120). -/
def Obligations.ReleaseRemovesTheLines : Prop :=
  ∀ (s : State) (p : Port) (reason : Nat) (b : Byte), s.free p →
    let own : Option HoldKey :=
      if reason = 4 then some (silenceKey p)
      else if reason = p.num then some (requestKey p) else none
    let left : Option HoldEntry → Option HoldEntry := fun e => e.bind fun e =>
      let rest := e.lines.diff (.ofByte b)
      if rest.isEmpty then none else some { e with lines := rest }
    let released : HoldKey → Nat → State → Prop := fun key code t =>
      t.holds.get key = left (s.holds.get key) ∧ (∀ k, k ≠ key → t.holds.get k = s.holds.get k) ∧
      (t.port.get p).response = some ⟨code, .ok, t.holds.bytes⟩ ∧
      (left (s.holds.get key) ≠ s.holds.get key → AllLatched t Event.holdChange.bit) ∧
      (left (s.holds.get key) = s.holds.get key → t = s.answered p code .ok s.holds.bytes) ∧
      (∀ l, t.covered l = s.covered l → t.lineState l = s.lineState l) ∧
      SameSettings s t ∧ SameClock s t
    (reason = 0 ∨ 5 < reason ∨ 64 ≤ b.toNat →
      exec (.releaseHold p reason b) s = .next (s.answered p 0x11 .range [])) ∧
    (1 ≤ reason → reason ≤ 5 → b.toNat ≤ 63 →
      (own = none → exec (.releaseHold p reason b) s = .next (s.answered p 0x11 .rights [])) ∧
      ∀ key ∈ own,
        (s.holds.get key = none →
          exec (.releaseHold p reason b) s = .next (s.answered p 0x11 .absent s.holds.bytes)) ∧
        (s.holds.get key ≠ none → (∀ k e, s.holds.get k = some e → e.lines.isEmpty = false) →
          Answers (exec (.releaseHold p reason b) s) (released key 0x11))) ∧
    (p = .gallery →
      (64 ≤ b.toNat → exec (.releaseConnection p b) s = .next (s.answered p 0x12 .range [])) ∧
      (b.toNat ≤ 63 → s.holds.watch = none →
        exec (.releaseConnection p b) s = .next (s.answered p 0x12 .absent s.holds.bytes)) ∧
      (b.toNat ≤ 63 → s.holds.watch ≠ none → (∀ k e, s.holds.get k = some e → e.lines.isEmpty = false) →
        Answers (exec (.releaseConnection p b) s) (released .watch 0x12)))

/-- A release, by RELEASE_HOLD or RELEASE_CONNECTION, that uncovers a line in HELD (R23). A line that still waits
for supply stays in HELD and loses HOLD alone. A line with a burst running stays in HELD with the
resume-after-burst flag. Else it goes back to its resume state, the stay added to its record, its standing and
static timers stopped, its excursion stop cleared, its watch disarmed: a paused stroke runs on at the resume rate
(unless its watch has run out at that rate, log 9); without one, a line released alone starts a stroke from the
tank selected, or waits for supply anew (R22, R33, R36, R38, R101, R106, R118, R119, R129). -/
def Obligations.ReleaseResumesTheLine : Prop :=
  ∀ (s : State) (p : Port) (i : Instr) (reason : Nat) (b : Byte) (key : HoldKey) (l : LineId), s.free p →
    b.toNat ≤ 63 →
    (i = .releaseHold p reason b ∧ 1 ≤ reason ∧ reason ≤ 5 ∧ releaseKey p reason = some key ∨
      i = .releaseConnection p b ∧ p = .gallery ∧ key = .watch) →
    ∀ e ∈ s.holds.get key, e.lines.get l = true → (LineSet.ofByte b).get l = true →
    (∀ k, k ≠ key → ∀ f ∈ s.holds.get k, f.lines.get l = false) →
    s.LineInv l → s.lineState l = .held → ∀ r ∈ (s.seq.get l).resume,
    Answers (exec i s) fun t =>
      let q := s.seq.get l
      let d := s.drive.get l
      let g := s.reg.get l
      let rate := s.rateOf r
      let period := (s.lineTable.get l).tmin * 15 / rate
      (q.waitSupply = true →
        t.seq.get l = { q with waitHold := false } ∧ t.drive.get l = d ∧ t.reg.get l = g ∧
        t.openRec.get l = s.openRec.get l) ∧
      (q.waitSupply = false → d.burst ≠ none →
        t.seq.get l = { q with waitHold := false, resumeAfterBurst := true } ∧ t.drive.get l = d ∧
        t.reg.get l = g ∧ t.openRec.get l = s.openRec.get l) ∧
      (q.waitSupply = false → d.burst = none → 0 < rate → ∀ k ∈ d.stroke, ∀ w ∈ d.watch, w < 3 * period →
        t.seq.get l = q.outOfHeld r ∧ t.reg.get l = g.outOfHeld ∧ t.openRec.get l = s.stayAdded l ∧
        t.drive.get l =
          { d with
            rate := rate
            pendingRate := rate
            stroke := some { k with running := true, period := period }
            staticTimer := .stopped }) ∧
      (q.waitSupply = false → d.burst = none → 0 < rate → d.stroke = none →
        (∀ k, k ≠ l → (LineSet.ofByte b).get k = false) → ∀ mix ∈ q.currentMix,
        (∀ k ∈ s.selectTank l mix (s.strokeVolume l),
          GroutStarts s t l r k rate (q.outOfHeld r) .stopped g.outOfHeld (s.stayAdded l)) ∧
        (s.selectTank l mix (s.strokeVolume l) = none →
          SupplyWaits s t l r mix (q.outOfHeld r) d g.outOfHeld (s.stayAdded l)))

/-- A silence timer that expires turns its port's supervision off, puts all six lines into its silence entry,
latches SILENCE, and HOLD_CHANGE if the entry changed; every line is then covered and none tests, charges or
injects. A valid request of the port, taken in the millisecond in which its timer has reached the interval, restarts
it, and the expiry that comes behind does not take place (R21, R124, R125; log 24). A port without supervision has
no expiry, and the command changes nothing (log 5). -/
def Obligations.SilenceLapseHoldsEveryLine : Prop :=
  ∀ (s : State) (p : Port),
    (s.LinesInv → (s.port.get p).supervision.isSome = true → (s.port.get p).silence.isSome = true →
      s.NotOvertaken (.silenceTimerExpiry p) →
      Answers (exec (.silenceTimerExpiry p) s) fun t =>
        let placed := ((s.holds.get (silenceKey p)).map (·.placed)).getD s.stamp
        (t.port.get p).supervision = none ∧ (t.port.get p).silence = none ∧
        t.holds.get (silenceKey p) = some ⟨.full, placed⟩ ∧
        (∀ k, k ≠ silenceKey p → t.holds.get k = s.holds.get k) ∧
        AllLatched t Event.silence.bit ∧
        (s.holds.get (silenceKey p) ≠ some ⟨.full, placed⟩ → AllLatched t Event.holdChange.bit) ∧
        (∀ l, t.covered l = true ∧ t.lineState l ≠ .testing ∧ t.lineState l ≠ .charging ∧
          t.lineState l ≠ .injecting) ∧
        SameSettings s t ∧ SameClock s t ∧ SameSupply s t ∧ SameLog s t) ∧
    ((s.port.get p).supervision = none → exec (.silenceTimerExpiry p) s = .next s) ∧
    (∀ i code payload, IsRequest i p code payload → s.free p → .silenceTimerExpiry p ∈ s.cameDue →
      Answers (exec i s) fun u =>
        ((u.port.get p).supervision.isSome = true → (u.port.get p).silence = some 0) ∧
        ((u.port.get p).supervision ≠ some 0 → exec (.silenceTimerExpiry p) u = .next u))

/-! ### Line requests -/

/-- SEAT, TEST, CHARGE and INJECT are checked in the order of R6: RANGE for a number that is no line, BUSY by
the table of R5 or for an occupied slot, HELD for a covered line, RANGE for a parameter, CONFLICT for a stage
another line names. FINISH, ABORT, CLEAR_FAULT and CIRCULATE are RANGE and BUSY likewise, and CLEAR_FAULT is
CONFLICT while the sensor's last sample was invalid. A request so answered has no other effect (R5, R6, R8,
R15 to R17, R27). -/
def Obligations.LineRequestsAreChecked : Prop :=
  ∀ (s : State) (l : LineId) (req : PendingReq), s.free .gallery →
    let answer : Status → Result := fun st => .next (s.answered .gallery (reqCode req) st [])
    (∀ n, n = 0 ∨ 6 < n →
      exec (reqCommand .gallery n req) s = answer .range ∧
      exec (.finish .gallery n) s = .next (s.answered .gallery 0x05 .range []) ∧
      exec (.abort .gallery n) s = .next (s.answered .gallery 0x06 .range []) ∧
      exec (.clearFault .gallery n) s = .next (s.answered .gallery 0x07 .range []) ∧
      exec (.circulate .gallery n) s = .next (s.answered .gallery 0x08 .range [])) ∧
    (¬s.accepts l req → exec (reqCommand .gallery l.num req) s = answer .busy) ∧
    (s.accepts l req → s.heldBack l req → exec (reqCommand .gallery l.num req) s = answer .held) ∧
    (s.accepts l req → ¬s.heldBack l req → ¬ReqInRange s req →
      exec (reqCommand .gallery l.num req) s = answer .range) ∧
    (s.accepts l req → ¬s.heldBack l req → ReqInRange s req → ReqConflict s l req →
      exec (reqCommand .gallery l.num req) s = answer .conflict) ∧
    (s.lineState l = .off ∨ s.lineState l = .idle ∨ s.lineState l = .flushing ∨ s.lineState l = .fault →
      exec (.finish .gallery l.num) s = .next (s.answered .gallery 0x05 .busy []) ∧
      exec (.abort .gallery l.num) s = .next (s.answered .gallery 0x06 .busy [])) ∧
    (s.lineState l ≠ .fault →
      exec (.clearFault .gallery l.num) s = .next (s.answered .gallery 0x07 .busy [])) ∧
    (s.lineState l = .fault → (s.seq.get l).faultCause = some .sensor →
      (s.reg.get l).lastReading = .invalid →
      exec (.clearFault .gallery l.num) s = .next (s.answered .gallery 0x07 .conflict [])) ∧
    ((s.drive.get l).burst ≠ none ∨ s.lineState l ≠ .ready ∧
        (s.lineState l ≠ .held ∨ (s.seq.get l).holdsGrout = false) →
      exec (.circulate .gallery l.num) s = .next (s.answered .gallery 0x08 .busy []))

/-- A request the line defers waits in the slot with its parameters and is answered DEFERRED, and nothing else
of the line changes. It runs at its run point exactly as if it had arrived when that point's own work was done: a
TEST or CHARGE at packer settle expiry, a CHARGE at the end of a test, an INJECT at charge completion, a SEAT at
flush completion. On a covered line it is dropped with PENDING_DROPPED, but for a SEAT (R6, R13, R18 to R20,
R25). -/
def Obligations.DeferredRequestsWaitAndRun : Prop :=
  ∀ (s : State) (l : LineId) (req : PendingReq), s.free .gallery → ReqInRange s req →
    (s.defers l req → (s.seq.get l).slot = none → ¬s.heldBack l req → ¬ReqConflict s l req →
      exec (reqCommand .gallery l.num req) s =
        .next ((s.updSeq l fun q => { q with slot := some req }).answered .gallery (reqCode req) .deferred [])) ∧
    ((s.seq.get l).slot = some req →
      let emptied := s.updSeq l fun q => { q with slot := none }
      let runs : Instr → Prop := fun point =>
        Answers (exec point emptied) fun before =>
          (¬s.heldBack l req →
            Answers (exec point s) fun t =>
              exec (reqCommand .gallery l.num req) before = .next (t.answered .gallery (reqCode req) .ok [])) ∧
          (s.heldBack l req → exec point s = .next (before.latchAll .pendingDropped))
      (s.lineState l = .seated → (s.seq.get l).settled = false → (s.seq.get l).settleTimer ≠ .stopped →
        s.NotOvertaken (.packerSettleExpiry l) →
        (req = .charge ∨ ∃ target duration, req = .test target duration) → runs (.packerSettleExpiry l)) ∧
      (s.lineState l = .testing → (s.seq.get l).testTimer ≠ none → s.NotOvertaken (.testTimerExpiry l) →
        req = .charge → runs (.testTimerExpiry l)) ∧
      (∀ k ∈ (s.drive.get l).stroke, k.running = true → s.NotOvertaken (.strokeComplete l) → s.LineInv l →
        (k.purpose = .charge → (s.seq.get l).chargeCount + 1 = (s.seq.get l).nc → s.lineState l = .charging →
          req = .inject → runs (.strokeComplete l)) ∧
        (k.purpose = .flush → (s.seq.get l).flushCount + 1 = (s.seq.get l).nf → s.lineState l = .flushing →
          (∃ x, req = .seat x) → ¬ReqConflict s l req → runs (.strokeComplete l))))

/-- SEAT taken in IDLE: Pmax applied is the lesser of the request and the depth ceiling, the record opens with
the next stage sequence number, the line is SEATED with its packer inflated, its return closed, water selected
and its settle timer running, and its regulator takes the geometry of the stage (R9, R49, R52, R139, R141). -/
def Obligations.SeatOpensAStage : Prop :=
  ∀ (s : State) (l : LineId) (q : SeatParams), s.free .gallery → s.lineState l = .idle → SeatInRange s q →
    (∀ k, k ≠ l → (q.hole, q.stage) ∉ s.claims k) →
    Answers (exec (.seat .gallery l.num q) s) fun t =>
      let mid := (q.top + q.bottom) / 2
      let ceiling := s.envelope.beta * mid / 1000
      OnlyLine l s t ∧ SameSupply s t ∧ t.log = s.log ∧ t.nextEntry = s.nextEntry ∧
      t.nextSeq = (if s.nextSeq = 65535 then 1 else s.nextSeq + 1) ∧
      AnsweredWith s t .gallery 0x01 .ok [] (if ceiling < q.pmax then Event.clamped.bit else 0) ∧
      t.openRec.get l = some
        { entry := none, seqNo := s.nextSeq, line := l, hole := q.hole, stage := q.stage, order := q.order
          top := q.top, bottom := q.bottom, pmaxRequested := q.pmax, pmaxApplied := min q.pmax ceiling
          clamped := decide (ceiling < q.pmax), gin := q.gin, vmax := q.vmax, rateCap := q.rateCap
          lowestCeiling := none, pf := none, noGauge := false, test := none, startMix := q.start
          startSource := none, thickest := q.thickest, steps := [], charge := 0, injected := 0, unplaced := 0
          peak := 0, excursions := 0, holdEpisodes := 0, supplyEpisodes := 0, heldSeconds := 0
          connCount := 0, connections := [], seatTime := ⟨s.clock.day, s.clock.second⟩
          clockUnset := !s.clock.isSet, ending := none } ∧
      t.seq.get l =
        { s.seq.get l with
          state := .seated
          settled := false
          settleTimer := .running 0 (s.timing.packerSettle * 1000)
          currentMix := none
          chargeCount := 0
          nc := 0
          flushCount := 0
          nf := 0
          packerInflated := true
          returnOpen := false
          source := .water } ∧
      t.reg.get l =
        { s.reg.get l with
          geometry := some ⟨mid, q.bottom - q.top⟩
          pf := none
          pe := none
          pn := none
          plim := none
          lowerBand := none
          v := none
          excursionStop := false
          refusalTimer := .stopped } ∧
      t.drive.get l = s.drive.get l ∧ t.currentTank.get l = s.currentTank.get l

/-- The tank selected for a grout stroke: the line's current tank while it is STOCKED with the mix at or above
E, else the tank of smallest birth that is, of equal births the lower number, else none (R101). -/
def Obligations.TankSelection : Prop :=
  ∀ (s : State) (l : LineId) (mix e : Nat),
    let fit : TankId → Prop := fun k =>
      (s.tanks.get k).state = .stocked ∧ (s.tanks.get k).mix = some mix ∧ e ≤ (s.tanks.get k).level
    (∀ k, s.currentTank.get l = some k → fit k → s.selectTank l mix e = some k) ∧
    ((∀ k, s.currentTank.get l = some k → ¬fit k) →
      ((∀ k, ¬fit k) → s.selectTank l mix e = none) ∧
      ∀ k, fit k →
        (∀ j, fit j →
          (s.tanks.get k).birth.getD 0 < (s.tanks.get j).birth.getD 0 ∨
          (s.tanks.get k).birth.getD 0 = (s.tanks.get j).birth.getD 0 ∧ k.num ≤ j.num) →
        s.selectTank l mix e = some k)

/-- CHARGE taken in SEATED, settled: the starting mix is the requested one, or the band
table's choice, or the thickest mix where that choice lies above it or is not enabled; Nc is computed, the
first mix step entered. With a tank selected it is debited and the first CHARGE stroke runs from it at the charge
step, and the holds-grout flag is set. With none
selected the line waits for supply in HELD, to resume in CHARGING, its holds-grout flag as it was (R12, R13, R22,
R33, R79 to R82, R101, R102, R106; that the wait finds the line in CHARGING is log 8). -/
def Obligations.ChargeStartsOrWaitsForSupply : Prop :=
  ∀ (s : State) (l : LineId), s.free .gallery → s.lineState l = .seated → (s.seq.get l).settled = true →
    s.covered l = false → s.LineInv l → 1 ≤ s.timing.chargeStep →
    ∀ r ∈ s.openRec.get l,
    let choice := match r.test with
      | none => s.bands.m0
      | some x =>
        if x.tLu ≤ s.bands.b1 then s.bands.m1 else if x.tLu ≤ s.bands.b2 then s.bands.m2
        else if x.tLu ≤ s.bands.b3 then s.bands.m3 else s.bands.m4
    let start : Nat × MixSource :=
      if r.startMix ≠ 0 then (r.startMix, .explicit)
      else if choice ≤ r.thickest ∧ s.mixEnabled choice = true then (choice, .band)
      else (r.thickest, .clamped)
    let e := (s.lineTable.get l).displacement * (s.lineTable.get l).efficiency / 100
    let q : Sequencer :=
      { s.seq.get l with
        state := .charging
        currentMix := some start.1
        nc := ((s.lineTable.get l).lineVolume + e - 1) / e
        chargeCount := 0
        returnOpen := true }
    let g : Regulator := { s.reg.get l with watchArmed := false, baseline := none }
    let x : Record :=
      { r with
        startMix := start.1
        startSource := some start.2
        steps := r.steps ++ [⟨start.1, 0, ⟨s.clock.day, s.clock.second⟩⟩]
        clockUnset := r.clockUnset || !s.clock.isSet }
    let events : EventSet := if start.2 = .clamped then Event.clamped.bit else 0
    Answers (exec (.charge .gallery l.num) s) fun t =>
      OnlyLine l s t ∧ SameLog s t ∧
      (∀ k ∈ s.selectTank l start.1 e,
        AnsweredWith s t .gallery 0x03 .ok [] events ∧
        GroutStarts s t l .charging k s.timing.chargeStep q (s.drive.get l).staticTimer g (some x)) ∧
      (s.selectTank l start.1 e = none →
        AnsweredWith s t .gallery 0x03 .ok [] (events ||| Event.supplyWait.bit) ∧
        SupplyWaits s t l .charging start.1 q { s.drive.get l with purpose := .charge } g (some x))

/-- INJECT taken in READY, no burst running. With a tank selected: the return closes, standing and static
timers stop, the tank is debited and the first INJECT stroke runs from it at rate step 1. With none: the line
is in HELD with SUPPLY, its rate steps 0 and its watch armed, it stands at the tail of its mix's waiting list, a
new entry taking the time now, the record counts the episode, and SUPPLY_WAIT is latched (R14, R22, R33, R90,
R101, R102, R105, R106, R129). That the wait finds the line in INJECTING, although R14 lists the drive's order
earlier, is the model's choice (log 8). -/
def Obligations.InjectStartsOrWaitsForSupply : Prop :=
  ∀ (s : State) (l : LineId), s.free .gallery → s.lineState l = .ready → (s.drive.get l).burst = none →
    s.covered l = false → s.LineInv l → ∀ mix ∈ (s.seq.get l).currentMix,
    let q : Sequencer :=
      { s.seq.get l with state := .injecting, returnOpen := false, standingTimer := .stopped }
    let g : Regulator := { s.reg.get l with watchArmed := false, baseline := none }
    Answers (exec (.inject .gallery l.num) s) fun t =>
      OnlyLine l s t ∧ SameLog s t ∧
      (∀ k ∈ s.selectTank l mix (s.strokeVolume l),
        AnsweredWith s t .gallery 0x04 .ok [] 0 ∧
        GroutStarts s t l .injecting k 1 q .stopped g (s.openRec.get l)) ∧
      (s.selectTank l mix (s.strokeVolume l) = none →
        AnsweredWith s t .gallery 0x04 .ok [] Event.supplyWait.bit ∧
        SupplyWaits s t l .injecting mix q { s.drive.get l with purpose := .inject } g (s.openRec.get l))

/-- FINISH, ABORT, the standing timer's expiry and the refusal timer's expiry end a stage with the reasons of
R16, R17, R65 and R91: the record closes with its final values and goes to the log, the line leaves its waiting
list, its slot is dropped, and it comes out in IDLE from SEATED or TESTING, else in FLUSHING (R24, R25, R37,
R67, R94, R109, R143, R144). The model's choices: the settled field and the counts keep their values (log 16), the
test duration goes (log 26), and the final limit of a stage without a pn is lowered to the ceiling stored (log
27). -/
def Obligations.StageEndsCloseTheRecord : Prop :=
  ∀ (s : State) (l : LineId) (i : Instr) (reason : EndReason) (origin : Option Port),
    EndsStage s l i reason origin → s.log.length ≤ 32 → 1 ≤ s.timing.flushStep →
    ∀ r ∈ s.openRec.get l,
    Answers (exec i s) fun t =>
      let early : Bool := s.lineState l == .seated || s.lineState l == .testing
      let e := (s.lineTable.get l).displacement * (s.lineTable.get l).efficiency / 100
      OnlyLine l s t ∧ Appended s t (s.closing l r reason origin) ∧ t.openRec.get l = none ∧
      t.tanks = s.tanks ∧ t.currentTank.get l = none ∧
      AllLatched t Event.stageEnd.bit ∧
      ((s.seq.get l).slot ≠ none → AllLatched t Event.pendingDropped.bit) ∧
      ((∃ d ∈ s.demand, l ∈ d.waiting) →
        AllLatched t Event.supplyWait.bit ∧
        t.demand = (s.demand.map fun d =>
          { d with waiting := d.waiting.filter (· != l) }).filter fun d => !d.waiting.isEmpty) ∧
      ((∀ d ∈ s.demand, l ∉ d.waiting) → t.demand = s.demand) ∧
      t.reg.get l = (s.reg.get l).stageOver ∧
      (early = true → t.seq.get l = (s.seq.get l).stageOver .idle ∧ t.drive.get l = restDrive) ∧
      (early = false →
        t.seq.get l =
          { (s.seq.get l).stageOver .flushing with
            nf := ((s.lineTable.get l).lineVolume * s.timing.flushFactor + e - 1) / e, flushCount := 0 } ∧
        t.drive.get l = startedDrive s l .flush .flush .water s.timing.flushStep .stopped)

/-- CLEAR_FAULT taken: the cause goes, and the line goes to FLUSHING with its first FLUSH stroke if it holds
grout, else to IDLE (R25, R27). -/
def Obligations.ClearFaultFlushesOrIdles : Prop :=
  ∀ (s : State) (l : LineId), s.free .gallery → s.lineState l = .fault → s.LineInv l →
    1 ≤ s.timing.flushStep →
    ((s.seq.get l).faultCause = some .sensor → (s.reg.get l).lastReading = .valid) →
    Answers (exec (.clearFault .gallery l.num) s) fun t =>
      let e := (s.lineTable.get l).displacement * (s.lineTable.get l).efficiency / 100
      let cleared : Sequencer :=
        { s.seq.get l with faultCause := none, packerInflated := false, returnOpen := true, source := .water }
      OnlyLine l s t ∧ SameSupply s t ∧ SameLog s t ∧ AnsweredWith s t .gallery 0x07 .ok [] 0 ∧
      t.reg.get l = s.reg.get l ∧ t.openRec.get l = s.openRec.get l ∧
      t.currentTank.get l = s.currentTank.get l ∧
      ((s.seq.get l).holdsGrout = false →
        t.seq.get l = { cleared with state := .idle } ∧ t.drive.get l = s.drive.get l) ∧
      ((s.seq.get l).holdsGrout = true →
        t.seq.get l =
          { cleared with
            state := .flushing
            nf := ((s.lineTable.get l).lineVolume * s.timing.flushFactor + e - 1) / e
            flushCount := 0 } ∧
        t.drive.get l =
          startedDrive s l .flush .flush .water s.timing.flushStep (s.drive.get l).staticTimer)

/-- A burst starts on CIRCULATE or on the circulation static timer's expiry, in READY or HELD: a paused grout
stroke is abandoned into the unplaced volume, the return opens, the watch disarms, and the first CIRCULATE
stroke runs at the charge step from the source selected (R15, R37, R40, R41, R129). -/
def Obligations.BurstsStart : Prop :=
  ∀ (s : State) (l : LineId) (i : Instr), (s.drive.get l).burst = none →
    (i = .circulate .gallery l.num ∧ s.free .gallery ∧
        (s.lineState l = .ready ∨ s.lineState l = .held ∧ (s.seq.get l).holdsGrout = true) ∨
      i = .circulationStaticExpiry l ∧ (s.drive.get l).staticTimer ≠ .stopped ∧ s.NotOvertaken i ∧
        (s.lineState l = .ready ∨ s.lineState l = .held)) →
    Answers (exec i s) fun t =>
      let step := s.timing.chargeStep
      OnlyLine l s t ∧ SameSupply s t ∧ SameLog s t ∧ t.currentTank.get l = s.currentTank.get l ∧
      (i = .circulate .gallery l.num → AnsweredWith s t .gallery 0x08 .ok [] 0) ∧
      (i = .circulationStaticExpiry l → Latched s t 0) ∧
      t.seq.get l = { s.seq.get l with returnOpen := true } ∧
      t.reg.get l = { s.reg.get l with watchArmed := false, baseline := none } ∧
      t.drive.get l =
        { s.drive.get l with
          rate := step
          pendingRate := step
          burst := some s.timing.circStrokes
          staticTimer := .stopped
          watch := some 0
          stroke := some ⟨.circulate, (s.seq.get l).source, s.strokeVolume l, true,
            (s.lineTable.get l).tmin * 15 / step⟩ } ∧
      t.openRec.get l =
        (s.openRec.get l).map fun r => { r with unplaced := r.unplaced + s.inFlight l }

/-! ### Settle and test -/

/-- Packer settle expires with an empty slot: settled, the formation pressure is the gauge value plus the
column of water over the midpoint, 0 with the no-gauge flag where there is no gauge value, and the watch arms
(R10, R49, R51, R129). A line whose settle timer does not run has no expiry, and the command changes nothing
(log 5). -/
def Obligations.SettleCapturesFormationPressure : Prop :=
  ∀ (s : State) (l : LineId),
    (s.lineState l = .seated → (s.seq.get l).settled = false → (s.seq.get l).settleTimer ≠ .stopped →
      s.NotOvertaken (.packerSettleExpiry l) → (s.seq.get l).slot = none →
      ∀ geo ∈ (s.reg.get l).geometry,
      let pf := match (s.reg.get l).gauge with
        | some v => v.pg + (981 * geo.mid + 500) / 1000
        | none => 0
      exec (.packerSettleExpiry l) s =
        .next (((s.updSeq l fun q => { q with settled := true, settleTimer := .stopped }).updReg l fun g =>
          { g with pf := some pf, watchArmed := true, baseline := none }).updRec l fun r =>
          { r with pf := some pf, noGauge := (s.reg.get l).gauge.isNone })) ∧
    (s.lineState l ≠ .seated → exec (.packerSettleExpiry l) s = .next s)

/-- TEST taken in SEATED, settled: the line is TESTING, its accumulators are cleared, its watch disarmed, and
the first TEST stroke runs from water at rate step 1 (R11, R32, R33, R71, R129). A test that runs its time ends with
its line in SEATED: the drive stops, the accumulators clear, the watch arms, and with at least one sample and a mean
above 0 the record takes the result, its permeability in tenths of a Lugeon unit held at 9999 (R11, R74, R77, R78,
R129). That the test duration goes is the model's choice (log 26). -/
def Obligations.TestsStartAndComplete : Prop :=
  (∀ (s : State) (l : LineId) (target duration : Nat), s.free .gallery →
     s.lineState l = .seated → (s.seq.get l).settled = true → s.covered l = false →
     100 ≤ target → target ≤ 9000 → 60 ≤ duration → duration ≤ 1800 → s.LineInv l →
     Answers (exec (.test .gallery l.num target duration) s) fun t =>
       OnlyLine l s t ∧ SameSupply s t ∧ SameLog s t ∧ AnsweredWith s t .gallery 0x02 .ok [] 0 ∧
       t.seq.get l =
         { s.seq.get l with
           state := .testing, testDuration := some duration, testTimer := some 0, source := .water } ∧
       t.drive.get l = startedDrive s l .test .test .water 1 (s.drive.get l).staticTimer ∧
       t.reg.get l =
         { s.reg.get l with
           testRunning := true
           testTarget := some target
           pressureSum := 0
           sampleCount := 0
           testVolume := 0
           watchArmed := false
           baseline := none } ∧
       t.openRec.get l = s.openRec.get l ∧ t.currentTank.get l = s.currentTank.get l) ∧
  ∀ (s : State) (l : LineId), s.lineState l = .testing → (s.seq.get l).testTimer ≠ none →
    s.NotOvertaken (.testTimerExpiry l) → (s.seq.get l).slot = none → s.LineInv l →
    ∀ duration ∈ (s.seq.get l).testDuration, ∀ target ∈ (s.reg.get l).testTarget,
    ∀ geo ∈ (s.reg.get l).geometry,
    Answers (exec (.testTimerExpiry l) s) fun t =>
      let g := s.reg.get l
      let mean := g.pressureSum / g.sampleCount
      OnlyLine l s t ∧ SameSupply s t ∧ SameLog s t ∧ Latched s t 0 ∧
      t.seq.get l =
        { s.seq.get l with state := .seated, settled := true, testTimer := none, testDuration := none } ∧
      t.drive.get l = restDrive ∧
      t.reg.get l =
        { g with
          testRunning := false
          testTarget := none
          pressureSum := 0
          sampleCount := 0
          testVolume := 0
          excursionStop := false
          watchArmed := true
          baseline := none } ∧
      t.currentTank.get l = s.currentTank.get l ∧
      t.openRec.get l =
        if g.sampleCount = 0 ∨ mean = 0 then s.openRec.get l
        else (s.openRec.get l).map fun r =>
          { r with
            test := some
              { target := target
                duration := duration
                elapsed := duration
                samples := g.sampleCount
                mean := mean
                volume := g.testVolume
                tLu := min 9999 (g.testVolume * 6000 / (duration * geo.ls * mean))
                cutShort := false
                lowPressure := decide (mean < target * 50 / 100) } }

/-! ### Strokes -/

/-- A completed stroke by its purpose. TEST: its volume goes to the test volume and the next one starts. CHARGE:
credited and counted; the next one starts from the tank selected, or the line waits for supply in HELD, but where
the completed stroke had run for some time no next stroke has started yet; the last,
with an empty slot, takes the line to READY, its standing and static timers running and its watch armed. FLUSH:
counted; the next one starts, and the last, with an empty slot, takes the line to IDLE with the holds-grout flag
clear. CIRCULATE: the next one starts; the last ends the burst, and a line due to leave HELD then starts a stroke
from the tank selected, or waits for supply anew; no volume changes (R13, R15, R22, R23, R25, R33 to R35, R39, R41,
R90, R101, R102, R106, R129). Which next strokes start in the same step is the model's choice (log 25). -/
def Obligations.StrokesCompleteByPurpose : Prop :=
  ∀ (s : State) (l : LineId), s.LineInv l → s.NotOvertaken (.strokeComplete l) →
    ∀ k ∈ (s.drive.get l).stroke, k.running = true →
    let q := s.seq.get l
    let d := s.drive.get l
    let g := s.reg.get l
    let stopped : Drive := { d with rate := 0, pendingRate := 0, stroke := none, watch := none }
    (0 < d.pendingRate →
      (k.purpose = .test →
        exec (.strokeComplete l) s =
          .next (((s.updReg l fun g => { g with testVolume := g.testVolume + k.volume }).updDrive l fun d =>
            startedDrive s l .test .test .water d.pendingRate d.staticTimer).updSeq l fun q =>
            { q with source := .water })) ∧
      (k.purpose = .charge → q.chargeCount + 1 ≠ q.nc → ∀ w ∈ d.watch, 0 < w →
        exec (.strokeComplete l) s =
          .next (((s.updRec l fun x => { x with charge := x.charge + k.volume }).updDrive l fun d =>
            { d with stroke := none, watch := none }).updSeq l fun q =>
            { q with chargeCount := q.chargeCount + 1 })) ∧
      (k.purpose = .charge → q.chargeCount + 1 ≠ q.nc → (∀ w ∈ d.watch, w = 0) → ∀ mix ∈ q.currentMix,
        Answers (exec (.strokeComplete l) s) fun t =>
          let counted : Sequencer := { q with chargeCount := q.chargeCount + 1 }
          let x := (s.openRec.get l).map fun x => { x with charge := x.charge + k.volume }
          OnlyLine l s t ∧ SameLog s t ∧
          (∀ tank ∈ s.selectTank l mix (s.strokeVolume l),
            Latched s t 0 ∧ GroutStarts s t l .charging tank d.pendingRate counted d.staticTimer g x) ∧
          (s.selectTank l mix (s.strokeVolume l) = none →
            Latched s t Event.supplyWait.bit ∧ SupplyWaits s t l .charging mix counted stopped g x)) ∧
      (k.purpose = .flush → q.flushCount + 1 ≠ q.nf →
        exec (.strokeComplete l) s =
          .next ((s.updDrive l fun d =>
            startedDrive s l .flush .flush .water d.pendingRate d.staticTimer).updSeq l fun q =>
            { q with flushCount := q.flushCount + 1, source := .water }))) ∧
    (q.slot = none →
      (k.purpose = .charge → q.chargeCount + 1 = q.nc →
        exec (.strokeComplete l) s =
          .next ((((s.updRec l fun x => { x with charge := x.charge + k.volume }).updDrive l fun _ =>
            { stopped with staticTimer := s.staticAfresh q.holdsGrout }).updSeq l fun q =>
            { q with
              state := .ready
              chargeCount := q.chargeCount + 1
              standingTimer := .running 0 (s.envelope.standingLimit * 1000) }).updReg l fun g =>
            { g with watchArmed := true, baseline := none })) ∧
      (k.purpose = .flush → q.flushCount + 1 = q.nf →
        exec (.strokeComplete l) s =
          .next ((s.updDrive l fun _ => stopped).updSeq l fun q =>
            { q with state := .idle, holdsGrout := false, flushCount := q.flushCount + 1 }))) ∧
    (k.purpose = .circulate → ∀ n ∈ d.burst,
      (1 < n →
        exec (.strokeComplete l) s =
          .next (s.updDrive l fun d =>
            { d with
              burst := some (n - 1)
              watch := some 0
              stroke := some ⟨.circulate, (s.seq.get l).source, s.strokeVolume l, true,
                (s.lineTable.get l).tmin * 15 / d.rate⟩ })) ∧
      (n ≤ 1 → q.resumeAfterBurst = false →
        exec (.strokeComplete l) s =
          .next (((s.updDrive l fun _ =>
            { stopped with burst := none, staticTimer := s.staticAfresh q.holdsGrout }).updSeq l fun q =>
            { q with returnOpen := decide (q.resume ≠ some .injecting) }).updReg l fun g =>
            { g with watchArmed := true, baseline := none })) ∧
      (n ≤ 1 → q.resumeAfterBurst = true → ∀ r ∈ q.resume, 0 < s.rateOf r → ∀ mix ∈ q.currentMix,
        Answers (exec (.strokeComplete l) s) fun t =>
          OnlyLine l s t ∧ SameLog s t ∧
          (∀ tank ∈ s.selectTank l mix (s.strokeVolume l),
            Latched s t 0 ∧
            GroutStarts s t l r tank (s.rateOf r) (q.outOfHeld r) .stopped g.outOfHeld (s.stayAdded l)) ∧
          (s.selectTank l mix (s.strokeVolume l) = none →
            Latched s t Event.supplyWait.bit ∧
            SupplyWaits s t l r mix (q.outOfHeld r) { stopped with burst := none } g.outOfHeld
              (s.stayAdded l))))

/-- An INJECT completion short of the volume limit: E goes to the injected volume and to the last mix step. Where
a condition of thickening fails the mix stays. With the step volume reached, the last pn below the lower band and
a thicker enabled code not above the thickest mix, the line takes the next enabled code, enters its mix step with
the time now and latches MIX_CHANGE. Either way the next stroke starts at the pending rate step from the tank
selected for the mix, or the line waits for supply of it in HELD (R22, R33 to R35, R82, R83, R85 to R87, R101,
R102, R106). That the next stroke starts in the same step is R88's for INJECT (log 25). -/
def Obligations.InjectStrokesCreditAndThicken : Prop :=
  ∀ (s : State) (l : LineId), s.LineInv l → s.NotOvertaken (.strokeComplete l) →
    ∀ k ∈ (s.drive.get l).stroke, k.running = true → k.purpose = .inject → 0 < (s.drive.get l).pendingRate →
    ∀ r ∈ s.openRec.get l, ∀ mix ∈ (s.seq.get l).currentMix, ∀ last ∈ r.steps.getLast?,
    let ls := r.bottom - r.top
    (r.injected + k.volume) / (10 * ls) < r.vmax →
    let credited : Record :=
      { r with
        injected := r.injected + k.volume
        steps := r.steps.dropLast ++ [{ last with volume := last.volume + k.volume }] }
    let goesOn (m : Nat) (x : Record) (events : EventSet) : Prop :=
      Answers (exec (.strokeComplete l) s) fun t =>
        let q : Sequencer := { s.seq.get l with currentMix := some m }
        OnlyLine l s t ∧ SameLog s t ∧
        (∀ tank ∈ s.selectTank l m (s.strokeVolume l),
          Latched s t events ∧
          GroutStarts s t l .injecting tank (s.drive.get l).pendingRate q (s.drive.get l).staticTimer
            (s.reg.get l) (some x)) ∧
        (s.selectTank l m (s.strokeVolume l) = none →
          Latched s t (events ||| Event.supplyWait.bit) ∧
          SupplyWaits s t l .injecting m q { s.drive.get l with watch := none } (s.reg.get l) (some x))
    ((s.mixStep mix = 0 ∨ (last.volume + k.volume) / (10 * ls) < s.mixStep mix ∨ r.thickest ≤ mix ∨
        (∀ pn ∈ (s.reg.get l).pn, ∀ low ∈ (s.reg.get l).lowerBand, low ≤ pn) ∨
        (∀ m, mix < m → m ≤ r.thickest → s.mixEnabled m = false)) →
      goesOn mix credited 0) ∧
    (0 < s.mixStep mix → s.mixStep mix ≤ (last.volume + k.volume) / (10 * ls) →
      ∀ pn ∈ (s.reg.get l).pn, ∀ low ∈ (s.reg.get l).lowerBand, pn < low →
      ∀ next, mix < next → next ≤ r.thickest → s.mixEnabled next = true →
      (∀ m, mix < m → m < next → s.mixEnabled m = false) →
      goesOn next
        { credited with
          steps := credited.steps ++ [⟨next, 0, ⟨s.clock.day, s.clock.second⟩⟩]
          clockUnset := r.clockUnset || !s.clock.isSet }
        Event.mixChange.bit)

/-- An INJECT completion that brings the injected volume per metre to Vmax ends the stage with VOLUME_LIMIT,
the stroke credited first, whatever the mix; the line goes to FLUSHING (R35, R53, R83, R84; the final limit of a
stage without a pn is log 27). -/
def Obligations.VolumeLimitEndsTheStage : Prop :=
  ∀ (s : State) (l : LineId), s.LineInv l → s.log.length ≤ 32 → 1 ≤ s.timing.flushStep →
    s.NotOvertaken (.strokeComplete l) → ∀ k ∈ (s.drive.get l).stroke, k.running = true → k.purpose = .inject →
    ∀ r ∈ s.openRec.get l, ∀ last ∈ r.steps.getLast?,
    r.vmax ≤ (r.injected + k.volume) / (10 * (r.bottom - r.top)) →
    Answers (exec (.strokeComplete l) s) fun t =>
      let credited : Record :=
        { r with
          injected := r.injected + k.volume
          steps := r.steps.dropLast ++ [{ last with volume := last.volume + k.volume }] }
      let closed := { s.closing l credited .volumeLimit none with unplaced := r.unplaced }
      OnlyLine l s t ∧ Appended s t closed ∧ t.openRec.get l = none ∧ t.tanks = s.tanks ∧
      t.demand = s.demand ∧ t.currentTank.get l = none ∧ t.lineState l = .flushing ∧
      AllLatched t Event.stageEnd.bit ∧
      t.drive.get l = startedDrive s l .flush .flush .water s.timing.flushStep .stopped ∧
      t.reg.get l = (s.reg.get l).stageOver

/-- A stroke-end sense without a running stroke is ignored (R35). A stroke watch that expires abandons its
stroke into the unplaced volume: in a stage the stage ends with FAULT and the line enters FAULT with cause
STROKE, and LINE_FAULT is latched; in FLUSHING the flush is given up (R26, R37, R38). The model's choices: without
a running stroke the watch's expiry changes nothing (log 5); the settled field and the counts keep their values at
stage end (log 16), the test duration goes (log 26), and the final limit of a stage without a pn is lowered to the
ceiling stored (log 27). -/
def Obligations.StrokeWatchFaultsTheLine : Prop :=
  ∀ (s : State) (l : LineId),
    ((∀ k ∈ (s.drive.get l).stroke, k.running = false) →
      exec (.strokeComplete l) s = .next s ∧ exec (.strokeWatchExpiry l) s = .next s) ∧
    ((s.drive.get l).watch ≠ none → s.NotOvertaken (.strokeWatchExpiry l) → s.log.length ≤ 32 →
      ∀ k ∈ (s.drive.get l).stroke, k.running = true →
      (∀ r ∈ s.openRec.get l, (s.lineState l).hasStage = true →
        Answers (exec (.strokeWatchExpiry l) s) fun t =>
          let closed := s.closing l r .fault none
          OnlyLine l s t ∧ t.tanks = s.tanks ∧ t.currentTank.get l = none ∧
          Appended s t { closed with ending := closed.ending.map fun e => { e with rate := 0 } } ∧
          t.openRec.get l = none ∧ AllLatched t (eventsOf [.stageEnd, .lineFault]) ∧
          t.seq.get l = { (s.seq.get l).stageOver .fault with faultCause := some .stroke } ∧
          t.drive.get l = restDrive ∧ t.reg.get l = (s.reg.get l).stageOver) ∧
      (s.lineState l = .flushing →
        Answers (exec (.strokeWatchExpiry l) s) fun t =>
          OnlyLine l s t ∧ SameSupply s t ∧ SameLog s t ∧ AllLatched t Event.lineFault.bit ∧
          t.seq.get l =
            { s.seq.get l with
              state := .fault
              faultCause := some .stroke
              flushCount := 0
              nf := 0
              slot := none
              packerInflated := false
              returnOpen := true
              source := .water } ∧
          t.drive.get l = restDrive ∧ t.reg.get l = s.reg.get l))

/-- A CHARGE completion that has left its next stroke to start, and a write of 0 that comes together with it: an idle
step starts the stroke from the tank selected, or the line waits for supply in HELD; a HOLD taken before then finds
no running stroke, no next stroke starts, and no tank pays (R21, R22, R33, R35, R101, R102, R106). That the stroke
starts in a step of its own, lowest line first, is the model's choice (log 25). -/
def Obligations.OwedChargeStrokesStartUnlessHeld : Prop :=
  ∀ (s : State) (l : LineId), s.Owes l → ∀ mix ∈ (s.seq.get l).currentMix,
    (s.pending = [] → (∀ i, ¬s.IsDue i) → (∀ k, k.num < l.num → ¬s.Owes k) →
      Answers (step s) fun t =>
        let q := s.seq.get l
        let d := s.drive.get l
        let g := s.reg.get l
        let x := s.openRec.get l
        OnlyLine l s t ∧ SameLog s t ∧ ¬t.Owes l ∧
        (∀ tank ∈ s.selectTank l mix (s.strokeVolume l),
          Latched s t 0 ∧ GroutStarts s t l .charging tank d.pendingRate q d.staticTimer g x) ∧
        (s.selectTank l mix (s.strokeVolume l) = none →
          Latched s t Event.supplyWait.bit ∧ SupplyWaits s t l .charging mix q d g x)) ∧
    (∀ p b, s.free p → b.toNat ≤ 63 → (LineSet.ofByte b).get l = true → s.covered l = false → s.LineInv l →
      Answers (exec (.hold p b) s) fun t =>
        t.drive.get l =
          { s.drive.get l with
            rate := 0, pendingRate := 0, staticTimer := s.staticAfresh (s.seq.get l).holdsGrout } ∧
        t.lineState l = .held ∧ t.openRec.get l = (s.openRec.get l).map (fun r =>
          { r with holdEpisodes := min 65535 (r.holdEpisodes + 1) }) ∧
        t.tanks = s.tanks ∧ t.currentTank = s.currentTank ∧ ¬t.Owes l)

/-- Of two events that come together the one taken first leaves the other nothing to do where the rules say so: an
expiry or a stroke-end sense that could come as the millisecond began and cannot come any more changes nothing. So
a completion leaves no expiry of the watch, the end of a stage no sense of its stroke, an INJECT no expiry of the
standing and static timers, and a byte no expiry of the gap timer (R38, R39, R73, R88, R92, R153). No command but
power-on changes what could come as the millisecond began (log 24). -/
def Obligations.OvertakenEventsDoNothing : Prop :=
  ∀ (s : State),
    (∀ e, e ∈ s.cameDue → ¬s.CanCome e →
      (∃ p, e = .gapTimerExpiry p ∨ e = .silenceTimerExpiry p) ∨
      (∃ l, e = .packerSettleExpiry l ∨ e = .testTimerExpiry l ∨ e = .strokeComplete l ∨
        e = .strokeWatchExpiry l ∨ e = .circulationStaticExpiry l ∨ e = .standingTimerExpiry l ∨
        e = .refusalTimerExpiry l) ∨
      (∃ k, e = .ageExpiry k) ∨ e = .clockAdvance ∨ e = .runSecondsAdvance →
      exec e s = .next s) ∧
    (∀ i t, i ≠ .powerOn → exec i s = .next t → t.cameDue = s.cameDue) ∧
    (∀ l, ∀ k ∈ (s.drive.get l).stroke, k.running = true → s.NotOvertaken (.strokeComplete l) →
      .strokeWatchExpiry l ∈ s.cameDue →
      Answers (exec (.strokeComplete l) s) fun t =>
        (∀ n ∈ (t.drive.get l).stroke, 0 < n.period) → exec (.strokeWatchExpiry l) t = .next t) ∧
    (∀ l i reason origin, EndsStage s l i reason origin → .strokeComplete l ∈ s.cameDue →
      Answers (exec i s) fun t => exec (.strokeComplete l) t = .next t) ∧
    (∀ l, s.free .gallery → s.takesAtOnce l .inject → s.covered l = false →
      0 < s.envelope.standingLimit → 0 < s.timing.staticTime →
      Answers (exec (.inject .gallery l.num) s) fun t =>
        (.standingTimerExpiry l ∈ s.cameDue → exec (.standingTimerExpiry l) t = .next t) ∧
        (.circulationStaticExpiry l ∈ s.cameDue → exec (.circulationStaticExpiry l) t = .next t)) ∧
    ∀ p b bytes gap, (s.port.get p).rx = .receiving bytes gap → .gapTimerExpiry p ∈ s.cameDue →
      Answers (exec (.byteReceived p b) s) fun t => exec (.gapTimerExpiry p) t = .next t

/-! ### Samples -/

/-- An invalid reading adds 1 to the invalid count, to at most 3, and leaves the gauge value and the last
pressures; the third in a row is a sensor failure, which in a stage ends it with FAULT and in every state but
OFF leaves the line in FAULT with cause SENSOR, its drive stopped with no purpose; a line in OFF takes no sample
(R26, R32, R46, R47; the final limit of a stage without a pn is log 27). -/
def Obligations.InvalidSamplesFaultTheLine : Prop :=
  ∀ (s : State) (l : LineId) (reading : Reading),
    (s.lineState l = .off → exec (.sample l reading) s = .next s) ∧
    (s.lineState l ≠ .off → (s.reg.get l).invalidCount < 2 →
      exec (.sample l .invalid) s =
        .next (s.updReg l fun g =>
          { g with
            sampleTimer := .running 0 500, lastReading := .invalid, invalidCount := g.invalidCount + 1 })) ∧
    (s.lineState l ≠ .off → 2 ≤ (s.reg.get l).invalidCount → s.log.length ≤ 32 →
      Answers (exec (.sample l .invalid) s) fun t =>
        OnlyLine l s t ∧ t.tanks = s.tanks ∧ t.lineState l = .fault ∧
        (t.seq.get l).faultCause = some .sensor ∧ (t.reg.get l).invalidCount = 3 ∧
        (t.reg.get l).gauge = (s.reg.get l).gauge ∧ (t.reg.get l).lastReading = .invalid ∧
        (s.lineState l ≠ .fault → AllLatched t Event.lineFault.bit ∧ t.drive.get l = restDrive) ∧
        (s.lineState l = .fault → SameSupply s t ∧ SameLog s t ∧ t.port = s.port) ∧
        (s.lineState l = .idle → (t.seq.get l).holdsGrout = false) ∧
        (s.lineState l ≠ .idle → (t.seq.get l).holdsGrout = (s.seq.get l).holdsGrout) ∧
        ((s.lineState l).hasStage = true → ∀ r ∈ s.openRec.get l,
          Appended s t (s.closing l r .fault none) ∧ t.openRec.get l = none ∧
          AllLatched t Event.stageEnd.bit))

/-- A valid sample of a line in any state but OFF: the reading is classified and the sample timer starts again.
pe is computed in every state but IDLE and FAULT, under a column of water in SEATED, TESTING and FLUSHING and of
the line's mix in the grout states, less the loss of a running stroke. pn, v, the limit by the line's state and the
lower band are computed where the stage is settled and go on to the record's peak and lowest ceiling; where one is
not computed its last value becomes absent. Unless the sample leaves the line in FAULT these are the values held
after it. In the states without a decision nothing else changes, but that an armed watch takes its first pe as
its baseline (R45 to R50, R53 to R58, R66, R128; a line without a current mix is log 20). -/
def Obligations.SampleComputesThePressures : Prop :=
  ∀ (s : State) (l : LineId) (kPa : Int), s.lineState l ≠ .off →
    let g := s.reg.get l
    let st := s.lineState l
    let full := (s.lineTable.get l).fullScale
    let pg : Nat := if kPa < 0 then 0 else min full kPa.toNat
    let gauge : Gauge := ⟨pg, decide ((full : Int) ≤ kPa)⟩
    let e := (s.lineTable.get l).displacement * (s.lineTable.get l).efficiency / 100
    let flow := match (s.drive.get l).stroke with
      | some k => if k.running then e * 600 / k.period else 0
      | none => 0
    let loss := (s.lineTable.get l).k * flow / 100
    let mid := match g.geometry with
      | some geo => geo.mid
      | none => 0
    let mixGradient := match (s.seq.get l).currentMix with
      | some mix => s.mixGradient mix
      | none => 0
    let under (gradient : Nat) : Nat := pg + (gradient * mid + 500) / 1000 - loss
    let pe : Option Nat := match st with
      | .off | .idle | .fault => none
      | .seated | .testing | .flushing => some (under 981)
      | .charging | .ready | .injecting | .held => some (under mixGradient)
    let settled : Bool := match st with
      | .seated => (s.seq.get l).settled
      | .testing | .charging | .ready | .injecting | .held => true
      | .off | .idle | .flushing | .fault => false
    let stage : Option (Nat × Record) :=
      if settled then g.pf.bind fun pf => (s.openRec.get l).map fun r => (pe.getD 0 - pf, r) else none
    let perMetre (r : Record) : Nat := r.injected / (10 * (r.bottom - r.top))
    let byGin (r : Record) : Nat :=
      if perMetre r = 0 then r.pmaxApplied else min r.pmaxApplied (r.gin * 10 / perMetre r)
    let base (r : Record) : Nat := match st with
      | .testing => min (g.testTarget.getD 0) r.pmaxApplied
      | .ready | .injecting => byGin r
      | .held => if (s.seq.get l).resume = some .charging then r.pmaxApplied else byGin r
      | .off | .idle | .seated | .charging | .flushing | .fault => r.pmaxApplied
    let ceiling := s.ceiling.get l
    let limit (r : Record) : Nat := if ceiling = 0 then base r else min (base r) ceiling
    let peak (x : Record) (pn : Nat) : Record :=
      { x with
        peak := max x.peak pn
        lowestCeiling := if ceiling = 0 then x.lowestCeiling
          else some (min ceiling (x.lowestCeiling.getD ceiling)) }
    let held (g : Regulator) : Regulator :=
      { g with
        sampleTimer := .running 0 500
        lastReading := .valid
        gauge := some gauge
        invalidCount := 0
        pe := pe
        pn := stage.map (·.1)
        plim := stage.map fun x => limit x.2
        lowerBand := stage.map fun x => limit x.2 * (100 - s.envelope.band) / 100
        v := stage.map fun x => perMetre x.2 }
    Answers (exec (.sample l (.value kPa)) s) fun t =>
      ((t.lineState l = .fault → st = .fault) →
        t.reg.get l = { held (t.reg.get l) with geometry := g.geometry, pf := g.pf } ∧
        ∀ x ∈ stage, (t.openRec.get l).map (fun y => (y.peak, y.lowestCeiling)) =
          some ((peak x.2 x.1).peak, (peak x.2 x.1).lowestCeiling)) ∧
      (st ≠ .testing → st ≠ .charging → st ≠ .injecting → g.testRunning = false →
        (g.watchArmed = true → g.baseline = none) →
        t = (s.updReg l fun g =>
          { held g with baseline := if g.watchArmed then pe else g.baseline }).updRec l fun y =>
          match stage with
          | some x => peak y x.1
          | none => y)

/-- The decision on a valid sample in INJECTING, with pn, limit, threshold and lower band as the sample finds
them: an excursion stops the piston, sets the flag, counts, latches EXCURSION and cancels the refusal timer;
above the limit the rate step falls by one, not below 1; below the band it rises by one, to at most the cap;
at or above the band and at or below the refusal step the refusal timer runs, else it is cancelled; a stop
clears at or below the band with rate step 1 (R56, R59 to R61, R64; log 7 for a saturated reading under a
stop). -/
def Obligations.SampleDecidesInInjecting : Prop :=
  ∀ (s : State) (l : LineId) (kPa : Int), s.LineInv l → s.lineState l = .injecting →
    (s.reg.get l).testRunning = false → (s.reg.get l).watchArmed = false →
    ∀ r ∈ s.openRec.get l, 1 ≤ r.rateCap → (s.reg.get l).pf ≠ none → ∀ k ∈ (s.drive.get l).stroke,
    (∀ w ∈ (s.drive.get l).watch, w < 3 * ((s.lineTable.get l).tmin * 15)) →
    Answers (exec (.sample l (.value kPa)) s) fun t =>
      let saturated : Prop := ((s.lineTable.get l).fullScale : Int) ≤ kPa
      let pn := (t.reg.get l).pn.getD 0
      let limit := (t.reg.get l).plim.getD 0
      let low := limit * (100 - s.envelope.band) / 100
      let excursion : Prop := limit + limit * s.envelope.tolerance / 100 < pn ∨ saturated
      let rate := (s.drive.get l).rate
      let dwell (now : Nat) : Timer :=
        if now ≤ s.timing.refusalStep ∧ low ≤ pn then
          (if (s.reg.get l).refusalTimer = .stopped then .running 0 (s.timing.refusalDwell * 1000)
            else (s.reg.get l).refusalTimer)
        else .stopped
      (t.reg.get l).pn ≠ none ∧ (t.reg.get l).plim ≠ none ∧ (t.reg.get l).lowerBand = some low ∧
      OnlyLine l s t ∧ SameSupply s t ∧ SameLog s t ∧ t.seq.get l = s.seq.get l ∧
      ((s.reg.get l).excursionStop = false → excursion →
        (t.drive.get l) = { s.drive.get l with
          rate := 0, pendingRate := 0, stroke := some { k with running := false } } ∧
        (t.reg.get l).excursionStop = true ∧ (t.reg.get l).refusalTimer = .stopped ∧
        (t.openRec.get l).map (·.excursions) = some (min 65535 (r.excursions + 1)) ∧
        Latched s t Event.excursion.bit) ∧
      ((s.reg.get l).excursionStop = false → k.running = true → ¬excursion →
        t.drive.get l = { s.drive.get l with
          pendingRate :=
            if limit < pn then max 1 (rate - 1)
            else if pn < low then min r.rateCap (rate + 1) else (s.drive.get l).pendingRate } ∧
        (t.reg.get l).excursionStop = false ∧ (t.reg.get l).refusalTimer = dwell rate ∧ Latched s t 0) ∧
      ((s.reg.get l).excursionStop = true → low < pn ∨ saturated →
        t.drive.get l = s.drive.get l ∧ (t.reg.get l).excursionStop = true ∧
        (t.reg.get l).refusalTimer = dwell rate ∧ Latched s t 0) ∧
      ((s.reg.get l).excursionStop = true → pn ≤ low → ¬saturated → k.running = false →
        t.drive.get l = { s.drive.get l with
          rate := 1
          pendingRate := 1
          stroke := some { k with running := true, period := (s.lineTable.get l).tmin * 15 } } ∧
        (t.reg.get l).excursionStop = false ∧ (t.reg.get l).refusalTimer = dwell 1 ∧ Latched s t 0)

/-- The decision on a valid sample in TESTING and in CHARGING, with pn, limit, threshold and lower band as the
sample computes them. TESTING: the sample is counted; without an excursion the pending rate step falls by one above
the limit, not below 1, and rises by one below the band, to at most the cap; an excursion cuts the test short: the
excursion is counted and latched, the drive stops, the line is SEATED and settled, its watch armed, and from 60 s on
the record takes the result of the elapsed whole seconds. CHARGING: an excursion pauses the stroke and sets the
flag; under the flag a pn at or below the band clears it and the paused stroke restarts at the charge step, else
nothing is written (R59, R62, R63, R72, R75, R77, R78, R129; that the test duration goes is log 26;
that a saturated reading under a stop may restart a charge is log 7). -/
def Obligations.SampleDecidesInTestingAndCharging : Prop :=
  ∀ (s : State) (l : LineId) (kPa : Int), s.LineInv l → (s.reg.get l).watchArmed = false →
    ∀ r ∈ s.openRec.get l, 1 ≤ r.rateCap → ∀ pf ∈ (s.reg.get l).pf, ∀ k ∈ (s.drive.get l).stroke,
    let d := s.drive.get l
    let g := s.reg.get l
    let saturated : Prop := ((s.lineTable.get l).fullScale : Int) ≤ kPa
    let paused : Drive := { d with rate := 0, pendingRate := 0, stroke := some { k with running := false } }
    let excursionOn (limit pn : Nat) : Prop := limit + limit * s.envelope.tolerance / 100 < pn ∨ saturated
    (s.lineState l = .testing → g.testRunning = true → (s.seq.get l).slot = none → k.running = true →
      ∀ target ∈ g.testTarget, ∀ duration ∈ (s.seq.get l).testDuration, ∀ geo ∈ g.geometry,
      ∀ ms ∈ (s.seq.get l).testTimer,
      Answers (exec (.sample l (.value kPa)) s) fun t =>
        OnlyLine l s t ∧ SameSupply s t ∧ SameLog s t ∧ t.currentTank.get l = s.currentTank.get l ∧
        (t.reg.get l).pn ≠ none ∧ (t.reg.get l).plim ≠ none ∧ (t.reg.get l).lowerBand ≠ none ∧
        ∀ pn ∈ (t.reg.get l).pn, ∀ limit ∈ (t.reg.get l).plim, ∀ low ∈ (t.reg.get l).lowerBand,
          let sum := g.pressureSum + pn
          let count := g.sampleCount + 1
          let mean := sum / count
          let elapsed := ms / 1000
          (¬excursionOn limit pn →
            (t.reg.get l).pressureSum = sum ∧ (t.reg.get l).sampleCount = count ∧
            (t.reg.get l).testVolume = g.testVolume ∧ (t.reg.get l).testRunning = true ∧
            t.seq.get l = s.seq.get l ∧ Latched s t 0 ∧
            (t.openRec.get l).map (·.excursions) = some r.excursions ∧
            t.drive.get l =
              { d with
                pendingRate :=
                  if limit < pn then max 1 (d.rate - 1)
                  else if pn < low then min r.rateCap (d.rate + 1) else d.pendingRate }) ∧
          (excursionOn limit pn →
            t.seq.get l =
              { s.seq.get l with state := .seated, settled := true, testTimer := none, testDuration := none } ∧
            t.drive.get l = restDrive ∧ Latched s t Event.excursion.bit ∧
            t.reg.get l =
              { t.reg.get l with
                excursionStop := false
                refusalTimer := .stopped
                testRunning := false
                testTarget := none
                pressureSum := 0
                sampleCount := 0
                testVolume := 0
                watchArmed := true
                baseline := none } ∧
            (t.openRec.get l).map (·.excursions) = some (min 65535 (r.excursions + 1)) ∧
            (t.openRec.get l).map (·.test) = some
              (if elapsed < 60 ∨ mean = 0 then r.test
              else some
                { target := target
                  duration := duration
                  elapsed := elapsed
                  samples := count
                  mean := mean
                  volume := g.testVolume
                  tLu := min 9999 (g.testVolume * 6000 / (elapsed * geo.ls * mean))
                  cutShort := true
                  lowPressure := decide (mean < target * 50 / 100) }))) ∧
    (s.lineState l = .charging → g.testRunning = false → 0 < s.timing.chargeStep →
      let period := (s.lineTable.get l).tmin * 15 / s.timing.chargeStep
      (∀ w ∈ d.watch, w < 3 * period) →
      Answers (exec (.sample l (.value kPa)) s) fun t =>
        OnlyLine l s t ∧ SameSupply s t ∧ SameLog s t ∧ t.seq.get l = s.seq.get l ∧
        t.currentTank.get l = s.currentTank.get l ∧
        (t.reg.get l).pn ≠ none ∧ (t.reg.get l).plim ≠ none ∧ (t.reg.get l).lowerBand ≠ none ∧
        ∀ pn ∈ (t.reg.get l).pn, ∀ limit ∈ (t.reg.get l).plim, ∀ low ∈ (t.reg.get l).lowerBand,
          (g.excursionStop = false → excursionOn limit pn →
            t.drive.get l = (if d.rate = 0 then d else paused) ∧ (t.reg.get l).excursionStop = true ∧
            (t.reg.get l).refusalTimer = .stopped ∧ Latched s t Event.excursion.bit ∧
            (t.openRec.get l).map (·.excursions) = some (min 65535 (r.excursions + 1))) ∧
          (g.excursionStop = false → ¬excursionOn limit pn →
            t.drive.get l = d ∧ (t.reg.get l).excursionStop = false ∧ Latched s t 0 ∧
            (t.openRec.get l).map (·.excursions) = some r.excursions) ∧
          (g.excursionStop = true → pn ≤ low → k.running = false →
            t.drive.get l =
              { d with
                rate := s.timing.chargeStep
                pendingRate := s.timing.chargeStep
                stroke := some { k with running := true, period := period } } ∧
            (t.reg.get l).excursionStop = false ∧ Latched s t 0) ∧
          (g.excursionStop = true → low < pn →
            t.drive.get l = d ∧ (t.reg.get l).excursionStop = true ∧ Latched s t 0))

/-- A connection is detected at an armed line whose pe has risen by the connection rise above its baseline
while a named neighbour is INJECTING at a rate step above 0: the capture record, the suspects merged into the
WATCH entry, CONNECTION and HOLD_CHANGE latched, the baseline moved to pe, the record's count and list raised
(R128, R130 to R133). -/
def Obligations.ConnectionIsDetected : Prop :=
  ∀ (s : State) (l : LineId) (kPa : Int), s.LinesInv →
    s.lineState l = .ready ∨ s.lineState l = .held ∨ s.lineState l = .seated ∧ (s.seq.get l).settled = true →
    (s.reg.get l).watchArmed = true → ∀ base ∈ (s.reg.get l).baseline, ∀ r ∈ s.openRec.get l,
    let e := s.lineTable.get l
    let suspect : LineId → Bool := fun k =>
      (e.neighbour1 == some k || e.neighbour2 == some k) && s.lineState k == .injecting &&
        decide (0 < (s.drive.get k).rate)
    let suspects : LineSet := ⟨suspect .l1, suspect .l2, suspect .l3, suspect .l4, suspect .l5, suspect .l6⟩
    Answers (exec (.sample l (.value kPa)) s) fun t =>
      ∀ pe ∈ (t.reg.get l).pe,
        (base + s.envelope.rise ≤ pe → suspects.isEmpty = false →
          t.capture.get l = some
            ⟨l, r.seqNo, ⟨⟨s.clock.day, s.clock.second⟩, !s.clock.isSet⟩, base, pe, pe - base, suspects⟩ ∧
          t.holds = s.holds.merge .watch suspects s.stamp ∧
          AllLatched t (eventsOf [.connection, .holdChange]) ∧ (t.reg.get l).baseline = some pe ∧
          (t.openRec.get l).map (·.connCount) = some (min 65535 (r.connCount + 1)) ∧
          (t.openRec.get l).map (·.connections) = some
            (if r.connections.length < 4 then
              r.connections ++ [⟨suspects, pe - base, ⟨s.clock.day, s.clock.second⟩⟩] else r.connections) ∧
          (∀ k, suspects.get k = true → t.lineState k = .held)) ∧
        (pe < base + s.envelope.rise ∨ suspects.isEmpty = true →
          t.capture = s.capture ∧ t.holds = s.holds ∧ (t.reg.get l).baseline = some base ∧
          (∀ k, k ≠ l → SameLine k s t) ∧ Latched s t 0)

/-! ### The supply account -/

/-- DELIVER is checked in the order of R99 and, with no line waiting for the mix, fills the tank: its level is
the sum, held at the capacity with CLAMPED latched; an EMPTY tank takes the mix and the birth now, a STOCKED
one keeps them; the answer carries the level and 0 (R99, R157). -/
def Obligations.DeliverFillsTheTank : Prop :=
  ∀ (s : State) (k : TankId) (mix litres : Nat), s.free .plant →
    let tank := s.tanks.get k
    let bad := litres = 0 ∨ 4000 < litres ∨ s.mixEnabled mix = false ∨ tank.state = .unfitted
    let clash := tank.state = .stale ∨ tank.state = .stocked ∧ tank.mix ≠ some mix
    (∀ n, n = 0 ∨ 3 < n →
      exec (.deliver .plant n mix litres) s = .next (s.answered .plant 0x20 .range [])) ∧
    (bad → exec (.deliver .plant k.num mix litres) s = .next (s.answered .plant 0x20 .range [])) ∧
    (¬bad → clash → exec (.deliver .plant k.num mix litres) s = .next (s.answered .plant 0x20 .conflict [])) ∧
    (¬bad → ¬clash → (∀ d ∈ s.demand, d.mix ≠ mix) → (∀ d ∈ s.demand, d.waiting ≠ []) →
      Answers (exec (.deliver .plant k.num mix litres) s) fun t =>
        let full := (s.tankTable.get k).capacity * 1000
        let level := min (tank.level + litres * 1000) full
        t = { s with tanks := t.tanks, port := t.port } ∧
        t.tanks.get k =
          (if tank.state = .stocked then { tank with level := level }
            else ⟨.stocked, some mix, level, some s.runSeconds⟩) ∧
        (∀ j, j ≠ k → t.tanks.get j = s.tanks.get j) ∧
        AnsweredWith s t .plant 0x20 .ok (be 4 level ++ be 1 0)
          (if full < tank.level + litres * 1000 then Event.clamped.bit else 0))

/-- An accepted delivery of a mix that lines wait for (R23, R33, R99, R101, R107, R108). The lines of its list are
treated in turn, each with the tank levels the lines before it have left: a line for which no tank qualifies stays;
an uncovered line without a burst leaves the list, its tank is debited, and it leaves HELD and strokes from that tank
at its resume rate; a covered line, or one with a burst, leaves the list without a debit and stays in HELD, with the
resume-after-burst flag where no hold is left. An emptied entry goes, any other keeps its place and its order;
SUPPLY_WAIT is latched if a line left, and the answer carries the level left and the number of lines that left. -/
def Obligations.ServiceTreatsTheWaitingLines : Prop :=
  ∀ (s : State) (k : TankId) (mix litres : Nat), s.free .plant → s.LinesInv → 1 ≤ s.timing.chargeStep →
    (s.demand.map (·.mix)).Nodup → ∀ e ∈ s.demand, e.mix = mix → e.waiting.Nodup →
    (∀ d ∈ s.demand, d.waiting ≠ []) →
    1 ≤ litres → litres ≤ 4000 → s.mixEnabled mix = true →
    let tank := s.tanks.get k
    tank.state = .empty ∨ tank.state = .stocked ∧ tank.mix = some mix →
    let full := (s.tankTable.get k).capacity * 1000
    let level := min (tank.level + litres * 1000) full
    let filled : State :=
      { s with
        tanks := s.tanks.set k
          (if tank.state = .stocked then { tank with level := level }
            else ⟨.stocked, some mix, level, some s.runSeconds⟩) }
    Answers (exec (.deliver .plant k.num mix litres) s) fun t =>
      ∃ u n, TreatedInTurn mix e.waiting filled u n ∧
        t = { u with
          demand := u.demand.filter (fun d => !d.waiting.isEmpty), tellCount := t.tellCount, port := t.port } ∧
        AnsweredWith s t .plant 0x20 .ok (be 4 (t.tanks.get k).level ++ be 1 n)
          ((if full < tank.level + litres * 1000 then Event.clamped.bit else 0) |||
            (if n = 0 then 0 else Event.supplyWait.bit))

/-- DUMP, WRITE_TANK and the age expiry: a DUMP empties a tank with grout and latches nothing; a capacity is
changed only in EMPTY or UNFITTED, else NOT_QUIET; a new age limit that the tank's grout has passed makes it
STALE; an age expiry makes a STOCKED tank STALE with TANK_STALE latched once the run seconds reach birth and
limit, and changes nothing before (R98, R100, R103, R113, R177; log 4). -/
def Obligations.TanksEmptyFitAndAge : Prop :=
  ∀ (s : State) (k : TankId) (capacity limit : Nat), s.free .plant →
    let tank := s.tanks.get k
    let holds : Prop := tank.state = .stocked ∨ tank.state = .stale
    let past (minutes : Nat) : Prop := tank.birth.getD 0 + minutes * 60 ≤ s.runSeconds
    let stale (t : State) : State :=
      { t with tanks := t.tanks.set k { tank with state := .stale } }
    (∀ n, n = 0 ∨ 3 < n →
      exec (.dump .plant n) s = .next (s.answered .plant 0x21 .range []) ∧
      exec (.writeTank .plant n capacity limit) s = .next (s.answered .plant 0x55 .range [])) ∧
    exec (.dump .plant k.num) s =
      .next (if tank.state = .unfitted then s.answered .plant 0x21 .range []
        else if tank.state = .empty then s.answered .plant 0x21 .ok []
        else { s.answered .plant 0x21 .ok [] with tanks := s.tanks.set k ⟨.empty, none, 0, none⟩ }) ∧
    (4000 < capacity ∨ limit < 10 ∨ 240 < limit →
      exec (.writeTank .plant k.num capacity limit) s = .next (s.answered .plant 0x55 .range [])) ∧
    (capacity ≤ 4000 → 10 ≤ limit → limit ≤ 240 →
      (holds → capacity ≠ (s.tankTable.get k).capacity →
        exec (.writeTank .plant k.num capacity limit) s = .next (s.answered .plant 0x55 .notQuiet [])) ∧
      (holds → capacity = (s.tankTable.get k).capacity →
        exec (.writeTank .plant k.num capacity limit) s =
          .next (let t := { s.answered .plant 0x55 .ok [] with tankTable := s.tankTable.set k ⟨capacity, limit⟩ }
            if tank.state = .stocked ∧ past limit then (stale t).latchAll .tankStale else t)) ∧
      (¬holds →
        exec (.writeTank .plant k.num capacity limit) s =
          .next { s.answered .plant 0x55 .ok [] with
            tankTable := s.tankTable.set k ⟨capacity, limit⟩
            tanks := s.tanks.set k
              { tank with state := if capacity = 0 then .unfitted else .empty } })) ∧
    exec (.ageExpiry k) s =
      .next (if tank.state = .stocked ∧ past (s.tankTable.get k).ageLimit then (stale s).latchAll .tankStale
        else s)

/-! ### Invariants -/

/-- Every step, of a command or of an idle part, keeps what holds of the lines between commands, and that no two
lines name the same hole and stage (R3, R8, R21 to R23, R32, R39 to R41, R105). -/
def Obligations.LinesInvariantIsKept : Prop :=
  ∀ (s t : State), step s = .next t →
    (s.LinesInv → t.LinesInv) ∧ (s.StagesDistinct → t.StagesDistinct)

/-- Every step keeps the log and the marks in order: at most 32 closed records numbered without a gap, and
each mark on a held record or on the next number (R136, R143, R144). -/
def Obligations.LogInvariantIsKept : Prop :=
  ∀ (s t : State), s.LogInv → step s = .next t → t.LogInv

/-- Every step keeps the tanks as R98 gives them, and no entry of the hold map empty (R98, R115). -/
def Obligations.TankAndHoldInvariantsAreKept : Prop :=
  ∀ (s t : State), step s = .next t →
    ((∀ k, s.TankInv k) → ∀ k, t.TankInv k) ∧ (s.holds.NoEmptyEntry → t.holds.NoEmptyEntry)

/-- The invariants hold at power-on. -/
def Obligations.InvariantsHoldAtReset : Prop :=
  State.reset.LinesInv ∧ State.reset.StagesDistinct ∧ State.reset.LogInv ∧ (∀ k, State.reset.TankInv k) ∧
  State.reset.holds.NoEmptyEntry

/-- No command but power-on changes or reorders a closed record: after it the log is the newest 32 of the log
before and the records it has closed, in order, under the next entry numbers (R143, R144, R149, R150). -/
def Obligations.ClosedRecordsStayAsClosed : Prop :=
  ∀ (i : Instr) (s t : State), i ≠ .powerOn → s.log.length ≤ 32 → exec i s = .next t →
    ∃ news, Gained s t news

/-- Grout is neither made nor lost: in every command but power-on, a delivery, a dump and a byte received (a
frame's last byte is the request it carries), the levels of the tanks, the strokes in flight and the three
volumes of the records, open and newly closed, keep their sum; a step of an idle part keeps it too (R34, R37, R101,
R102, R138). -/
def Obligations.GroutIsAccountedFor : Prop :=
  (∀ (s t : State), s.LinesInv → s.pending = [] → step s = .next t → t.grout = s.grout) ∧
  ∀ (i : Instr) (s t : State), s.LinesInv → s.log.length ≤ 32 → exec i s = .next t →
    i ≠ .powerOn → (∀ p tank mix litres, i ≠ .deliver p tank mix litres) → (∀ p tank, i ≠ .dump p tank) →
    (∀ p b, i ≠ .byteReceived p b) →
    ∃ news, Gained s t news ∧ t.grout + (news.map Record.placed).sum = s.grout

/-- A latch, once set, stays: no command clears one on a port but that port's own CLEAR_EVENTS and PORT_RESET,
a cabinet reset, the end of the response of a RESTART, a byte that completes a frame, and power-on (R157). -/
def Obligations.LatchesStaySet : Prop :=
  ∀ (i : Instr) (s t : State) (p : Port), exec i s = .next t →
    i ≠ .powerOn → i ≠ .cabinetReset → (∀ q, i ≠ .responseSent q) → (∀ q b, i ≠ .byteReceived q b) →
    (∀ e, i ≠ .clearEvents p e) → i ≠ .portReset p →
    (s.port.get p).latches &&& (t.port.get p).latches = (s.port.get p).latches
end

