-- ==== Sys2Proof/Laws/Due.lean ====
section
/-! SUPPORT. What an event does, said once: its action, or nothing where it has been overtaken (log 24). -/

namespace Sys2Proof.Machine

variable {s : State} {e : Instr}

theorem overtaken_eq_true : s.overtaken e = true ↔ e ∈ s.cameDue ∧ e ∉ s.coming := by
  simp [State.overtaken]

theorem overtaken_eq_false : s.overtaken e = false ↔ (e ∈ s.cameDue → e ∈ s.coming) := by
  simp [State.overtaken, imp_iff_not_or]

theorem onEvent_of_overtaken (h : s.overtaken e = true) (act : State → State) : s.onEvent e act = s := by
  simp [State.onEvent, h]

theorem onEvent_of_not_overtaken (h : s.overtaken e = false) (act : State → State) :
    s.onEvent e act = act s := by
  simp [State.onEvent, h]

/-- What holds of a state and of what an event's action makes of it holds of the event. -/
theorem onEvent_induct {P : State → Prop} {act : State → State} (h : P s) (ha : P (act s)) :
    P (s.onEvent e act) := by
  unfold State.onEvent
  split
  · exact h
  · exact ha

@[simp] theorem State.tick_cameDue (s : State) : s.tick.cameDue = s.tickTimers.coming := rfl
@[simp] theorem State.tickTimers_cameDue (s : State) : s.tickTimers.cameDue = s.cameDue := rfl

end Sys2Proof.Machine
end

