-- ==== Sys2Proof/Laws/State.lean ====
section
/-! SUPPORT. The small lemmas of the indexed families and of every update of State: one per field per update,
true by rfl, so that no proof unfolds an update. -/

namespace Sys2Proof

/-! ### Families -/

@[simp] theorem PerLine.get_upd_self {α : Type} (m : PerLine α) (i : LineId) (f : α → α) :
    (m.upd i f).get i = f (m.get i) := by
  cases i <;> rfl

theorem PerLine.get_upd_of_ne {α : Type} (m : PerLine α) {i j : LineId} (h : j ≠ i) (f : α → α) :
    (m.upd i f).get j = m.get j := by
  cases i <;> cases j <;> first | rfl | exact absurd rfl h

theorem PerLine.get_upd {α : Type} (m : PerLine α) (i j : LineId) (f : α → α) :
    (m.upd i f).get j = if j = i then f (m.get j) else m.get j := by
  cases i <;> cases j <;> rfl

@[simp] theorem PerLine.get_set_self {α : Type} (m : PerLine α) (i : LineId) (a : α) : (m.set i a).get i = a := by
  cases i <;> rfl

theorem PerLine.get_set_of_ne {α : Type} (m : PerLine α) {i j : LineId} (h : j ≠ i) (a : α) :
    (m.set i a).get j = m.get j :=
  PerLine.get_upd_of_ne m h _

theorem PerLine.get_set {α : Type} (m : PerLine α) (i j : LineId) (a : α) :
    (m.set i a).get j = if j = i then a else m.get j := by
  cases i <;> cases j <;> rfl

@[simp] theorem PerLine.get_const {α : Type} (a : α) (i : LineId) : (PerLine.const a).get i = a := by
  cases i <;> rfl

@[simp] theorem PerLine.get_mapIdx {α β : Type} (f : LineId → α → β) (m : PerLine α) (i : LineId) :
    (m.mapIdx f).get i = f i (m.get i) := by
  cases i <;> rfl

theorem PerLine.ext_get {α : Type} {a b : PerLine α} (h : ∀ i, a.get i = b.get i) : a = b := by
  cases a; cases b
  simp only [PerLine.mk.injEq]
  exact ⟨h .l1, h .l2, h .l3, h .l4, h .l5, h .l6⟩

@[simp] theorem LineId.mem_all (i : LineId) : i ∈ LineId.all := by cases i <;> decide

@[simp] theorem LineId.ofNat?_num (i : LineId) : LineId.ofNat? i.num = some i := by cases i <;> rfl

theorem LineId.num_of_ofNat? {n : Nat} {i : LineId} (h : LineId.ofNat? n = some i) : i.num = n := by
  unfold LineId.ofNat? at h
  split at h <;> first | (cases h; rfl) | cases h

@[simp] theorem PerTank.get_upd_self {α : Type} (m : PerTank α) (i : TankId) (f : α → α) :
    (m.upd i f).get i = f (m.get i) := by
  cases i <;> rfl

theorem PerTank.get_upd_of_ne {α : Type} (m : PerTank α) {i j : TankId} (h : j ≠ i) (f : α → α) :
    (m.upd i f).get j = m.get j := by
  cases i <;> cases j <;> first | rfl | exact absurd rfl h

theorem PerTank.get_upd {α : Type} (m : PerTank α) (i j : TankId) (f : α → α) :
    (m.upd i f).get j = if j = i then f (m.get j) else m.get j := by
  cases i <;> cases j <;> rfl

@[simp] theorem PerTank.get_set_self {α : Type} (m : PerTank α) (i : TankId) (a : α) : (m.set i a).get i = a := by
  cases i <;> rfl

theorem PerTank.get_set_of_ne {α : Type} (m : PerTank α) {i j : TankId} (h : j ≠ i) (a : α) :
    (m.set i a).get j = m.get j :=
  PerTank.get_upd_of_ne m h _

theorem PerTank.get_set {α : Type} (m : PerTank α) (i j : TankId) (a : α) :
    (m.set i a).get j = if j = i then a else m.get j := by
  cases i <;> cases j <;> rfl

@[simp] theorem PerTank.get_const {α : Type} (a : α) (i : TankId) : (PerTank.const a).get i = a := by
  cases i <;> rfl

@[simp] theorem PerTank.get_mapIdx {α β : Type} (f : TankId → α → β) (m : PerTank α) (i : TankId) :
    (m.mapIdx f).get i = f i (m.get i) := by
  cases i <;> rfl

theorem PerTank.ext_get {α : Type} {a b : PerTank α} (h : ∀ i, a.get i = b.get i) : a = b := by
  cases a; cases b
  simp only [PerTank.mk.injEq]
  exact ⟨h .t1, h .t2, h .t3⟩

@[simp] theorem TankId.mem_all (i : TankId) : i ∈ TankId.all := by cases i <;> decide

@[simp] theorem TankId.ofNat?_num (i : TankId) : TankId.ofNat? i.num = some i := by cases i <;> rfl

theorem TankId.num_of_ofNat? {n : Nat} {i : TankId} (h : TankId.ofNat? n = some i) : i.num = n := by
  unfold TankId.ofNat? at h
  split at h <;> first | (cases h; rfl) | cases h

@[simp] theorem PerPort.get_upd_self {α : Type} (m : PerPort α) (i : Port) (f : α → α) :
    (m.upd i f).get i = f (m.get i) := by
  cases i <;> rfl

theorem PerPort.get_upd_of_ne {α : Type} (m : PerPort α) {i j : Port} (h : j ≠ i) (f : α → α) :
    (m.upd i f).get j = m.get j := by
  cases i <;> cases j <;> first | rfl | exact absurd rfl h

theorem PerPort.get_upd {α : Type} (m : PerPort α) (i j : Port) (f : α → α) :
    (m.upd i f).get j = if j = i then f (m.get j) else m.get j := by
  cases i <;> cases j <;> rfl

@[simp] theorem PerPort.get_set_self {α : Type} (m : PerPort α) (i : Port) (a : α) : (m.set i a).get i = a := by
  cases i <;> rfl

theorem PerPort.get_set_of_ne {α : Type} (m : PerPort α) {i j : Port} (h : j ≠ i) (a : α) :
    (m.set i a).get j = m.get j :=
  PerPort.get_upd_of_ne m h _

theorem PerPort.get_set {α : Type} (m : PerPort α) (i j : Port) (a : α) :
    (m.set i a).get j = if j = i then a else m.get j := by
  cases i <;> cases j <;> rfl

@[simp] theorem PerPort.get_const {α : Type} (a : α) (i : Port) : (PerPort.const a).get i = a := by
  cases i <;> rfl

@[simp] theorem PerPort.get_mapIdx {α β : Type} (f : Port → α → β) (m : PerPort α) (i : Port) :
    (m.mapIdx f).get i = f i (m.get i) := by
  cases i <;> rfl

theorem PerPort.ext_get {α : Type} {a b : PerPort α} (h : ∀ i, a.get i = b.get i) : a = b := by
  cases a; cases b
  simp only [PerPort.mk.injEq]
  exact ⟨h .gallery, h .monitor, h .plant⟩

@[simp] theorem Port.mem_all (i : Port) : i ∈ Port.all := by cases i <;> decide

@[simp] theorem Port.ofNat?_num (i : Port) : Port.ofNat? i.num = some i := by cases i <;> rfl

theorem Port.num_of_ofNat? {n : Nat} {i : Port} (h : Port.ofNat? n = some i) : i.num = n := by
  unfold Port.ofNat? at h
  split at h <;> first | (cases h; rfl) | cases h

end Sys2Proof

namespace Sys2Proof.Machine

/-! ### Updates of State -/

@[simp] theorem State.updSeq_seq (s : State) (l : LineId) (f : Sequencer → Sequencer) : (s.updSeq l f).seq = s.seq.upd l f := rfl
@[simp] theorem State.updSeq_drive (s : State) (l : LineId) (f : Sequencer → Sequencer) : (s.updSeq l f).drive = s.drive := rfl
@[simp] theorem State.updSeq_reg (s : State) (l : LineId) (f : Sequencer → Sequencer) : (s.updSeq l f).reg = s.reg := rfl
@[simp] theorem State.updSeq_tanks (s : State) (l : LineId) (f : Sequencer → Sequencer) : (s.updSeq l f).tanks = s.tanks := rfl
@[simp] theorem State.updSeq_currentTank (s : State) (l : LineId) (f : Sequencer → Sequencer) : (s.updSeq l f).currentTank = s.currentTank := rfl
@[simp] theorem State.updSeq_demand (s : State) (l : LineId) (f : Sequencer → Sequencer) : (s.updSeq l f).demand = s.demand := rfl
@[simp] theorem State.updSeq_holds (s : State) (l : LineId) (f : Sequencer → Sequencer) : (s.updSeq l f).holds = s.holds := rfl
@[simp] theorem State.updSeq_openRec (s : State) (l : LineId) (f : Sequencer → Sequencer) : (s.updSeq l f).openRec = s.openRec := rfl
@[simp] theorem State.updSeq_log (s : State) (l : LineId) (f : Sequencer → Sequencer) : (s.updSeq l f).log = s.log := rfl
@[simp] theorem State.updSeq_nextSeq (s : State) (l : LineId) (f : Sequencer → Sequencer) : (s.updSeq l f).nextSeq = s.nextSeq := rfl
@[simp] theorem State.updSeq_nextEntry (s : State) (l : LineId) (f : Sequencer → Sequencer) : (s.updSeq l f).nextEntry = s.nextEntry := rfl
@[simp] theorem State.updSeq_capture (s : State) (l : LineId) (f : Sequencer → Sequencer) : (s.updSeq l f).capture = s.capture := rfl
@[simp] theorem State.updSeq_port (s : State) (l : LineId) (f : Sequencer → Sequencer) : (s.updSeq l f).port = s.port := rfl
@[simp] theorem State.updSeq_lineTable (s : State) (l : LineId) (f : Sequencer → Sequencer) : (s.updSeq l f).lineTable = s.lineTable := rfl
@[simp] theorem State.updSeq_mixTable (s : State) (l : LineId) (f : Sequencer → Sequencer) : (s.updSeq l f).mixTable = s.mixTable := rfl
@[simp] theorem State.updSeq_bands (s : State) (l : LineId) (f : Sequencer → Sequencer) : (s.updSeq l f).bands = s.bands := rfl
@[simp] theorem State.updSeq_timing (s : State) (l : LineId) (f : Sequencer → Sequencer) : (s.updSeq l f).timing = s.timing := rfl
@[simp] theorem State.updSeq_envelope (s : State) (l : LineId) (f : Sequencer → Sequencer) : (s.updSeq l f).envelope = s.envelope := rfl
@[simp] theorem State.updSeq_ceiling (s : State) (l : LineId) (f : Sequencer → Sequencer) : (s.updSeq l f).ceiling = s.ceiling := rfl
@[simp] theorem State.updSeq_tankTable (s : State) (l : LineId) (f : Sequencer → Sequencer) : (s.updSeq l f).tankTable = s.tankTable := rfl
@[simp] theorem State.updSeq_clock (s : State) (l : LineId) (f : Sequencer → Sequencer) : (s.updSeq l f).clock = s.clock := rfl
@[simp] theorem State.updSeq_clockPhase (s : State) (l : LineId) (f : Sequencer → Sequencer) : (s.updSeq l f).clockPhase = s.clockPhase := rfl
@[simp] theorem State.updSeq_runSeconds (s : State) (l : LineId) (f : Sequencer → Sequencer) : (s.updSeq l f).runSeconds = s.runSeconds := rfl
@[simp] theorem State.updSeq_runPhase (s : State) (l : LineId) (f : Sequencer → Sequencer) : (s.updSeq l f).runPhase = s.runPhase := rfl
@[simp] theorem State.updSeq_resetAsserted (s : State) (l : LineId) (f : Sequencer → Sequencer) : (s.updSeq l f).resetAsserted = s.resetAsserted := rfl
@[simp] theorem State.updSeq_tellCount (s : State) (l : LineId) (f : Sequencer → Sequencer) : (s.updSeq l f).tellCount = s.tellCount := rfl
@[simp] theorem State.updSeq_cameDue (s : State) (l : LineId) (f : Sequencer → Sequencer) : (s.updSeq l f).cameDue = s.cameDue := rfl
@[simp] theorem State.updSeq_pending (s : State) (l : LineId) (f : Sequencer → Sequencer) : (s.updSeq l f).pending = s.pending := rfl

@[simp] theorem State.updDrive_seq (s : State) (l : LineId) (f : Drive → Drive) : (s.updDrive l f).seq = s.seq := rfl
@[simp] theorem State.updDrive_drive (s : State) (l : LineId) (f : Drive → Drive) : (s.updDrive l f).drive = s.drive.upd l f := rfl
@[simp] theorem State.updDrive_reg (s : State) (l : LineId) (f : Drive → Drive) : (s.updDrive l f).reg = s.reg := rfl
@[simp] theorem State.updDrive_tanks (s : State) (l : LineId) (f : Drive → Drive) : (s.updDrive l f).tanks = s.tanks := rfl
@[simp] theorem State.updDrive_currentTank (s : State) (l : LineId) (f : Drive → Drive) : (s.updDrive l f).currentTank = s.currentTank := rfl
@[simp] theorem State.updDrive_demand (s : State) (l : LineId) (f : Drive → Drive) : (s.updDrive l f).demand = s.demand := rfl
@[simp] theorem State.updDrive_holds (s : State) (l : LineId) (f : Drive → Drive) : (s.updDrive l f).holds = s.holds := rfl
@[simp] theorem State.updDrive_openRec (s : State) (l : LineId) (f : Drive → Drive) : (s.updDrive l f).openRec = s.openRec := rfl
@[simp] theorem State.updDrive_log (s : State) (l : LineId) (f : Drive → Drive) : (s.updDrive l f).log = s.log := rfl
@[simp] theorem State.updDrive_nextSeq (s : State) (l : LineId) (f : Drive → Drive) : (s.updDrive l f).nextSeq = s.nextSeq := rfl
@[simp] theorem State.updDrive_nextEntry (s : State) (l : LineId) (f : Drive → Drive) : (s.updDrive l f).nextEntry = s.nextEntry := rfl
@[simp] theorem State.updDrive_capture (s : State) (l : LineId) (f : Drive → Drive) : (s.updDrive l f).capture = s.capture := rfl
@[simp] theorem State.updDrive_port (s : State) (l : LineId) (f : Drive → Drive) : (s.updDrive l f).port = s.port := rfl
@[simp] theorem State.updDrive_lineTable (s : State) (l : LineId) (f : Drive → Drive) : (s.updDrive l f).lineTable = s.lineTable := rfl
@[simp] theorem State.updDrive_mixTable (s : State) (l : LineId) (f : Drive → Drive) : (s.updDrive l f).mixTable = s.mixTable := rfl
@[simp] theorem State.updDrive_bands (s : State) (l : LineId) (f : Drive → Drive) : (s.updDrive l f).bands = s.bands := rfl
@[simp] theorem State.updDrive_timing (s : State) (l : LineId) (f : Drive → Drive) : (s.updDrive l f).timing = s.timing := rfl
@[simp] theorem State.updDrive_envelope (s : State) (l : LineId) (f : Drive → Drive) : (s.updDrive l f).envelope = s.envelope := rfl
@[simp] theorem State.updDrive_ceiling (s : State) (l : LineId) (f : Drive → Drive) : (s.updDrive l f).ceiling = s.ceiling := rfl
@[simp] theorem State.updDrive_tankTable (s : State) (l : LineId) (f : Drive → Drive) : (s.updDrive l f).tankTable = s.tankTable := rfl
@[simp] theorem State.updDrive_clock (s : State) (l : LineId) (f : Drive → Drive) : (s.updDrive l f).clock = s.clock := rfl
@[simp] theorem State.updDrive_clockPhase (s : State) (l : LineId) (f : Drive → Drive) : (s.updDrive l f).clockPhase = s.clockPhase := rfl
@[simp] theorem State.updDrive_runSeconds (s : State) (l : LineId) (f : Drive → Drive) : (s.updDrive l f).runSeconds = s.runSeconds := rfl
@[simp] theorem State.updDrive_runPhase (s : State) (l : LineId) (f : Drive → Drive) : (s.updDrive l f).runPhase = s.runPhase := rfl
@[simp] theorem State.updDrive_resetAsserted (s : State) (l : LineId) (f : Drive → Drive) : (s.updDrive l f).resetAsserted = s.resetAsserted := rfl
@[simp] theorem State.updDrive_tellCount (s : State) (l : LineId) (f : Drive → Drive) : (s.updDrive l f).tellCount = s.tellCount := rfl
@[simp] theorem State.updDrive_cameDue (s : State) (l : LineId) (f : Drive → Drive) : (s.updDrive l f).cameDue = s.cameDue := rfl
@[simp] theorem State.updDrive_pending (s : State) (l : LineId) (f : Drive → Drive) : (s.updDrive l f).pending = s.pending := rfl

@[simp] theorem State.updReg_seq (s : State) (l : LineId) (f : Regulator → Regulator) : (s.updReg l f).seq = s.seq := rfl
@[simp] theorem State.updReg_drive (s : State) (l : LineId) (f : Regulator → Regulator) : (s.updReg l f).drive = s.drive := rfl
@[simp] theorem State.updReg_reg (s : State) (l : LineId) (f : Regulator → Regulator) : (s.updReg l f).reg = s.reg.upd l f := rfl
@[simp] theorem State.updReg_tanks (s : State) (l : LineId) (f : Regulator → Regulator) : (s.updReg l f).tanks = s.tanks := rfl
@[simp] theorem State.updReg_currentTank (s : State) (l : LineId) (f : Regulator → Regulator) : (s.updReg l f).currentTank = s.currentTank := rfl
@[simp] theorem State.updReg_demand (s : State) (l : LineId) (f : Regulator → Regulator) : (s.updReg l f).demand = s.demand := rfl
@[simp] theorem State.updReg_holds (s : State) (l : LineId) (f : Regulator → Regulator) : (s.updReg l f).holds = s.holds := rfl
@[simp] theorem State.updReg_openRec (s : State) (l : LineId) (f : Regulator → Regulator) : (s.updReg l f).openRec = s.openRec := rfl
@[simp] theorem State.updReg_log (s : State) (l : LineId) (f : Regulator → Regulator) : (s.updReg l f).log = s.log := rfl
@[simp] theorem State.updReg_nextSeq (s : State) (l : LineId) (f : Regulator → Regulator) : (s.updReg l f).nextSeq = s.nextSeq := rfl
@[simp] theorem State.updReg_nextEntry (s : State) (l : LineId) (f : Regulator → Regulator) : (s.updReg l f).nextEntry = s.nextEntry := rfl
@[simp] theorem State.updReg_capture (s : State) (l : LineId) (f : Regulator → Regulator) : (s.updReg l f).capture = s.capture := rfl
@[simp] theorem State.updReg_port (s : State) (l : LineId) (f : Regulator → Regulator) : (s.updReg l f).port = s.port := rfl
@[simp] theorem State.updReg_lineTable (s : State) (l : LineId) (f : Regulator → Regulator) : (s.updReg l f).lineTable = s.lineTable := rfl
@[simp] theorem State.updReg_mixTable (s : State) (l : LineId) (f : Regulator → Regulator) : (s.updReg l f).mixTable = s.mixTable := rfl
@[simp] theorem State.updReg_bands (s : State) (l : LineId) (f : Regulator → Regulator) : (s.updReg l f).bands = s.bands := rfl
@[simp] theorem State.updReg_timing (s : State) (l : LineId) (f : Regulator → Regulator) : (s.updReg l f).timing = s.timing := rfl
@[simp] theorem State.updReg_envelope (s : State) (l : LineId) (f : Regulator → Regulator) : (s.updReg l f).envelope = s.envelope := rfl
@[simp] theorem State.updReg_ceiling (s : State) (l : LineId) (f : Regulator → Regulator) : (s.updReg l f).ceiling = s.ceiling := rfl
@[simp] theorem State.updReg_tankTable (s : State) (l : LineId) (f : Regulator → Regulator) : (s.updReg l f).tankTable = s.tankTable := rfl
@[simp] theorem State.updReg_clock (s : State) (l : LineId) (f : Regulator → Regulator) : (s.updReg l f).clock = s.clock := rfl
@[simp] theorem State.updReg_clockPhase (s : State) (l : LineId) (f : Regulator → Regulator) : (s.updReg l f).clockPhase = s.clockPhase := rfl
@[simp] theorem State.updReg_runSeconds (s : State) (l : LineId) (f : Regulator → Regulator) : (s.updReg l f).runSeconds = s.runSeconds := rfl
@[simp] theorem State.updReg_runPhase (s : State) (l : LineId) (f : Regulator → Regulator) : (s.updReg l f).runPhase = s.runPhase := rfl
@[simp] theorem State.updReg_resetAsserted (s : State) (l : LineId) (f : Regulator → Regulator) : (s.updReg l f).resetAsserted = s.resetAsserted := rfl
@[simp] theorem State.updReg_tellCount (s : State) (l : LineId) (f : Regulator → Regulator) : (s.updReg l f).tellCount = s.tellCount := rfl
@[simp] theorem State.updReg_cameDue (s : State) (l : LineId) (f : Regulator → Regulator) : (s.updReg l f).cameDue = s.cameDue := rfl
@[simp] theorem State.updReg_pending (s : State) (l : LineId) (f : Regulator → Regulator) : (s.updReg l f).pending = s.pending := rfl

@[simp] theorem State.updTank_seq (s : State) (t : TankId) (f : Tank → Tank) : (s.updTank t f).seq = s.seq := rfl
@[simp] theorem State.updTank_drive (s : State) (t : TankId) (f : Tank → Tank) : (s.updTank t f).drive = s.drive := rfl
@[simp] theorem State.updTank_reg (s : State) (t : TankId) (f : Tank → Tank) : (s.updTank t f).reg = s.reg := rfl
@[simp] theorem State.updTank_tanks (s : State) (t : TankId) (f : Tank → Tank) : (s.updTank t f).tanks = s.tanks.upd t f := rfl
@[simp] theorem State.updTank_currentTank (s : State) (t : TankId) (f : Tank → Tank) : (s.updTank t f).currentTank = s.currentTank := rfl
@[simp] theorem State.updTank_demand (s : State) (t : TankId) (f : Tank → Tank) : (s.updTank t f).demand = s.demand := rfl
@[simp] theorem State.updTank_holds (s : State) (t : TankId) (f : Tank → Tank) : (s.updTank t f).holds = s.holds := rfl
@[simp] theorem State.updTank_openRec (s : State) (t : TankId) (f : Tank → Tank) : (s.updTank t f).openRec = s.openRec := rfl
@[simp] theorem State.updTank_log (s : State) (t : TankId) (f : Tank → Tank) : (s.updTank t f).log = s.log := rfl
@[simp] theorem State.updTank_nextSeq (s : State) (t : TankId) (f : Tank → Tank) : (s.updTank t f).nextSeq = s.nextSeq := rfl
@[simp] theorem State.updTank_nextEntry (s : State) (t : TankId) (f : Tank → Tank) : (s.updTank t f).nextEntry = s.nextEntry := rfl
@[simp] theorem State.updTank_capture (s : State) (t : TankId) (f : Tank → Tank) : (s.updTank t f).capture = s.capture := rfl
@[simp] theorem State.updTank_port (s : State) (t : TankId) (f : Tank → Tank) : (s.updTank t f).port = s.port := rfl
@[simp] theorem State.updTank_lineTable (s : State) (t : TankId) (f : Tank → Tank) : (s.updTank t f).lineTable = s.lineTable := rfl
@[simp] theorem State.updTank_mixTable (s : State) (t : TankId) (f : Tank → Tank) : (s.updTank t f).mixTable = s.mixTable := rfl
@[simp] theorem State.updTank_bands (s : State) (t : TankId) (f : Tank → Tank) : (s.updTank t f).bands = s.bands := rfl
@[simp] theorem State.updTank_timing (s : State) (t : TankId) (f : Tank → Tank) : (s.updTank t f).timing = s.timing := rfl
@[simp] theorem State.updTank_envelope (s : State) (t : TankId) (f : Tank → Tank) : (s.updTank t f).envelope = s.envelope := rfl
@[simp] theorem State.updTank_ceiling (s : State) (t : TankId) (f : Tank → Tank) : (s.updTank t f).ceiling = s.ceiling := rfl
@[simp] theorem State.updTank_tankTable (s : State) (t : TankId) (f : Tank → Tank) : (s.updTank t f).tankTable = s.tankTable := rfl
@[simp] theorem State.updTank_clock (s : State) (t : TankId) (f : Tank → Tank) : (s.updTank t f).clock = s.clock := rfl
@[simp] theorem State.updTank_clockPhase (s : State) (t : TankId) (f : Tank → Tank) : (s.updTank t f).clockPhase = s.clockPhase := rfl
@[simp] theorem State.updTank_runSeconds (s : State) (t : TankId) (f : Tank → Tank) : (s.updTank t f).runSeconds = s.runSeconds := rfl
@[simp] theorem State.updTank_runPhase (s : State) (t : TankId) (f : Tank → Tank) : (s.updTank t f).runPhase = s.runPhase := rfl
@[simp] theorem State.updTank_resetAsserted (s : State) (t : TankId) (f : Tank → Tank) : (s.updTank t f).resetAsserted = s.resetAsserted := rfl
@[simp] theorem State.updTank_tellCount (s : State) (t : TankId) (f : Tank → Tank) : (s.updTank t f).tellCount = s.tellCount := rfl
@[simp] theorem State.updTank_cameDue (s : State) (t : TankId) (f : Tank → Tank) : (s.updTank t f).cameDue = s.cameDue := rfl
@[simp] theorem State.updTank_pending (s : State) (t : TankId) (f : Tank → Tank) : (s.updTank t f).pending = s.pending := rfl

@[simp] theorem State.updRec_seq (s : State) (l : LineId) (f : Record → Record) : (s.updRec l f).seq = s.seq := rfl
@[simp] theorem State.updRec_drive (s : State) (l : LineId) (f : Record → Record) : (s.updRec l f).drive = s.drive := rfl
@[simp] theorem State.updRec_reg (s : State) (l : LineId) (f : Record → Record) : (s.updRec l f).reg = s.reg := rfl
@[simp] theorem State.updRec_tanks (s : State) (l : LineId) (f : Record → Record) : (s.updRec l f).tanks = s.tanks := rfl
@[simp] theorem State.updRec_currentTank (s : State) (l : LineId) (f : Record → Record) : (s.updRec l f).currentTank = s.currentTank := rfl
@[simp] theorem State.updRec_demand (s : State) (l : LineId) (f : Record → Record) : (s.updRec l f).demand = s.demand := rfl
@[simp] theorem State.updRec_holds (s : State) (l : LineId) (f : Record → Record) : (s.updRec l f).holds = s.holds := rfl
@[simp] theorem State.updRec_openRec (s : State) (l : LineId) (f : Record → Record) : (s.updRec l f).openRec = s.openRec.upd l (Option.map f) := rfl
@[simp] theorem State.updRec_log (s : State) (l : LineId) (f : Record → Record) : (s.updRec l f).log = s.log := rfl
@[simp] theorem State.updRec_nextSeq (s : State) (l : LineId) (f : Record → Record) : (s.updRec l f).nextSeq = s.nextSeq := rfl
@[simp] theorem State.updRec_nextEntry (s : State) (l : LineId) (f : Record → Record) : (s.updRec l f).nextEntry = s.nextEntry := rfl
@[simp] theorem State.updRec_capture (s : State) (l : LineId) (f : Record → Record) : (s.updRec l f).capture = s.capture := rfl
@[simp] theorem State.updRec_port (s : State) (l : LineId) (f : Record → Record) : (s.updRec l f).port = s.port := rfl
@[simp] theorem State.updRec_lineTable (s : State) (l : LineId) (f : Record → Record) : (s.updRec l f).lineTable = s.lineTable := rfl
@[simp] theorem State.updRec_mixTable (s : State) (l : LineId) (f : Record → Record) : (s.updRec l f).mixTable = s.mixTable := rfl
@[simp] theorem State.updRec_bands (s : State) (l : LineId) (f : Record → Record) : (s.updRec l f).bands = s.bands := rfl
@[simp] theorem State.updRec_timing (s : State) (l : LineId) (f : Record → Record) : (s.updRec l f).timing = s.timing := rfl
@[simp] theorem State.updRec_envelope (s : State) (l : LineId) (f : Record → Record) : (s.updRec l f).envelope = s.envelope := rfl
@[simp] theorem State.updRec_ceiling (s : State) (l : LineId) (f : Record → Record) : (s.updRec l f).ceiling = s.ceiling := rfl
@[simp] theorem State.updRec_tankTable (s : State) (l : LineId) (f : Record → Record) : (s.updRec l f).tankTable = s.tankTable := rfl
@[simp] theorem State.updRec_clock (s : State) (l : LineId) (f : Record → Record) : (s.updRec l f).clock = s.clock := rfl
@[simp] theorem State.updRec_clockPhase (s : State) (l : LineId) (f : Record → Record) : (s.updRec l f).clockPhase = s.clockPhase := rfl
@[simp] theorem State.updRec_runSeconds (s : State) (l : LineId) (f : Record → Record) : (s.updRec l f).runSeconds = s.runSeconds := rfl
@[simp] theorem State.updRec_runPhase (s : State) (l : LineId) (f : Record → Record) : (s.updRec l f).runPhase = s.runPhase := rfl
@[simp] theorem State.updRec_resetAsserted (s : State) (l : LineId) (f : Record → Record) : (s.updRec l f).resetAsserted = s.resetAsserted := rfl
@[simp] theorem State.updRec_tellCount (s : State) (l : LineId) (f : Record → Record) : (s.updRec l f).tellCount = s.tellCount := rfl
@[simp] theorem State.updRec_cameDue (s : State) (l : LineId) (f : Record → Record) : (s.updRec l f).cameDue = s.cameDue := rfl
@[simp] theorem State.updRec_pending (s : State) (l : LineId) (f : Record → Record) : (s.updRec l f).pending = s.pending := rfl

@[simp] theorem State.updPort_seq (s : State) (p : Port) (f : PortState → PortState) : (s.updPort p f).seq = s.seq := rfl
@[simp] theorem State.updPort_drive (s : State) (p : Port) (f : PortState → PortState) : (s.updPort p f).drive = s.drive := rfl
@[simp] theorem State.updPort_reg (s : State) (p : Port) (f : PortState → PortState) : (s.updPort p f).reg = s.reg := rfl
@[simp] theorem State.updPort_tanks (s : State) (p : Port) (f : PortState → PortState) : (s.updPort p f).tanks = s.tanks := rfl
@[simp] theorem State.updPort_currentTank (s : State) (p : Port) (f : PortState → PortState) : (s.updPort p f).currentTank = s.currentTank := rfl
@[simp] theorem State.updPort_demand (s : State) (p : Port) (f : PortState → PortState) : (s.updPort p f).demand = s.demand := rfl
@[simp] theorem State.updPort_holds (s : State) (p : Port) (f : PortState → PortState) : (s.updPort p f).holds = s.holds := rfl
@[simp] theorem State.updPort_openRec (s : State) (p : Port) (f : PortState → PortState) : (s.updPort p f).openRec = s.openRec := rfl
@[simp] theorem State.updPort_log (s : State) (p : Port) (f : PortState → PortState) : (s.updPort p f).log = s.log := rfl
@[simp] theorem State.updPort_nextSeq (s : State) (p : Port) (f : PortState → PortState) : (s.updPort p f).nextSeq = s.nextSeq := rfl
@[simp] theorem State.updPort_nextEntry (s : State) (p : Port) (f : PortState → PortState) : (s.updPort p f).nextEntry = s.nextEntry := rfl
@[simp] theorem State.updPort_capture (s : State) (p : Port) (f : PortState → PortState) : (s.updPort p f).capture = s.capture := rfl
@[simp] theorem State.updPort_port (s : State) (p : Port) (f : PortState → PortState) : (s.updPort p f).port = s.port.upd p f := rfl
@[simp] theorem State.updPort_lineTable (s : State) (p : Port) (f : PortState → PortState) : (s.updPort p f).lineTable = s.lineTable := rfl
@[simp] theorem State.updPort_mixTable (s : State) (p : Port) (f : PortState → PortState) : (s.updPort p f).mixTable = s.mixTable := rfl
@[simp] theorem State.updPort_bands (s : State) (p : Port) (f : PortState → PortState) : (s.updPort p f).bands = s.bands := rfl
@[simp] theorem State.updPort_timing (s : State) (p : Port) (f : PortState → PortState) : (s.updPort p f).timing = s.timing := rfl
@[simp] theorem State.updPort_envelope (s : State) (p : Port) (f : PortState → PortState) : (s.updPort p f).envelope = s.envelope := rfl
@[simp] theorem State.updPort_ceiling (s : State) (p : Port) (f : PortState → PortState) : (s.updPort p f).ceiling = s.ceiling := rfl
@[simp] theorem State.updPort_tankTable (s : State) (p : Port) (f : PortState → PortState) : (s.updPort p f).tankTable = s.tankTable := rfl
@[simp] theorem State.updPort_clock (s : State) (p : Port) (f : PortState → PortState) : (s.updPort p f).clock = s.clock := rfl
@[simp] theorem State.updPort_clockPhase (s : State) (p : Port) (f : PortState → PortState) : (s.updPort p f).clockPhase = s.clockPhase := rfl
@[simp] theorem State.updPort_runSeconds (s : State) (p : Port) (f : PortState → PortState) : (s.updPort p f).runSeconds = s.runSeconds := rfl
@[simp] theorem State.updPort_runPhase (s : State) (p : Port) (f : PortState → PortState) : (s.updPort p f).runPhase = s.runPhase := rfl
@[simp] theorem State.updPort_resetAsserted (s : State) (p : Port) (f : PortState → PortState) : (s.updPort p f).resetAsserted = s.resetAsserted := rfl
@[simp] theorem State.updPort_tellCount (s : State) (p : Port) (f : PortState → PortState) : (s.updPort p f).tellCount = s.tellCount := rfl
@[simp] theorem State.updPort_cameDue (s : State) (p : Port) (f : PortState → PortState) : (s.updPort p f).cameDue = s.cameDue := rfl
@[simp] theorem State.updPort_pending (s : State) (p : Port) (f : PortState → PortState) : (s.updPort p f).pending = s.pending := rfl

@[simp] theorem State.setCurrentTank_seq (s : State) (l : LineId) (t : Option TankId) : (s.setCurrentTank l t).seq = s.seq := rfl
@[simp] theorem State.setCurrentTank_drive (s : State) (l : LineId) (t : Option TankId) : (s.setCurrentTank l t).drive = s.drive := rfl
@[simp] theorem State.setCurrentTank_reg (s : State) (l : LineId) (t : Option TankId) : (s.setCurrentTank l t).reg = s.reg := rfl
@[simp] theorem State.setCurrentTank_tanks (s : State) (l : LineId) (t : Option TankId) : (s.setCurrentTank l t).tanks = s.tanks := rfl
@[simp] theorem State.setCurrentTank_currentTank (s : State) (l : LineId) (t : Option TankId) : (s.setCurrentTank l t).currentTank = s.currentTank.set l t := rfl
@[simp] theorem State.setCurrentTank_demand (s : State) (l : LineId) (t : Option TankId) : (s.setCurrentTank l t).demand = s.demand := rfl
@[simp] theorem State.setCurrentTank_holds (s : State) (l : LineId) (t : Option TankId) : (s.setCurrentTank l t).holds = s.holds := rfl
@[simp] theorem State.setCurrentTank_openRec (s : State) (l : LineId) (t : Option TankId) : (s.setCurrentTank l t).openRec = s.openRec := rfl
@[simp] theorem State.setCurrentTank_log (s : State) (l : LineId) (t : Option TankId) : (s.setCurrentTank l t).log = s.log := rfl
@[simp] theorem State.setCurrentTank_nextSeq (s : State) (l : LineId) (t : Option TankId) : (s.setCurrentTank l t).nextSeq = s.nextSeq := rfl
@[simp] theorem State.setCurrentTank_nextEntry (s : State) (l : LineId) (t : Option TankId) : (s.setCurrentTank l t).nextEntry = s.nextEntry := rfl
@[simp] theorem State.setCurrentTank_capture (s : State) (l : LineId) (t : Option TankId) : (s.setCurrentTank l t).capture = s.capture := rfl
@[simp] theorem State.setCurrentTank_port (s : State) (l : LineId) (t : Option TankId) : (s.setCurrentTank l t).port = s.port := rfl
@[simp] theorem State.setCurrentTank_lineTable (s : State) (l : LineId) (t : Option TankId) : (s.setCurrentTank l t).lineTable = s.lineTable := rfl
@[simp] theorem State.setCurrentTank_mixTable (s : State) (l : LineId) (t : Option TankId) : (s.setCurrentTank l t).mixTable = s.mixTable := rfl
@[simp] theorem State.setCurrentTank_bands (s : State) (l : LineId) (t : Option TankId) : (s.setCurrentTank l t).bands = s.bands := rfl
@[simp] theorem State.setCurrentTank_timing (s : State) (l : LineId) (t : Option TankId) : (s.setCurrentTank l t).timing = s.timing := rfl
@[simp] theorem State.setCurrentTank_envelope (s : State) (l : LineId) (t : Option TankId) : (s.setCurrentTank l t).envelope = s.envelope := rfl
@[simp] theorem State.setCurrentTank_ceiling (s : State) (l : LineId) (t : Option TankId) : (s.setCurrentTank l t).ceiling = s.ceiling := rfl
@[simp] theorem State.setCurrentTank_tankTable (s : State) (l : LineId) (t : Option TankId) : (s.setCurrentTank l t).tankTable = s.tankTable := rfl
@[simp] theorem State.setCurrentTank_clock (s : State) (l : LineId) (t : Option TankId) : (s.setCurrentTank l t).clock = s.clock := rfl
@[simp] theorem State.setCurrentTank_clockPhase (s : State) (l : LineId) (t : Option TankId) : (s.setCurrentTank l t).clockPhase = s.clockPhase := rfl
@[simp] theorem State.setCurrentTank_runSeconds (s : State) (l : LineId) (t : Option TankId) : (s.setCurrentTank l t).runSeconds = s.runSeconds := rfl
@[simp] theorem State.setCurrentTank_runPhase (s : State) (l : LineId) (t : Option TankId) : (s.setCurrentTank l t).runPhase = s.runPhase := rfl
@[simp] theorem State.setCurrentTank_resetAsserted (s : State) (l : LineId) (t : Option TankId) : (s.setCurrentTank l t).resetAsserted = s.resetAsserted := rfl
@[simp] theorem State.setCurrentTank_tellCount (s : State) (l : LineId) (t : Option TankId) : (s.setCurrentTank l t).tellCount = s.tellCount := rfl
@[simp] theorem State.setCurrentTank_cameDue (s : State) (l : LineId) (t : Option TankId) : (s.setCurrentTank l t).cameDue = s.cameDue := rfl
@[simp] theorem State.setCurrentTank_pending (s : State) (l : LineId) (t : Option TankId) : (s.setCurrentTank l t).pending = s.pending := rfl

@[simp] theorem State.setDemand_seq (s : State) (q : List DemandEntry) : (s.setDemand q).seq = s.seq := rfl
@[simp] theorem State.setDemand_drive (s : State) (q : List DemandEntry) : (s.setDemand q).drive = s.drive := rfl
@[simp] theorem State.setDemand_reg (s : State) (q : List DemandEntry) : (s.setDemand q).reg = s.reg := rfl
@[simp] theorem State.setDemand_tanks (s : State) (q : List DemandEntry) : (s.setDemand q).tanks = s.tanks := rfl
@[simp] theorem State.setDemand_currentTank (s : State) (q : List DemandEntry) : (s.setDemand q).currentTank = s.currentTank := rfl
@[simp] theorem State.setDemand_demand (s : State) (q : List DemandEntry) : (s.setDemand q).demand = q := rfl
@[simp] theorem State.setDemand_holds (s : State) (q : List DemandEntry) : (s.setDemand q).holds = s.holds := rfl
@[simp] theorem State.setDemand_openRec (s : State) (q : List DemandEntry) : (s.setDemand q).openRec = s.openRec := rfl
@[simp] theorem State.setDemand_log (s : State) (q : List DemandEntry) : (s.setDemand q).log = s.log := rfl
@[simp] theorem State.setDemand_nextSeq (s : State) (q : List DemandEntry) : (s.setDemand q).nextSeq = s.nextSeq := rfl
@[simp] theorem State.setDemand_nextEntry (s : State) (q : List DemandEntry) : (s.setDemand q).nextEntry = s.nextEntry := rfl
@[simp] theorem State.setDemand_capture (s : State) (q : List DemandEntry) : (s.setDemand q).capture = s.capture := rfl
@[simp] theorem State.setDemand_port (s : State) (q : List DemandEntry) : (s.setDemand q).port = s.port := rfl
@[simp] theorem State.setDemand_lineTable (s : State) (q : List DemandEntry) : (s.setDemand q).lineTable = s.lineTable := rfl
@[simp] theorem State.setDemand_mixTable (s : State) (q : List DemandEntry) : (s.setDemand q).mixTable = s.mixTable := rfl
@[simp] theorem State.setDemand_bands (s : State) (q : List DemandEntry) : (s.setDemand q).bands = s.bands := rfl
@[simp] theorem State.setDemand_timing (s : State) (q : List DemandEntry) : (s.setDemand q).timing = s.timing := rfl
@[simp] theorem State.setDemand_envelope (s : State) (q : List DemandEntry) : (s.setDemand q).envelope = s.envelope := rfl
@[simp] theorem State.setDemand_ceiling (s : State) (q : List DemandEntry) : (s.setDemand q).ceiling = s.ceiling := rfl
@[simp] theorem State.setDemand_tankTable (s : State) (q : List DemandEntry) : (s.setDemand q).tankTable = s.tankTable := rfl
@[simp] theorem State.setDemand_clock (s : State) (q : List DemandEntry) : (s.setDemand q).clock = s.clock := rfl
@[simp] theorem State.setDemand_clockPhase (s : State) (q : List DemandEntry) : (s.setDemand q).clockPhase = s.clockPhase := rfl
@[simp] theorem State.setDemand_runSeconds (s : State) (q : List DemandEntry) : (s.setDemand q).runSeconds = s.runSeconds := rfl
@[simp] theorem State.setDemand_runPhase (s : State) (q : List DemandEntry) : (s.setDemand q).runPhase = s.runPhase := rfl
@[simp] theorem State.setDemand_resetAsserted (s : State) (q : List DemandEntry) : (s.setDemand q).resetAsserted = s.resetAsserted := rfl
@[simp] theorem State.setDemand_tellCount (s : State) (q : List DemandEntry) : (s.setDemand q).tellCount = s.tellCount := rfl
@[simp] theorem State.setDemand_cameDue (s : State) (q : List DemandEntry) : (s.setDemand q).cameDue = s.cameDue := rfl
@[simp] theorem State.setDemand_pending (s : State) (q : List DemandEntry) : (s.setDemand q).pending = s.pending := rfl

@[simp] theorem State.latchOn_seq (s : State) (p : Port) (e : Event) : (s.latchOn p e).seq = s.seq := rfl
@[simp] theorem State.latchOn_drive (s : State) (p : Port) (e : Event) : (s.latchOn p e).drive = s.drive := rfl
@[simp] theorem State.latchOn_reg (s : State) (p : Port) (e : Event) : (s.latchOn p e).reg = s.reg := rfl
@[simp] theorem State.latchOn_tanks (s : State) (p : Port) (e : Event) : (s.latchOn p e).tanks = s.tanks := rfl
@[simp] theorem State.latchOn_currentTank (s : State) (p : Port) (e : Event) : (s.latchOn p e).currentTank = s.currentTank := rfl
@[simp] theorem State.latchOn_demand (s : State) (p : Port) (e : Event) : (s.latchOn p e).demand = s.demand := rfl
@[simp] theorem State.latchOn_holds (s : State) (p : Port) (e : Event) : (s.latchOn p e).holds = s.holds := rfl
@[simp] theorem State.latchOn_openRec (s : State) (p : Port) (e : Event) : (s.latchOn p e).openRec = s.openRec := rfl
@[simp] theorem State.latchOn_log (s : State) (p : Port) (e : Event) : (s.latchOn p e).log = s.log := rfl
@[simp] theorem State.latchOn_nextSeq (s : State) (p : Port) (e : Event) : (s.latchOn p e).nextSeq = s.nextSeq := rfl
@[simp] theorem State.latchOn_nextEntry (s : State) (p : Port) (e : Event) : (s.latchOn p e).nextEntry = s.nextEntry := rfl
@[simp] theorem State.latchOn_capture (s : State) (p : Port) (e : Event) : (s.latchOn p e).capture = s.capture := rfl
@[simp] theorem State.latchOn_port (s : State) (p : Port) (e : Event) : (s.latchOn p e).port = s.port.upd p (·.latch e) := rfl
@[simp] theorem State.latchOn_lineTable (s : State) (p : Port) (e : Event) : (s.latchOn p e).lineTable = s.lineTable := rfl
@[simp] theorem State.latchOn_mixTable (s : State) (p : Port) (e : Event) : (s.latchOn p e).mixTable = s.mixTable := rfl
@[simp] theorem State.latchOn_bands (s : State) (p : Port) (e : Event) : (s.latchOn p e).bands = s.bands := rfl
@[simp] theorem State.latchOn_timing (s : State) (p : Port) (e : Event) : (s.latchOn p e).timing = s.timing := rfl
@[simp] theorem State.latchOn_envelope (s : State) (p : Port) (e : Event) : (s.latchOn p e).envelope = s.envelope := rfl
@[simp] theorem State.latchOn_ceiling (s : State) (p : Port) (e : Event) : (s.latchOn p e).ceiling = s.ceiling := rfl
@[simp] theorem State.latchOn_tankTable (s : State) (p : Port) (e : Event) : (s.latchOn p e).tankTable = s.tankTable := rfl
@[simp] theorem State.latchOn_clock (s : State) (p : Port) (e : Event) : (s.latchOn p e).clock = s.clock := rfl
@[simp] theorem State.latchOn_clockPhase (s : State) (p : Port) (e : Event) : (s.latchOn p e).clockPhase = s.clockPhase := rfl
@[simp] theorem State.latchOn_runSeconds (s : State) (p : Port) (e : Event) : (s.latchOn p e).runSeconds = s.runSeconds := rfl
@[simp] theorem State.latchOn_runPhase (s : State) (p : Port) (e : Event) : (s.latchOn p e).runPhase = s.runPhase := rfl
@[simp] theorem State.latchOn_resetAsserted (s : State) (p : Port) (e : Event) : (s.latchOn p e).resetAsserted = s.resetAsserted := rfl
@[simp] theorem State.latchOn_tellCount (s : State) (p : Port) (e : Event) : (s.latchOn p e).tellCount = s.tellCount := rfl
@[simp] theorem State.latchOn_cameDue (s : State) (p : Port) (e : Event) : (s.latchOn p e).cameDue = s.cameDue := rfl
@[simp] theorem State.latchOn_pending (s : State) (p : Port) (e : Event) : (s.latchOn p e).pending = s.pending := rfl

@[simp] theorem State.latchAll_seq (s : State) (e : Event) : (s.latchAll e).seq = s.seq := rfl
@[simp] theorem State.latchAll_drive (s : State) (e : Event) : (s.latchAll e).drive = s.drive := rfl
@[simp] theorem State.latchAll_reg (s : State) (e : Event) : (s.latchAll e).reg = s.reg := rfl
@[simp] theorem State.latchAll_tanks (s : State) (e : Event) : (s.latchAll e).tanks = s.tanks := rfl
@[simp] theorem State.latchAll_currentTank (s : State) (e : Event) : (s.latchAll e).currentTank = s.currentTank := rfl
@[simp] theorem State.latchAll_demand (s : State) (e : Event) : (s.latchAll e).demand = s.demand := rfl
@[simp] theorem State.latchAll_holds (s : State) (e : Event) : (s.latchAll e).holds = s.holds := rfl
@[simp] theorem State.latchAll_openRec (s : State) (e : Event) : (s.latchAll e).openRec = s.openRec := rfl
@[simp] theorem State.latchAll_log (s : State) (e : Event) : (s.latchAll e).log = s.log := rfl
@[simp] theorem State.latchAll_nextSeq (s : State) (e : Event) : (s.latchAll e).nextSeq = s.nextSeq := rfl
@[simp] theorem State.latchAll_nextEntry (s : State) (e : Event) : (s.latchAll e).nextEntry = s.nextEntry := rfl
@[simp] theorem State.latchAll_capture (s : State) (e : Event) : (s.latchAll e).capture = s.capture := rfl
@[simp] theorem State.latchAll_port (s : State) (e : Event) : (s.latchAll e).port = s.port.mapIdx fun _ q => q.latch e := rfl
@[simp] theorem State.latchAll_lineTable (s : State) (e : Event) : (s.latchAll e).lineTable = s.lineTable := rfl
@[simp] theorem State.latchAll_mixTable (s : State) (e : Event) : (s.latchAll e).mixTable = s.mixTable := rfl
@[simp] theorem State.latchAll_bands (s : State) (e : Event) : (s.latchAll e).bands = s.bands := rfl
@[simp] theorem State.latchAll_timing (s : State) (e : Event) : (s.latchAll e).timing = s.timing := rfl
@[simp] theorem State.latchAll_envelope (s : State) (e : Event) : (s.latchAll e).envelope = s.envelope := rfl
@[simp] theorem State.latchAll_ceiling (s : State) (e : Event) : (s.latchAll e).ceiling = s.ceiling := rfl
@[simp] theorem State.latchAll_tankTable (s : State) (e : Event) : (s.latchAll e).tankTable = s.tankTable := rfl
@[simp] theorem State.latchAll_clock (s : State) (e : Event) : (s.latchAll e).clock = s.clock := rfl
@[simp] theorem State.latchAll_clockPhase (s : State) (e : Event) : (s.latchAll e).clockPhase = s.clockPhase := rfl
@[simp] theorem State.latchAll_runSeconds (s : State) (e : Event) : (s.latchAll e).runSeconds = s.runSeconds := rfl
@[simp] theorem State.latchAll_runPhase (s : State) (e : Event) : (s.latchAll e).runPhase = s.runPhase := rfl
@[simp] theorem State.latchAll_resetAsserted (s : State) (e : Event) : (s.latchAll e).resetAsserted = s.resetAsserted := rfl
@[simp] theorem State.latchAll_tellCount (s : State) (e : Event) : (s.latchAll e).tellCount = s.tellCount := rfl
@[simp] theorem State.latchAll_cameDue (s : State) (e : Event) : (s.latchAll e).cameDue = s.cameDue := rfl
@[simp] theorem State.latchAll_pending (s : State) (e : Event) : (s.latchAll e).pending = s.pending := rfl

@[simp] theorem State.latchOthers_seq (s : State) (p : Port) (e : Event) : (s.latchOthers p e).seq = s.seq := rfl
@[simp] theorem State.latchOthers_drive (s : State) (p : Port) (e : Event) : (s.latchOthers p e).drive = s.drive := rfl
@[simp] theorem State.latchOthers_reg (s : State) (p : Port) (e : Event) : (s.latchOthers p e).reg = s.reg := rfl
@[simp] theorem State.latchOthers_tanks (s : State) (p : Port) (e : Event) : (s.latchOthers p e).tanks = s.tanks := rfl
@[simp] theorem State.latchOthers_currentTank (s : State) (p : Port) (e : Event) : (s.latchOthers p e).currentTank = s.currentTank := rfl
@[simp] theorem State.latchOthers_demand (s : State) (p : Port) (e : Event) : (s.latchOthers p e).demand = s.demand := rfl
@[simp] theorem State.latchOthers_holds (s : State) (p : Port) (e : Event) : (s.latchOthers p e).holds = s.holds := rfl
@[simp] theorem State.latchOthers_openRec (s : State) (p : Port) (e : Event) : (s.latchOthers p e).openRec = s.openRec := rfl
@[simp] theorem State.latchOthers_log (s : State) (p : Port) (e : Event) : (s.latchOthers p e).log = s.log := rfl
@[simp] theorem State.latchOthers_nextSeq (s : State) (p : Port) (e : Event) : (s.latchOthers p e).nextSeq = s.nextSeq := rfl
@[simp] theorem State.latchOthers_nextEntry (s : State) (p : Port) (e : Event) : (s.latchOthers p e).nextEntry = s.nextEntry := rfl
@[simp] theorem State.latchOthers_capture (s : State) (p : Port) (e : Event) : (s.latchOthers p e).capture = s.capture := rfl
@[simp] theorem State.latchOthers_port (s : State) (p : Port) (e : Event) : (s.latchOthers p e).port = s.port.mapIdx fun i q => if i = p then q else q.latch e := rfl
@[simp] theorem State.latchOthers_lineTable (s : State) (p : Port) (e : Event) : (s.latchOthers p e).lineTable = s.lineTable := rfl
@[simp] theorem State.latchOthers_mixTable (s : State) (p : Port) (e : Event) : (s.latchOthers p e).mixTable = s.mixTable := rfl
@[simp] theorem State.latchOthers_bands (s : State) (p : Port) (e : Event) : (s.latchOthers p e).bands = s.bands := rfl
@[simp] theorem State.latchOthers_timing (s : State) (p : Port) (e : Event) : (s.latchOthers p e).timing = s.timing := rfl
@[simp] theorem State.latchOthers_envelope (s : State) (p : Port) (e : Event) : (s.latchOthers p e).envelope = s.envelope := rfl
@[simp] theorem State.latchOthers_ceiling (s : State) (p : Port) (e : Event) : (s.latchOthers p e).ceiling = s.ceiling := rfl
@[simp] theorem State.latchOthers_tankTable (s : State) (p : Port) (e : Event) : (s.latchOthers p e).tankTable = s.tankTable := rfl
@[simp] theorem State.latchOthers_clock (s : State) (p : Port) (e : Event) : (s.latchOthers p e).clock = s.clock := rfl
@[simp] theorem State.latchOthers_clockPhase (s : State) (p : Port) (e : Event) : (s.latchOthers p e).clockPhase = s.clockPhase := rfl
@[simp] theorem State.latchOthers_runSeconds (s : State) (p : Port) (e : Event) : (s.latchOthers p e).runSeconds = s.runSeconds := rfl
@[simp] theorem State.latchOthers_runPhase (s : State) (p : Port) (e : Event) : (s.latchOthers p e).runPhase = s.runPhase := rfl
@[simp] theorem State.latchOthers_resetAsserted (s : State) (p : Port) (e : Event) : (s.latchOthers p e).resetAsserted = s.resetAsserted := rfl
@[simp] theorem State.latchOthers_tellCount (s : State) (p : Port) (e : Event) : (s.latchOthers p e).tellCount = s.tellCount := rfl
@[simp] theorem State.latchOthers_cameDue (s : State) (p : Port) (e : Event) : (s.latchOthers p e).cameDue = s.cameDue := rfl
@[simp] theorem State.latchOthers_pending (s : State) (p : Port) (e : Event) : (s.latchOthers p e).pending = s.pending := rfl

@[simp] theorem State.latchUnless_seq (s : State) (quiet : Bool) (e : Event) :
    (s.latchUnless quiet e).seq = s.seq := by
  unfold State.latchUnless; split <;> rfl
@[simp] theorem State.latchUnless_drive (s : State) (quiet : Bool) (e : Event) :
    (s.latchUnless quiet e).drive = s.drive := by
  unfold State.latchUnless; split <;> rfl
@[simp] theorem State.latchUnless_reg (s : State) (quiet : Bool) (e : Event) :
    (s.latchUnless quiet e).reg = s.reg := by
  unfold State.latchUnless; split <;> rfl
@[simp] theorem State.latchUnless_tanks (s : State) (quiet : Bool) (e : Event) :
    (s.latchUnless quiet e).tanks = s.tanks := by
  unfold State.latchUnless; split <;> rfl
@[simp] theorem State.latchUnless_currentTank (s : State) (quiet : Bool) (e : Event) :
    (s.latchUnless quiet e).currentTank = s.currentTank := by
  unfold State.latchUnless; split <;> rfl
@[simp] theorem State.latchUnless_demand (s : State) (quiet : Bool) (e : Event) :
    (s.latchUnless quiet e).demand = s.demand := by
  unfold State.latchUnless; split <;> rfl
@[simp] theorem State.latchUnless_holds (s : State) (quiet : Bool) (e : Event) :
    (s.latchUnless quiet e).holds = s.holds := by
  unfold State.latchUnless; split <;> rfl
@[simp] theorem State.latchUnless_openRec (s : State) (quiet : Bool) (e : Event) :
    (s.latchUnless quiet e).openRec = s.openRec := by
  unfold State.latchUnless; split <;> rfl
@[simp] theorem State.latchUnless_log (s : State) (quiet : Bool) (e : Event) :
    (s.latchUnless quiet e).log = s.log := by
  unfold State.latchUnless; split <;> rfl
@[simp] theorem State.latchUnless_nextSeq (s : State) (quiet : Bool) (e : Event) :
    (s.latchUnless quiet e).nextSeq = s.nextSeq := by
  unfold State.latchUnless; split <;> rfl
@[simp] theorem State.latchUnless_nextEntry (s : State) (quiet : Bool) (e : Event) :
    (s.latchUnless quiet e).nextEntry = s.nextEntry := by
  unfold State.latchUnless; split <;> rfl
@[simp] theorem State.latchUnless_capture (s : State) (quiet : Bool) (e : Event) :
    (s.latchUnless quiet e).capture = s.capture := by
  unfold State.latchUnless; split <;> rfl
@[simp] theorem State.latchUnless_lineTable (s : State) (quiet : Bool) (e : Event) :
    (s.latchUnless quiet e).lineTable = s.lineTable := by
  unfold State.latchUnless; split <;> rfl
@[simp] theorem State.latchUnless_mixTable (s : State) (quiet : Bool) (e : Event) :
    (s.latchUnless quiet e).mixTable = s.mixTable := by
  unfold State.latchUnless; split <;> rfl
@[simp] theorem State.latchUnless_bands (s : State) (quiet : Bool) (e : Event) :
    (s.latchUnless quiet e).bands = s.bands := by
  unfold State.latchUnless; split <;> rfl
@[simp] theorem State.latchUnless_timing (s : State) (quiet : Bool) (e : Event) :
    (s.latchUnless quiet e).timing = s.timing := by
  unfold State.latchUnless; split <;> rfl
@[simp] theorem State.latchUnless_envelope (s : State) (quiet : Bool) (e : Event) :
    (s.latchUnless quiet e).envelope = s.envelope := by
  unfold State.latchUnless; split <;> rfl
@[simp] theorem State.latchUnless_ceiling (s : State) (quiet : Bool) (e : Event) :
    (s.latchUnless quiet e).ceiling = s.ceiling := by
  unfold State.latchUnless; split <;> rfl
@[simp] theorem State.latchUnless_tankTable (s : State) (quiet : Bool) (e : Event) :
    (s.latchUnless quiet e).tankTable = s.tankTable := by
  unfold State.latchUnless; split <;> rfl
@[simp] theorem State.latchUnless_clock (s : State) (quiet : Bool) (e : Event) :
    (s.latchUnless quiet e).clock = s.clock := by
  unfold State.latchUnless; split <;> rfl
@[simp] theorem State.latchUnless_clockPhase (s : State) (quiet : Bool) (e : Event) :
    (s.latchUnless quiet e).clockPhase = s.clockPhase := by
  unfold State.latchUnless; split <;> rfl
@[simp] theorem State.latchUnless_runSeconds (s : State) (quiet : Bool) (e : Event) :
    (s.latchUnless quiet e).runSeconds = s.runSeconds := by
  unfold State.latchUnless; split <;> rfl
@[simp] theorem State.latchUnless_runPhase (s : State) (quiet : Bool) (e : Event) :
    (s.latchUnless quiet e).runPhase = s.runPhase := by
  unfold State.latchUnless; split <;> rfl
@[simp] theorem State.latchUnless_resetAsserted (s : State) (quiet : Bool) (e : Event) :
    (s.latchUnless quiet e).resetAsserted = s.resetAsserted := by
  unfold State.latchUnless; split <;> rfl
@[simp] theorem State.latchUnless_tellCount (s : State) (quiet : Bool) (e : Event) :
    (s.latchUnless quiet e).tellCount = s.tellCount := by
  unfold State.latchUnless; split <;> rfl
@[simp] theorem State.latchUnless_cameDue (s : State) (quiet : Bool) (e : Event) :
    (s.latchUnless quiet e).cameDue = s.cameDue := by
  unfold State.latchUnless; split <;> rfl
@[simp] theorem State.latchUnless_pending (s : State) (quiet : Bool) (e : Event) :
    (s.latchUnless quiet e).pending = s.pending := by
  unfold State.latchUnless; split <;> rfl

theorem State.latchUnless_port (s : State) (quiet : Bool) (e : Event) :
    (s.latchUnless quiet e).port = if quiet then s.port else (s.latchAll e).port := by
  unfold State.latchUnless; split <;> rfl

end Sys2Proof.Machine
end

