-- ==== Sys2Proof/Laws/Frames.lean ====
section
/-! SUPPORT. What an operation at one line can change, said once: `LineOnly l s t`. One lemma per shared
operation, so that a proof about a command cites its frame and never unfolds it. -/

namespace Sys2Proof.Machine

/-! ### The relations -/

/-- A port after line and map operations: latches may have been added, and the register may have moved the
mark; nothing else changes. -/
structure PortSteady (a b : PortState) : Prop where
  rx : b.rx = a.rx
  response : b.response = a.response
  masks : b.masks = a.masks
  snapshot : b.snapshot = a.snapshot
  note : b.note = a.note
  supervision : b.supervision = a.supervision
  silence : b.silence = a.silence
  restartWaiting : b.restartWaiting = a.restartWaiting
  latches : a.latches ||| b.latches = b.latches

theorem PortSteady.refl (a : PortState) : PortSteady a a :=
  ⟨rfl, rfl, rfl, rfl, rfl, rfl, rfl, rfl, by simp⟩

theorem PortSteady.trans {a b c : PortState} (h : PortSteady a b) (k : PortSteady b c) : PortSteady a c :=
  ⟨k.rx.trans h.rx, k.response.trans h.response, k.masks.trans h.masks, k.snapshot.trans h.snapshot,
    k.note.trans h.note, k.supervision.trans h.supervision, k.silence.trans h.silence,
    k.restartWaiting.trans h.restartWaiting, by
      rw [← k.latches, ← BitVec.or_assoc, h.latches]⟩

theorem PortSteady.latch (a : PortState) (e : Event) : PortSteady a (a.latch e) :=
  ⟨rfl, rfl, rfl, rfl, rfl, rfl, rfl, rfl, by simp [PortState.latch, ← BitVec.or_assoc]⟩

/-- What no line operation and no operation of the hold map changes: settings, clock, counter, RESET input,
the events of the millisecond, queue, and of each port all but its latches and log state. -/
structure Steady (s t : State) : Prop where
  settings : SameSettings s t
  clock : SameClock s t
  ports : ∀ p, PortSteady (s.port.get p) (t.port.get p)

theorem Steady.refl (s : State) : Steady s s :=
  ⟨⟨rfl, rfl, rfl, rfl, rfl, rfl, rfl⟩, ⟨rfl, rfl, rfl, rfl, rfl, rfl, rfl⟩, fun _ => PortSteady.refl _⟩

theorem Steady.trans {s t u : State} (h : Steady s t) (k : Steady t u) : Steady s u := by
  obtain ⟨⟨a1, a2, a3, a4, a5, a6, a7⟩, ⟨b1, b2, b3, b4, b5, b6, b7⟩, c⟩ := h
  obtain ⟨⟨d1, d2, d3, d4, d5, d6, d7⟩, ⟨e1, e2, e3, e4, e5, e6, e7⟩, f⟩ := k
  exact ⟨⟨d1.trans a1, d2.trans a2, d3.trans a3, d4.trans a4, d5.trans a5, d6.trans a6, d7.trans a7⟩,
    ⟨e1.trans b1, e2.trans b2, e3.trans b3, e4.trans b4, e5.trans b5, e6.trans b6,
      e7.trans b7⟩,
    fun p => (c p).trans (f p)⟩

/-- What an operation at line `l` leaves: what is steady, the other lines, the captures and the hold map. -/
structure LineOnly (l : LineId) (s t : State) : Prop where
  steady : Steady s t
  lines : SameOtherLines l s t
  capture : t.capture = s.capture
  holds : t.holds = s.holds
  tellCount : t.tellCount = s.tellCount

theorem LineOnly.refl (l : LineId) (s : State) : LineOnly l s s :=
  ⟨Steady.refl s, fun _ _ => ⟨rfl, rfl, rfl, rfl, rfl, rfl⟩, rfl, rfl, rfl⟩

theorem SameLine.trans {k : LineId} {s t u : State} (h : SameLine k s t) (g : SameLine k t u) :
    SameLine k s u :=
  ⟨g.1.trans h.1, g.2.1.trans h.2.1, g.2.2.1.trans h.2.2.1, g.2.2.2.1.trans h.2.2.2.1,
    g.2.2.2.2.1.trans h.2.2.2.2.1, g.2.2.2.2.2.trans h.2.2.2.2.2⟩

theorem LineOnly.trans {l : LineId} {s t u : State} (h : LineOnly l s t) (k : LineOnly l t u) :
    LineOnly l s u :=
  ⟨h.steady.trans k.steady, fun j hj => (h.lines j hj).trans (k.lines j hj), k.capture.trans h.capture,
    k.holds.trans h.holds, k.tellCount.trans h.tellCount⟩

variable {l : LineId} {s u : State}

/-! ### Primitive updates -/

theorem LineOnly.updSeq (h : LineOnly l s u) (f : Sequencer → Sequencer) :
    LineOnly l s (u.updSeq l f) :=
  h.trans ⟨⟨⟨rfl, rfl, rfl, rfl, rfl, rfl, rfl⟩, ⟨rfl, rfl, rfl, rfl, rfl, rfl, rfl⟩, fun _ => PortSteady.refl _⟩,
    fun _ hj => ⟨PerLine.get_upd_of_ne _ hj _, rfl, rfl, rfl, rfl, rfl⟩, rfl, rfl, rfl⟩

theorem LineOnly.updDrive (h : LineOnly l s u) (f : Drive → Drive) : LineOnly l s (u.updDrive l f) :=
  h.trans ⟨⟨⟨rfl, rfl, rfl, rfl, rfl, rfl, rfl⟩, ⟨rfl, rfl, rfl, rfl, rfl, rfl, rfl⟩, fun _ => PortSteady.refl _⟩,
    fun _ hj => ⟨rfl, PerLine.get_upd_of_ne _ hj _, rfl, rfl, rfl, rfl⟩, rfl, rfl, rfl⟩

theorem LineOnly.updReg (h : LineOnly l s u) (f : Regulator → Regulator) : LineOnly l s (u.updReg l f) :=
  h.trans ⟨⟨⟨rfl, rfl, rfl, rfl, rfl, rfl, rfl⟩, ⟨rfl, rfl, rfl, rfl, rfl, rfl, rfl⟩, fun _ => PortSteady.refl _⟩,
    fun _ hj => ⟨rfl, rfl, PerLine.get_upd_of_ne _ hj _, rfl, rfl, rfl⟩, rfl, rfl, rfl⟩

theorem LineOnly.updRec (h : LineOnly l s u) (f : Record → Record) : LineOnly l s (u.updRec l f) :=
  h.trans ⟨⟨⟨rfl, rfl, rfl, rfl, rfl, rfl, rfl⟩, ⟨rfl, rfl, rfl, rfl, rfl, rfl, rfl⟩, fun _ => PortSteady.refl _⟩,
    fun _ hj => ⟨rfl, rfl, rfl, PerLine.get_upd_of_ne _ hj _, rfl, rfl⟩, rfl, rfl, rfl⟩

theorem LineOnly.setCurrentTank (h : LineOnly l s u) (t : Option TankId) :
    LineOnly l s (u.setCurrentTank l t) :=
  h.trans ⟨⟨⟨rfl, rfl, rfl, rfl, rfl, rfl, rfl⟩, ⟨rfl, rfl, rfl, rfl, rfl, rfl, rfl⟩, fun _ => PortSteady.refl _⟩,
    fun _ hj => ⟨rfl, rfl, rfl, rfl, PerLine.get_set_of_ne _ hj _, rfl⟩, rfl, rfl, rfl⟩

theorem LineOnly.updTank (h : LineOnly l s u) (t : TankId) (f : Tank → Tank) :
    LineOnly l s (u.updTank t f) :=
  h.trans ⟨⟨⟨rfl, rfl, rfl, rfl, rfl, rfl, rfl⟩, ⟨rfl, rfl, rfl, rfl, rfl, rfl, rfl⟩, fun _ => PortSteady.refl _⟩,
    fun _ _ => ⟨rfl, rfl, rfl, rfl, rfl, rfl⟩, rfl, rfl, rfl⟩

theorem LineOnly.setDemand (h : LineOnly l s u) (q : List DemandEntry) : LineOnly l s (u.setDemand q) :=
  h.trans ⟨⟨⟨rfl, rfl, rfl, rfl, rfl, rfl, rfl⟩, ⟨rfl, rfl, rfl, rfl, rfl, rfl, rfl⟩, fun _ => PortSteady.refl _⟩,
    fun _ _ => ⟨rfl, rfl, rfl, rfl, rfl, rfl⟩, rfl, rfl, rfl⟩

theorem LineOnly.latchAll (h : LineOnly l s u) (e : Event) : LineOnly l s (u.latchAll e) :=
  h.trans ⟨⟨⟨rfl, rfl, rfl, rfl, rfl, rfl, rfl⟩, ⟨rfl, rfl, rfl, rfl, rfl, rfl, rfl⟩, fun p => by
      simpa using PortSteady.latch (u.port.get p) e⟩,
    fun _ _ => ⟨rfl, rfl, rfl, rfl, rfl, rfl⟩, rfl, rfl, rfl⟩

theorem LineOnly.latchUnless (h : LineOnly l s u) (quiet : Bool) (e : Event) :
    LineOnly l s (u.latchUnless quiet e) := by
  unfold State.latchUnless
  split
  · exact h
  · exact h.latchAll e

/-! ### The stage register (R139, R143, R144) -/

theorem LineOnly.openRecord (h : LineOnly l s u) (q : SeatParams) (pmax : Nat) (clamped : Bool) :
    LineOnly l s (u.openRecord l q pmax clamped) :=
  h.trans ⟨⟨⟨rfl, rfl, rfl, rfl, rfl, rfl, rfl⟩, ⟨rfl, rfl, rfl, rfl, rfl, rfl, rfl⟩, fun _ => PortSteady.refl _⟩,
    fun _ hj => ⟨rfl, rfl, rfl, PerLine.get_set_of_ne _ hj _, rfl, rfl⟩, rfl, rfl, rfl⟩

theorem PortSteady.entryRemoved (a : PortState) (removed newOldest : Nat) (quiet : Bool) :
    PortSteady a (a.entryRemoved removed newOldest quiet) := by
  unfold PortState.entryRemoved
  split
  · cases quiet
    · exact ⟨rfl, rfl, rfl, rfl, rfl, rfl, rfl, rfl, by simp [PortState.latch, ← BitVec.or_assoc]⟩
    · exact ⟨rfl, rfl, rfl, rfl, rfl, rfl, rfl, rfl, by simp⟩
  · exact PortSteady.refl a

theorem LineOnly.makeRoom (h : LineOnly l s u) (appended : Nat) (quiet : Bool) :
    LineOnly l s (u.makeRoom appended quiet) := by
  unfold State.makeRoom
  split
  · exact h
  · split
    · exact h
    · exact h.trans ⟨⟨⟨rfl, rfl, rfl, rfl, rfl, rfl, rfl⟩, ⟨rfl, rfl, rfl, rfl, rfl, rfl, rfl⟩, fun p => by
          simpa using PortSteady.entryRemoved _ _ _ _⟩,
        fun _ _ => ⟨rfl, rfl, rfl, rfl, rfl, rfl⟩, rfl, rfl, rfl⟩

theorem LineOnly.appendMixStep (h : LineOnly l s u) (code : Nat) : LineOnly l s (u.appendMixStep l code) :=
  h.updRec _

theorem LineOnly.closeRecord (h : LineOnly l s u) (fin : FinalValues) (reason : EndReason)
    (origin : Option Port) (quiet : Bool) : LineOnly l s (u.closeRecord l fin reason origin quiet) := by
  unfold State.closeRecord
  split
  · exact h
  · refine LineOnly.latchUnless ?_ _ _
    exact (h.makeRoom _ _).trans
      ⟨⟨⟨rfl, rfl, rfl, rfl, rfl, rfl, rfl⟩, ⟨rfl, rfl, rfl, rfl, rfl, rfl, rfl⟩, fun _ => PortSteady.refl _⟩,
        fun _ hj => ⟨rfl, rfl, rfl, PerLine.get_set_of_ne _ hj _, rfl, rfl⟩, rfl, rfl, rfl⟩

/-! ### Supply and stage end (R24, R26, R101, R109) -/

theorem LineOnly.payFrom (h : LineOnly l s u) (t : TankId) (e : Nat) : LineOnly l s (u.payFrom l t e) :=
  (h.updTank t _).setCurrentTank _

theorem LineOnly.leaveDemand (h : LineOnly l s u) (quiet : Bool) : LineOnly l s (u.leaveDemand l quiet) := by
  unfold State.leaveDemand
  dsimp only
  split
  · exact ((h.setCurrentTank _).setDemand _).latchUnless _ _
  · exact h.setCurrentTank _

theorem LineOnly.abandonStroke (h : LineOnly l s u) : LineOnly l s (u.abandonStroke l) := by
  unfold State.abandonStroke
  split
  · exact h
  · split
    · exact (h.updRec _).updDrive _
    · exact h.updDrive _

theorem LineOnly.stopDrive (h : LineOnly l s u) : LineOnly l s (u.stopDrive l) := h.abandonStroke.updDrive _

theorem LineOnly.addHeld (h : LineOnly l s u) : LineOnly l s (u.addHeld l) := by
  unfold State.addHeld
  split
  · exact h
  · exact (h.updRec _).updSeq _

theorem LineOnly.dropSlot (h : LineOnly l s u) (quiet : Bool) : LineOnly l s (u.dropSlot l quiet) := by
  unfold State.dropSlot
  split
  · exact h
  · exact (h.updSeq _).latchUnless _ _

theorem LineOnly.endTimers (h : LineOnly l s u) : LineOnly l s (u.endTimers l) := by
  unfold State.endTimers
  dsimp only
  split
  · exact (h.addHeld.updSeq _).updReg _
  · exact (h.updSeq _).updReg _

theorem LineOnly.clearCauses (h : LineOnly l s u) (quiet : Bool) : LineOnly l s (u.clearCauses l quiet) :=
  (h.updSeq _).dropSlot quiet

theorem LineOnly.endStage (h : LineOnly l s u) (reason : EndReason) (origin : Option Port) (quiet : Bool) :
    LineOnly l s (u.endStage l reason origin quiet) :=
  (((h.stopDrive.leaveDemand quiet).endTimers).clearCauses quiet).closeRecord _ _ _ _

theorem LineOnly.enterFault (h : LineOnly l s u) (cause : FaultCause) : LineOnly l s (u.enterFault l cause) :=
  (h.updSeq _).latchAll _

theorem LineOnly.lineFault (h : LineOnly l s u) (cause : FaultCause) : LineOnly l s (u.lineFault l cause) := by
  unfold State.lineFault
  split
  iterate 6 exact (h.endStage _ _ _).enterFault _
  · exact (((h.stopDrive).updSeq _).dropSlot _).enterFault _
  · exact (h.stopDrive.updSeq _).enterFault _
  · exact h.updSeq _
  · exact h

/-! ### Strokes and rate steps (R22, R31, R33, R36, R38) -/

theorem LineOnly.enterHeld (h : LineOnly l s u) (r : Resume) : LineOnly l s (u.enterHeld l r) :=
  ((h.updSeq _).updDrive _).updReg _

theorem LineOnly.supplyWait (h : LineOnly l s u) (mix : Nat) : LineOnly l s (u.supplyWait l mix) := by
  unfold State.supplyWait
  dsimp only
  split
  · exact ((h.setDemand _).latchAll _).updDrive _
  · exact (((((h.setDemand _).latchAll _).updDrive _).enterHeld _).updSeq _).updRec _

theorem LineOnly.runStroke (h : LineOnly l s u) (purpose : StrokePurpose) (source : Source) :
    LineOnly l s (u.runStroke l purpose source) :=
  (h.updDrive _).updSeq _

theorem LineOnly.runGrout (h : LineOnly l s u) (purpose : StrokePurpose) (t : TankId) :
    LineOnly l s (u.runGrout l purpose t) :=
  (h.runStroke _ _).updSeq _

theorem LineOnly.startGrout (h : LineOnly l s u) (purpose : StrokePurpose) (given : Option TankId) :
    LineOnly l s (u.startGrout l purpose given) := by
  unfold State.startGrout
  split
  · exact h.runGrout _ _
  · split
    · exact h
    · split
      · exact (h.payFrom _ _).runGrout _ _
      · exact h.supplyWait _

theorem LineOnly.startStroke (h : LineOnly l s u) (given : Option TankId) :
    LineOnly l s (u.startStroke l given) := by
  unfold State.startStroke
  split
  · exact h
  · exact h.runStroke _ _
  · exact h.runStroke _ _
  · exact h.startGrout _ _
  · exact h.startGrout _ _

theorem LineOnly.strokeFailure (h : LineOnly l s u) : LineOnly l s (u.strokeFailure l) :=
  (h.abandonStroke.updDrive _).lineFault _

theorem LineOnly.restartStroke (h : LineOnly l s u) : LineOnly l s (u.restartStroke l) := by
  unfold State.restartStroke
  dsimp only
  split
  · exact (h.updDrive _).strokeFailure
  · exact h.updDrive _

theorem LineOnly.writeRate (h : LineOnly l s u) (r : Nat) (given : Option TankId) :
    LineOnly l s (u.writeRate l r given) := by
  unfold State.writeRate
  dsimp only
  split
  · exact h.updDrive _
  · split
    · exact h.updDrive _
    · split
      · exact h.updDrive _
      · split
        · exact (h.updDrive _).restartStroke
        · exact (h.updDrive _).startStroke _

theorem LineOnly.setPurpose (h : LineOnly l s u) (purpose : Purpose) (r : Nat) :
    LineOnly l s (u.setPurpose l purpose r) :=
  (h.updDrive _).writeRate _ _

/-! ### The sequencer (R9 to R25) -/

theorem LineOnly.enterFlushing (h : LineOnly l s u) : LineOnly l s (u.enterFlushing l) :=
  (h.updSeq _).setPurpose _ _

theorem LineOnly.enterIdle (h : LineOnly l s u) : LineOnly l s (u.enterIdle l) := h.updSeq _

theorem LineOnly.stageEnd (h : LineOnly l s u) (reason : EndReason) (origin : Option Port) :
    LineOnly l s (u.stageEnd l reason origin) := by
  unfold State.stageEnd
  split
  iterate 4 exact (h.endStage _ _ _).enterFlushing
  iterate 2 exact (h.endStage _ _ _).enterIdle
  iterate 4 exact h

theorem LineOnly.leaveHeld (h : LineOnly l s u) (given : Option TankId) : LineOnly l s (u.leaveHeld l given) := by
  unfold State.leaveHeld
  split
  · exact h
  · exact (((h.addHeld.updSeq _).updDrive _).updReg _).writeRate _ _

theorem LineOnly.causeRemoved (h : LineOnly l s u) (given : Option TankId) :
    LineOnly l s (u.causeRemoved l given) := by
  unfold State.causeRemoved
  split
  · exact h
  · split
    · exact h.updSeq _
    · exact h.leaveHeld _

theorem LineOnly.takeSeat (h : LineOnly l s u) (q : SeatParams) : LineOnly l s (u.takeSeat l q) := by
  unfold State.takeSeat
  dsimp only
  split
  · exact (((h.latchAll _).openRecord _ _ _).updSeq _).updReg _
  · exact ((h.openRecord _ _ _).updSeq _).updReg _

theorem LineOnly.takeTest (h : LineOnly l s u) (target duration : Nat) :
    LineOnly l s (u.takeTest l target duration) :=
  ((h.updReg _).updSeq _).setPurpose _ _

theorem LineOnly.takeCharge (h : LineOnly l s u) : LineOnly l s (u.takeCharge l) := by
  unfold State.takeCharge
  dsimp only
  split
  · exact (((((h.latchAll _).updRec _).appendMixStep _).updSeq _).updReg _).setPurpose _ _
  · exact ((((h.updRec _).appendMixStep _).updSeq _).updReg _).setPurpose _ _

theorem LineOnly.takeInject (h : LineOnly l s u) : LineOnly l s (u.takeInject l) :=
  (((h.updSeq _).updDrive _).updReg _).setPurpose _ _

theorem LineOnly.takeDeferred (h : LineOnly l s u) (req : PendingReq) : LineOnly l s (u.takeDeferred l req) := by
  cases req with
  | seat q => exact h.takeSeat q
  | test target duration => exact h.takeTest target duration
  | charge => exact h.takeCharge
  | inject => exact h.takeInject

theorem LineOnly.runSlot (h : LineOnly l s u) (point : RunPoint) : LineOnly l s (u.runSlot l point) := by
  unfold State.runSlot
  split
  · exact h
  · split
    · dsimp only
      split
      · exact (h.updSeq _).latchAll _
      · exact (h.updSeq _).takeDeferred _
    · exact h

theorem LineOnly.endTest (h : LineOnly l s u) (ending : TestEnd) : LineOnly l s (u.endTest l ending) := by
  unfold State.endTest
  dsimp only
  refine LineOnly.runSlot ?_ _
  split
  · exact (h.stopDrive.updSeq _).updReg _
  · exact ((h.stopDrive.updSeq _).updReg _).updRec _

/-! ### Coverage (R21, R23) -/

theorem LineOnly.holdLine (h : LineOnly l s u) (r : Resume) : LineOnly l s (u.holdLine l r) :=
  (((h.enterHeld _).updSeq _).updRec _).writeRate _ _

theorem LineOnly.addHold (h : LineOnly l s u) : LineOnly l s (u.addHold l) := (h.updSeq _).updRec _

theorem LineOnly.becomeCovered (h : LineOnly l s u) : LineOnly l s (u.becomeCovered l) := by
  unfold State.becomeCovered
  split
  · exact h.holdLine _
  · exact h.holdLine _
  · split
    · exact h
    · exact h.addHold
  · exact h.endTest _
  iterate 6 exact h

theorem LineOnly.becomeUncovered (h : LineOnly l s u) : LineOnly l s (u.becomeUncovered l) := by
  unfold State.becomeUncovered
  split
  · split
    · exact (h.updSeq _).causeRemoved _
    · exact h
  iterate 9 exact h

theorem LineOnly.tellLine (h : LineOnly l s u) : LineOnly l s (u.tellLine l) := by
  unfold State.tellLine
  split
  · exact h.becomeCovered
  · exact h.becomeUncovered

/-! ### Bursts and completions (R13, R25, R35, R40, R41, R83 to R86) -/

theorem LineOnly.startCirculate (h : LineOnly l s u) : LineOnly l s (u.startCirculate l) := h.updDrive _

theorem LineOnly.startBurst (h : LineOnly l s u) : LineOnly l s (u.startBurst l) :=
  (((h.abandonStroke.updDrive _).startCirculate).updSeq _).updReg _

theorem LineOnly.endBurst (h : LineOnly l s u) : LineOnly l s (u.endBurst l) := by
  unfold State.endBurst
  dsimp only
  split
  · exact (((h.updDrive _).updSeq _).updReg _).leaveHeld _
  · exact ((h.updDrive _).updSeq _).updReg _

theorem LineOnly.circulateDone (h : LineOnly l s u) : LineOnly l s (u.circulateDone l) := by
  unfold State.circulateDone
  split
  · exact h
  · split
    · exact h.endBurst
    · exact (h.updDrive _).startCirculate

theorem LineOnly.chargeComplete (h : LineOnly l s u) : LineOnly l s (u.chargeComplete l) := by
  unfold State.chargeComplete
  dsimp only
  split
  · exact ((((h.writeRate _ _).runSlot _).updSeq _).updDrive _).updReg _
  · exact (h.writeRate _ _).runSlot _

theorem LineOnly.chargeDone (h : LineOnly l s u) : LineOnly l s (u.chargeDone l) := by
  unfold State.chargeDone
  dsimp only
  split
  · exact (h.updSeq _).chargeComplete
  · exact h.updSeq _

theorem LineOnly.flushComplete (h : LineOnly l s u) : LineOnly l s (u.flushComplete l) :=
  ((h.writeRate _ _).updSeq _).runSlot _

theorem LineOnly.flushDone (h : LineOnly l s u) : LineOnly l s (u.flushDone l) := by
  unfold State.flushDone
  dsimp only
  split
  · exact (h.updSeq _).flushComplete
  · exact h.updSeq _

theorem LineOnly.thicken (h : LineOnly l s u) (mix : Nat) : LineOnly l s (u.thicken l mix) :=
  ((h.updSeq _).appendMixStep _).latchAll _

theorem LineOnly.tryThicken (h : LineOnly l s u) (r : Record) : LineOnly l s (u.tryThicken l r) := by
  unfold State.tryThicken
  split
  · exact h
  · split
    · split
      · exact h.thicken _
      · exact h
    · exact h

theorem LineOnly.evaluateInject (h : LineOnly l s u) : LineOnly l s (u.evaluateInject l) := by
  unfold State.evaluateInject
  split
  · exact h
  · split
    · exact h.stageEnd _ _
    · exact h.tryThicken _

theorem LineOnly.creditStroke (h : LineOnly l s u) (k : Stroke) : LineOnly l s (u.creditStroke l k) := by
  unfold State.creditStroke
  split
  · exact h.updReg _
  · exact h.updRec _
  · exact h.updRec _
  · exact h
  · exact h

theorem LineOnly.completionAction (h : LineOnly l s u) (p : StrokePurpose) :
    LineOnly l s (u.completionAction l p) := by
  cases p with
  | test => exact h
  | charge => exact h.chargeDone
  | inject => exact h.evaluateInject
  | circulate => exact h.circulateDone
  | flush => exact h.flushDone

theorem LineOnly.nextStroke (h : LineOnly l s u) : LineOnly l s (u.nextStroke l) := by
  unfold State.nextStroke
  dsimp only
  split
  · exact h.startStroke _
  · exact h

theorem LineOnly.completeStroke (h : LineOnly l s u) (k : Stroke) : LineOnly l s (u.completeStroke l k) := by
  unfold State.completeStroke
  dsimp only
  split
  · exact ((h.creditStroke _).updDrive _).completionAction _
  · exact (((h.creditStroke _).updDrive _).completionAction _).nextStroke

theorem LineOnly.senseStroke (h : LineOnly l s u) : LineOnly l s (u.senseStroke l) := by
  unfold State.senseStroke
  split
  · split
    · exact h.completeStroke _
    · exact h
  · exact h

/-- What holds of an event's action holds of the event, overtaken or not. -/
theorem LineOnly.onEvent (h : LineOnly l s u) (e : Instr) {act : State → State}
    (ha : LineOnly l s (act u)) : LineOnly l s (u.onEvent e act) :=
  onEvent_induct h ha

/-! ### Samples (R47, R57 to R64), but for the connection watch -/

theorem LineOnly.recordSample (h : LineOnly l s u) (pn : Nat) : LineOnly l s (u.recordSample l pn) := h.updRec _

theorem LineOnly.excursion (h : LineOnly l s u) : LineOnly l s (u.excursion l) :=
  ((((h.writeRate _ _).updReg _).updRec _).latchAll _).updReg _

theorem LineOnly.adjustRate (h : LineOnly l s u) (p : Pressures) : LineOnly l s (u.adjustRate l p) := by
  unfold State.adjustRate
  dsimp only
  split
  · exact h.writeRate _ _
  · split
    · exact h.writeRate _ _
    · exact h

theorem LineOnly.refusalStep (h : LineOnly l s u) (p : Pressures) : LineOnly l s (u.refusalStep l p) := by
  unfold State.refusalStep
  split
  · split
    · exact h.updReg _
    · exact h.updReg _
  · exact h

theorem LineOnly.clearStop (h : LineOnly l s u) (r : Nat) : LineOnly l s (u.clearStop l r) :=
  (h.updReg _).writeRate _ _

theorem LineOnly.decideInjecting (h : LineOnly l s u) (p : Pressures) (g : Gauge) :
    LineOnly l s (u.decideInjecting l p g) := by
  unfold State.decideInjecting
  split
  · split
    · exact (h.clearStop _).refusalStep _
    · exact h.refusalStep _
  · split
    · exact h.excursion
    · exact (h.adjustRate _).refusalStep _

theorem LineOnly.decideTesting (h : LineOnly l s u) (p : Pressures) (g : Gauge) :
    LineOnly l s (u.decideTesting l p g) := by
  unfold State.decideTesting
  split
  · exact h.excursion.endTest _
  · exact h.adjustRate _

theorem LineOnly.decideCharging (h : LineOnly l s u) (p : Pressures) (g : Gauge) :
    LineOnly l s (u.decideCharging l p g) := by
  unfold State.decideCharging
  split
  · split
    · exact h.clearStop _
    · exact h
  · split
    · exact h.excursion
    · exact h

theorem LineOnly.decideSample (h : LineOnly l s u) (p : Pressures) (g : Gauge) :
    LineOnly l s (u.decideSample l p g) := by
  unfold State.decideSample
  split
  · exact h.decideInjecting _ _
  · exact h.decideTesting _ _
  · exact h.decideCharging _ _
  iterate 7 exact h

theorem LineOnly.invalidSample (h : LineOnly l s u) : LineOnly l s (u.invalidSample l) := by
  unfold State.invalidSample
  dsimp only
  split
  · exact (h.updReg _).lineFault _
  · exact h.updReg _

/-! ### Settling (R10, R51) -/

theorem LineOnly.captureFormation (h : LineOnly l s u) : LineOnly l s (u.captureFormation l) :=
  (h.updReg _).updRec _

theorem LineOnly.settle (h : LineOnly l s u) : LineOnly l s (u.settle l) :=
  (((h.updSeq _).captureFormation).updReg _).runSlot _

/-! ### The hold map (R116): what is steady through any telling of lines -/

theorem Steady.of_lineOnly {s t : State} (h : LineOnly l s t) : Steady s t := h.steady

theorem tellLines_steady (s : State) (ls : List LineId) :
    Steady s (s.tellLines ls) ∧ (s.tellLines ls).holds = s.holds ∧ (s.tellLines ls).capture = s.capture ∧
      ∀ k, k ∉ ls → SameLine k s (s.tellLines ls) := by
  induction ls generalizing s with
  | nil => exact ⟨Steady.refl s, rfl, rfl, fun _ _ => ⟨rfl, rfl, rfl, rfl, rfl, rfl⟩⟩
  | cons l ls ih =>
    have h := (LineOnly.refl l s).tellLine
    obtain ⟨a, b, c, d⟩ := ih (s.tellLine l)
    refine ⟨h.steady.trans a, b.trans h.holds, c.trans h.capture, fun k hk => ?_⟩
    rw [List.mem_cons, not_or] at hk
    exact (h.lines k hk.1).trans (d k hk.2)

theorem holdOperation_steady (s : State) (m : HoldMap) :
    Steady s (s.holdOperation m) ∧ (s.holdOperation m).holds = m ∧
      (s.holdOperation m).capture = s.capture := by
  unfold State.holdOperation
  split
  · rename_i h
    exact ⟨Steady.refl s, h.symm, rfl⟩
  · dsimp only
    obtain ⟨a, b, c, -⟩ := tellLines_steady ({ s with holds := m, tellCount := s.tellCount + 1 } : State)
      (tellOrder s.tellCount (changedLines s.holds m))
    have d := ((LineOnly.refl LineId.l1 _).latchAll (s := ({ s with holds := m, tellCount := s.tellCount + 1 } : State).tellLines
      (tellOrder s.tellCount (changedLines s.holds m))) Event.holdChange)
    refine ⟨Steady.trans ?_ (a.trans d.steady), b, c⟩
    exact ⟨⟨rfl, rfl, rfl, rfl, rfl, rfl, rfl⟩, ⟨rfl, rfl, rfl, rfl, rfl, rfl, rfl⟩, fun _ => PortSteady.refl _⟩

end Sys2Proof.Machine
end

