-- ==== Sys2Proof/Laws/PerInstr.lean ====
section
/-! SUPPORT. Statements about every command, one lemma per constructor. `RequestForm`: a command is carried
by a frame exactly when it has a port, and its payload has the length the code's row of R184 gives. -/

namespace Sys2Proof.Laws

@[simp] theorem length_be (n v : Nat) : (Machine.be n v).length = n := by
  induction n generalizing v with
  | zero => rfl
  | succ n ih => simp [Machine.be, ih]

/-- The payload has its code's length, the code fits its byte, and the command has a port; a command without
an encoding has none (R152, R155, R184). -/
def RequestForm.Statement (i : Instr) : Prop :=
  match encodeRequest i with
  | some (code, bytes) => requestLength code = some bytes.length ∧ code < 256 ∧ (requestPort i).isSome = true
  | none => requestPort i = none

theorem RequestForm.powerOn : RequestForm.Statement .powerOn := rfl

theorem RequestForm.cabinetReset : RequestForm.Statement .cabinetReset := rfl

theorem RequestForm.byteReceived (p : Port) (b : Byte) : RequestForm.Statement (.byteReceived p b) := rfl

theorem RequestForm.gapTimerExpiry (p : Port) : RequestForm.Statement (.gapTimerExpiry p) := rfl

theorem RequestForm.responseSent (p : Port) : RequestForm.Statement (.responseSent p) := rfl

theorem RequestForm.seat (p : Port) (line : Nat) (q : SeatParams) :
    RequestForm.Statement (.seat p line q) :=
  ⟨rfl, by decide, rfl⟩

theorem RequestForm.test (p : Port) (line target duration : Nat) :
    RequestForm.Statement (.test p line target duration) :=
  ⟨rfl, by decide, rfl⟩

theorem RequestForm.charge (p : Port) (line : Nat) : RequestForm.Statement (.charge p line) :=
  ⟨rfl, by decide, rfl⟩

theorem RequestForm.inject (p : Port) (line : Nat) : RequestForm.Statement (.inject p line) :=
  ⟨rfl, by decide, rfl⟩

theorem RequestForm.finish (p : Port) (line : Nat) : RequestForm.Statement (.finish p line) :=
  ⟨rfl, by decide, rfl⟩

theorem RequestForm.abort (p : Port) (line : Nat) : RequestForm.Statement (.abort p line) :=
  ⟨rfl, by decide, rfl⟩

theorem RequestForm.clearFault (p : Port) (line : Nat) : RequestForm.Statement (.clearFault p line) :=
  ⟨rfl, by decide, rfl⟩

theorem RequestForm.circulate (p : Port) (line : Nat) : RequestForm.Statement (.circulate p line) :=
  ⟨rfl, by decide, rfl⟩

theorem RequestForm.hold (p : Port) (lines : Byte) : RequestForm.Statement (.hold p lines) :=
  ⟨rfl, by decide, rfl⟩

theorem RequestForm.releaseHold (p : Port) (reason : Nat) (lines : Byte) :
    RequestForm.Statement (.releaseHold p reason lines) :=
  ⟨rfl, by decide, rfl⟩

theorem RequestForm.releaseConnection (p : Port) (lines : Byte) :
    RequestForm.Statement (.releaseConnection p lines) :=
  ⟨rfl, by decide, rfl⟩

theorem RequestForm.setCeiling (p : Port) (line ceiling : Nat) :
    RequestForm.Statement (.setCeiling p line ceiling) :=
  ⟨rfl, by decide, rfl⟩

theorem RequestForm.supervise (p : Port) (interval : Nat) : RequestForm.Statement (.supervise p interval) :=
  ⟨rfl, by decide, rfl⟩

theorem RequestForm.deliver (p : Port) (tank mix litres : Nat) :
    RequestForm.Statement (.deliver p tank mix litres) :=
  ⟨rfl, by decide, rfl⟩

theorem RequestForm.dump (p : Port) (tank : Nat) : RequestForm.Statement (.dump p tank) :=
  ⟨rfl, by decide, rfl⟩

theorem RequestForm.readTanks (p : Port) : RequestForm.Statement (.readTanks p) :=
  ⟨rfl, by decide, rfl⟩

theorem RequestForm.readDemand (p : Port) : RequestForm.Statement (.readDemand p) :=
  ⟨rfl, by decide, rfl⟩

theorem RequestForm.readOpen (p : Port) (line : Nat) : RequestForm.Statement (.readOpen p line) :=
  ⟨rfl, by decide, rfl⟩

theorem RequestForm.readLog (p : Port) (entry : Nat) : RequestForm.Statement (.readLog p entry) :=
  ⟨rfl, by decide, rfl⟩

theorem RequestForm.logRange (p : Port) : RequestForm.Statement (.logRange p) :=
  ⟨rfl, by decide, rfl⟩

theorem RequestForm.markRead (p : Port) (entry : Nat) : RequestForm.Statement (.markRead p entry) :=
  ⟨rfl, by decide, rfl⟩

theorem RequestForm.readCapture (p : Port) (line : Nat) : RequestForm.Statement (.readCapture p line) :=
  ⟨rfl, by decide, rfl⟩

theorem RequestForm.status (p : Port) : RequestForm.Statement (.status p) :=
  ⟨rfl, by decide, rfl⟩

theorem RequestForm.snapshot (p : Port) : RequestForm.Statement (.snapshot p) :=
  ⟨rfl, by decide, rfl⟩

theorem RequestForm.readSnapshot (p : Port) (part : Nat) : RequestForm.Statement (.readSnapshot p part) :=
  ⟨rfl, by decide, rfl⟩

theorem RequestForm.readEvents (p : Port) : RequestForm.Statement (.readEvents p) :=
  ⟨rfl, by decide, rfl⟩

theorem RequestForm.clearEvents (p : Port) (events : EventSet) :
    RequestForm.Statement (.clearEvents p events) :=
  ⟨rfl, by decide, rfl⟩

theorem RequestForm.setMask (p : Port) (events : EventSet) : RequestForm.Statement (.setMask p events) :=
  ⟨rfl, by decide, rfl⟩

theorem RequestForm.note (p : Port) (code : Nat) : RequestForm.Statement (.note p code) :=
  ⟨rfl, by decide, rfl⟩

theorem RequestForm.readNote (p : Port) : RequestForm.Statement (.readNote p) :=
  ⟨rfl, by decide, rfl⟩

theorem RequestForm.writeLine (p : Port) (line : Nat) (q : LineWrite) :
    RequestForm.Statement (.writeLine p line q) :=
  ⟨rfl, by decide, rfl⟩

theorem RequestForm.writeMix (p : Port) (code : Nat) (q : MixWrite) :
    RequestForm.Statement (.writeMix p code q) :=
  ⟨rfl, by decide, rfl⟩

theorem RequestForm.writeBands (p : Port) (q : BandTable) : RequestForm.Statement (.writeBands p q) :=
  ⟨rfl, by decide, rfl⟩

theorem RequestForm.writeTiming (p : Port) (q : TimingTable) : RequestForm.Statement (.writeTiming p q) :=
  ⟨rfl, by decide, rfl⟩

theorem RequestForm.writeEnvelope (p : Port) (q : EnvelopeTable) :
    RequestForm.Statement (.writeEnvelope p q) :=
  ⟨rfl, by decide, rfl⟩

theorem RequestForm.writeTank (p : Port) (tank capacity ageLimit : Nat) :
    RequestForm.Statement (.writeTank p tank capacity ageLimit) :=
  ⟨rfl, by decide, rfl⟩

theorem RequestForm.readSettings (p : Port) (table index : Nat) :
    RequestForm.Statement (.readSettings p table index) :=
  ⟨rfl, by decide, rfl⟩

theorem RequestForm.setClock (p : Port) (day second : Nat) :
    RequestForm.Statement (.setClock p day second) :=
  ⟨rfl, by decide, rfl⟩

theorem RequestForm.readClock (p : Port) : RequestForm.Statement (.readClock p) :=
  ⟨rfl, by decide, rfl⟩

theorem RequestForm.portReset (p : Port) : RequestForm.Statement (.portReset p) :=
  ⟨rfl, by decide, rfl⟩

theorem RequestForm.restart (p : Port) : RequestForm.Statement (.restart p) :=
  ⟨rfl, by decide, rfl⟩

theorem RequestForm.sample (l : LineId) (r : Reading) : RequestForm.Statement (.sample l r) := rfl

theorem RequestForm.packerSettleExpiry (l : LineId) : RequestForm.Statement (.packerSettleExpiry l) := rfl

theorem RequestForm.testTimerExpiry (l : LineId) : RequestForm.Statement (.testTimerExpiry l) := rfl

theorem RequestForm.strokeComplete (l : LineId) : RequestForm.Statement (.strokeComplete l) := rfl

theorem RequestForm.strokeWatchExpiry (l : LineId) : RequestForm.Statement (.strokeWatchExpiry l) := rfl

theorem RequestForm.circulationStaticExpiry (l : LineId) : RequestForm.Statement (.circulationStaticExpiry l) := rfl

theorem RequestForm.standingTimerExpiry (l : LineId) : RequestForm.Statement (.standingTimerExpiry l) := rfl

theorem RequestForm.refusalTimerExpiry (l : LineId) : RequestForm.Statement (.refusalTimerExpiry l) := rfl

theorem RequestForm.silenceTimerExpiry (p : Port) : RequestForm.Statement (.silenceTimerExpiry p) := rfl

theorem RequestForm.ageExpiry (t : TankId) : RequestForm.Statement (.ageExpiry t) := rfl

theorem RequestForm.clockAdvance : RequestForm.Statement .clockAdvance := rfl

theorem RequestForm.runSecondsAdvance : RequestForm.Statement .runSecondsAdvance := rfl

theorem RequestForm.resetInputDeasserted : RequestForm.Statement .resetInputDeasserted := rfl

end Sys2Proof.Laws
end

