-- ==== Sys2Proof/Laws/Requests.lean ====
section
/-! SUPPORT. What a port does with a request, said once (R154 to R156): the three cases of `State.request`. -/

namespace Sys2Proof.Machine

theorem respond_restartSilence (s : State) (p : Port) (code : Nat) (st : Status) (bytes : List Byte) :
    (s.restartSilence p).respond p ⟨code, st, bytes⟩ = s.answered p code st bytes := by
  cases p <;> rfl

theorem request_pending {s : State} {p : Port} (h : ¬ s.free p) (code : Nat) (allowed : List Port)
    (owner : State → State × Answer) : s.request p code allowed owner = s.latchOn p .frameError := by
  have : (s.port.get p).response.isSome = true := by
    unfold State.free at h
    exact Option.isSome_iff_ne_none.mpr h
  simp [State.request, this]

theorem request_rights {s : State} {p : Port} (h : s.free p) (code : Nat) {allowed : List Port}
    (hp : p ∉ allowed) (owner : State → State × Answer) :
    s.request p code allowed owner = s.answered p code .rights [] := by
  unfold State.free at h
  simp [State.request, h, hp, respond_restartSilence]

theorem request_taken {s : State} {p : Port} (h : s.free p) (code : Nat) {allowed : List Port}
    (hp : p ∈ allowed) (owner : State → State × Answer) :
    s.request p code allowed owner =
      (owner (s.restartSilence p)).1.respond p
        ⟨code, (owner (s.restartSilence p)).2.status, (owner (s.restartSilence p)).2.payload⟩ := by
  unfold State.free at h
  simp [State.request, h, hp]

/-- An owner that changes nothing leaves the answer alone. -/
theorem request_unchanged {s : State} {p : Port} (h : s.free p) (code : Nat) {allowed : List Port}
    (hp : p ∈ allowed) {owner : State → State × Answer} {a : Answer}
    (ho : owner (s.restartSilence p) = (s.restartSilence p, a)) :
    s.request p code allowed owner = s.answered p code a.status a.payload := by
  rw [request_taken h code hp, ho, respond_restartSilence]

theorem mem_anyPort (p : Port) : p ∈ anyPort := by cases p <;> decide

theorem onLine_num (l : LineId) (f : LineId → State → State × Answer) (s : State) :
    onLine l.num f s = f l s := by
  simp [onLine]

theorem onLine_none {n : Nat} (h : LineId.ofNat? n = none) (f : LineId → State → State × Answer) (s : State) :
    onLine n f s = (s, plain .range) := by
  simp [onLine, h]

theorem onTank_num (t : TankId) (f : TankId → State → State × Answer) (s : State) :
    onTank t.num f s = f t s := by
  simp [onTank]

theorem onTank_none {n : Nat} (h : TankId.ofNat? n = none) (f : TankId → State → State × Answer) (s : State) :
    onTank n f s = (s, plain .range) := by
  simp [onTank, h]

end Sys2Proof.Machine
end

