-- ==== Sys2Proof/Tests/Slice0.lean ====
section
/-! SUPPORT. Tests: the check on well-formedness, the codec on hand-written bytes, the worked values of the
manual, and for every statement that has hypotheses a state and operands that meet them. -/

namespace Sys2Proof.Tests

open Sys2Proof Sys2Proof.Machine

/-! ### Well-formedness: an ill-formed request for each check (R184) -/

def seatOk : SeatParams := ⟨214, 3, 1, 400, 450, 2500, 150000, 3000, 4, 2, 10⟩

theorem test_wf_seat_line : Instr.wf (.seat .gallery 256 seatOk) = false := by decide
theorem test_wf_seat_hole : Instr.wf (.seat .gallery 3 { seatOk with hole := 65536 }) = false := by decide
theorem test_wf_seat_stage : Instr.wf (.seat .gallery 3 { seatOk with stage := 256 }) = false := by decide
theorem test_wf_seat_order : Instr.wf (.seat .gallery 3 { seatOk with order := 256 }) = false := by decide
theorem test_wf_seat_top : Instr.wf (.seat .gallery 3 { seatOk with top := 65536 }) = false := by decide
theorem test_wf_seat_bottom : Instr.wf (.seat .gallery 3 { seatOk with bottom := 65536 }) = false := by decide
theorem test_wf_seat_pmax : Instr.wf (.seat .gallery 3 { seatOk with pmax := 65536 }) = false := by decide
theorem test_wf_seat_gin : Instr.wf (.seat .gallery 3 { seatOk with gin := 4294967296 }) = false := by decide
theorem test_wf_seat_vmax : Instr.wf (.seat .gallery 3 { seatOk with vmax := 65536 }) = false := by decide
theorem test_wf_seat_thickest : Instr.wf (.seat .gallery 3 { seatOk with thickest := 256 }) = false := by
  decide
theorem test_wf_seat_start : Instr.wf (.seat .gallery 3 { seatOk with start := 256 }) = false := by decide
theorem test_wf_seat_rateCap : Instr.wf (.seat .gallery 3 { seatOk with rateCap := 256 }) = false := by decide
theorem test_wf_test : Instr.wf (.test .gallery 256 0 0) = false ∧ Instr.wf (.test .gallery 3 65536 0) = false ∧
    Instr.wf (.test .gallery 3 0 65536) = false := by decide
theorem test_wf_lines :
    [Instr.charge .gallery 256, .inject .gallery 256, .finish .gallery 256, .abort .gallery 256,
      .clearFault .gallery 256, .circulate .gallery 256, .readOpen .gallery 256, .readCapture .gallery 256].all
      (fun i => !i.wf) = true := by decide
theorem test_wf_holds : Instr.wf (.releaseHold .gallery 256 0) = false ∧
    Instr.wf (.setCeiling .monitor 256 0) = false ∧ Instr.wf (.setCeiling .monitor 1 65536) = false ∧
    Instr.wf (.supervise .plant 256) = false := by decide
theorem test_wf_supply : Instr.wf (.deliver .plant 256 1 1) = false ∧ Instr.wf (.deliver .plant 1 256 1) = false ∧
    Instr.wf (.deliver .plant 1 1 65536) = false ∧ Instr.wf (.dump .plant 256) = false ∧
    Instr.wf (.writeTank .plant 256 0 0) = false ∧ Instr.wf (.writeTank .plant 1 65536 0) = false ∧
    Instr.wf (.writeTank .plant 1 0 256) = false := by decide
theorem test_wf_records : Instr.wf (.readLog .plant 65536) = false ∧ Instr.wf (.markRead .plant 65536) = false ∧
    Instr.wf (.readSnapshot .plant 256) = false ∧ Instr.wf (.note .plant 256) = false := by decide
theorem test_wf_writeLine :
    [LineWrite.mk 256 0 0 0 0 0 0 0 0, ⟨0, 65536, 0, 0, 0, 0, 0, 0, 0⟩, ⟨0, 0, 256, 0, 0, 0, 0, 0, 0⟩,
      ⟨0, 0, 0, 65536, 0, 0, 0, 0, 0⟩, ⟨0, 0, 0, 0, 65536, 0, 0, 0, 0⟩, ⟨0, 0, 0, 0, 0, 4294967296, 0, 0, 0⟩,
      ⟨0, 0, 0, 0, 0, 0, 65536, 0, 0⟩, ⟨0, 0, 0, 0, 0, 0, 0, 256, 0⟩, ⟨0, 0, 0, 0, 0, 0, 0, 0, 256⟩].all
      (fun q => !Instr.wf (.writeLine .gallery 1 q)) = true := by decide
theorem test_wf_writeMix :
    [MixWrite.mk 256 0 0 0, ⟨0, 65536, 0, 0⟩, ⟨0, 0, 65536, 0⟩, ⟨0, 0, 0, 65536⟩].all
      (fun q => !Instr.wf (.writeMix .gallery 1 q)) = true := by decide
theorem test_wf_writeBands :
    [BandTable.mk 65536 0 0 0 0 0 0 0, ⟨0, 65536, 0, 0, 0, 0, 0, 0⟩, ⟨0, 0, 65536, 0, 0, 0, 0, 0⟩,
      ⟨0, 0, 0, 256, 0, 0, 0, 0⟩, ⟨0, 0, 0, 0, 256, 0, 0, 0⟩, ⟨0, 0, 0, 0, 0, 256, 0, 0⟩,
      ⟨0, 0, 0, 0, 0, 0, 256, 0⟩, ⟨0, 0, 0, 0, 0, 0, 0, 256⟩].all
      (fun q => !Instr.wf (.writeBands .gallery q)) = true := by decide
theorem test_wf_writeTiming :
    [TimingTable.mk 65536 0 0 0 0 0 0 0, ⟨0, 256, 0, 0, 0, 0, 0, 0⟩, ⟨0, 0, 256, 0, 0, 0, 0, 0⟩,
      ⟨0, 0, 0, 256, 0, 0, 0, 0⟩, ⟨0, 0, 0, 0, 65536, 0, 0, 0⟩, ⟨0, 0, 0, 0, 0, 256, 0, 0⟩,
      ⟨0, 0, 0, 0, 0, 0, 65536, 0⟩, ⟨0, 0, 0, 0, 0, 0, 0, 256⟩].all
      (fun q => !Instr.wf (.writeTiming .gallery q)) = true := by decide
theorem test_wf_writeEnvelope :
    [EnvelopeTable.mk 65536 0 0 0 0, ⟨0, 256, 0, 0, 0⟩, ⟨0, 0, 256, 0, 0⟩, ⟨0, 0, 0, 65536, 0⟩,
      ⟨0, 0, 0, 0, 65536⟩].all (fun q => !Instr.wf (.writeEnvelope .monitor q)) = true := by decide
theorem test_wf_settings : Instr.wf (.writeMix .gallery 256 ⟨0, 0, 0, 0⟩) = false ∧
    Instr.wf (.readSettings .plant 256 0) = false ∧ Instr.wf (.readSettings .plant 0 256) = false ∧
    Instr.wf (.setClock .gallery 65536 0) = false ∧ Instr.wf (.setClock .gallery 0 16777216) = false := by
  decide

/-! ### The codec (R182, R184; log 21) -/

theorem test_decode_word_none : decodeTableWord 16 0xA5 = none := by decide

/-- A SEAT written byte by byte: line 3, hole 214, stage 3, order 1, top 400, bottom 450, Pmax 2500, GIN
150000, Vmax 3000, thickest 4, start 2, cap 10. -/
theorem test_decode_seat :
    decodeRequest .gallery 0x01
      [3, 0x00, 0xD6, 3, 1, 0x01, 0x90, 0x01, 0xC2, 0x09, 0xC4, 0x00, 0x02, 0x49, 0xF0, 0x0B, 0xB8, 4, 2, 10] =
      some (.seat .gallery 3 seatOk) := by decide
theorem test_decode_hold : decodeRequest .monitor 0x10 [0x18] = some (.hold .monitor 0x18) := by decide
theorem test_decode_deliver :
    decodeRequest .plant 0x20 [2, 3, 0x03, 0xE8] = some (.deliver .plant 2 3 1000) := by decide
theorem test_decode_markRead : decodeRequest .plant 0x33 [0xFF, 0xFF] = some (.markRead .plant 65535) := by decide
theorem test_decode_setMask :
    decodeRequest .gallery 0x4A [0x80, 0x01] = some (.setMask .gallery 0x8001) := by decide
theorem test_decode_setClock :
    decodeRequest .gallery 0x58 [0x7F, 0xFF, 0x01, 0x51, 0x7F] = some (.setClock .gallery 32767 86399) := by decide
theorem test_decode_writeMix :
    decodeRequest .gallery 0x51 [2, 1, 0, 80, 0x06, 0x0E, 0, 200] =
      some (.writeMix .gallery 2 ⟨1, 80, 1550, 200⟩) := by decide
theorem test_decode_unknown : decodeRequest .gallery 0x60 [] = none := by decide
theorem test_decode_length : decodeRequest .gallery 0x10 [1, 2] = none := by decide

/-! ### The worked values of the manual -/

/-- The period table of R30 at Tmin 800 ms. -/
theorem test_periods :
    (List.range' 1 15).map (strokePeriod 800) =
      [12000, 6000, 4000, 3000, 2400, 2000, 1714, 1500, 1333, 1200, 1090, 1000, 923, 857, 800] := by decide
/-- Nc of chapter 1's example and Nf at flush factor 2. -/
theorem test_counts : ceilDiv 20000 1900 = 11 ∧ ceilDiv (20000 * 2) 1900 = 22 := by decide
/-- The worked case of chapter 3: Pcap, pf, Hg. -/
theorem test_columns : depthCeiling 8000 425 = 3400 ∧ roundThousandth (981 * 425) = 417 ∧
    roundThousandth (1550 * 425) = 659 := by decide
/-- The worked case of chapter 3: threshold and lower band at 1879 and 1872 kPa. -/
theorem test_bands : excursionThreshold 1879 5 = 1972 ∧ lowerBandOf 1879 10 = 1691 ∧
    excursionThreshold 1872 5 = 1965 ∧ lowerBandOf 1872 10 = 1684 := by decide
/-- The worked case of chapter 4: 27 tLu, mean 1301 kPa, cut short, not low pressure. -/
theorem test_tLu :
    testResult { Regulator.powerOn with pressureSum := 624720, sampleCount := 480, testVolume := 72200 }
      1500 600 240 50 true = some ⟨1500, 600, 240, 480, 1301, 72200, 27, true, false⟩ := by decide
/-- The starting mixes of chapter 4's table at the default bands. -/
theorem test_bandChoice :
    bandChoice State.reset.bands (some ⟨1500, 600, 240, 480, 1301, 72200, 27, true, false⟩) = 1 ∧
    bandChoice State.reset.bands none = 2 ∧
    bandChoice State.reset.bands (some ⟨1500, 600, 240, 480, 1301, 72200, 150, true, false⟩) = 3 ∧
    bandChoice State.reset.bands (some ⟨1500, 600, 240, 480, 1301, 72200, 450, true, false⟩) = 4 := by decide
/-- The line set and the event set of R182: line 4 is bit 3, RESTARTED bit 14. -/
theorem test_bits : LineSet.toByte (.ofList [.l4]) = 8 ∧ Event.restarted.bit = 0x4000 := by decide

/-! ### Small states -/

/-- Line 3 of the worked case of chapter 3. -/
def line3 : LineEntry := ⟨true, 2000, 95, 800, 8, 20000, 6000, some .l2, some .l4⟩

/-- A part whose lines are all like line 3 and in IDLE, with mixes 2 and 4 enabled and T1 stocked with mix 2. -/
def part : State :=
  { State.reset with
    seq := .const { Sequencer.powerOn with state := .idle }
    lineTable := .const line3
    mixTable :=
      { State.reset.mixTable with
        c2 := ⟨true, some ⟨100, 1550, 0⟩⟩, c3 := ⟨true, some ⟨80, 1700, 5⟩⟩, c4 := ⟨true, some ⟨50, 1800, 0⟩⟩ }
    tanks := ⟨⟨.stocked, some 2, 10000, some 5⟩, .powerOn, .powerOn⟩
    runSeconds := 100 }

/-- The part with line 3 given a sequencer, a drive, a regulator and an open record. -/
def with3 (q : Sequencer) (d : Drive) (g : Regulator) (r : Option Record) : State :=
  { part with
    seq := part.seq.set .l3 q
    drive := part.drive.set .l3 d
    reg := part.reg.set .l3 g
    openRec := part.openRec.set .l3 r }

def rec3 : Record := part.newRecord .l3 seatOk 2500 false
def reg3 : Regulator :=
  { Regulator.powerOn with geometry := some ⟨425, 50⟩, pf := some 537, gauge := some ⟨120, false⟩ }
def seq3 (state : LineState) : Sequencer := { Sequencer.powerOn with state := state, packerInflated := true }
def grout3 (state : LineState) : Sequencer :=
  { seq3 state with currentMix := some 2, holdsGrout := true, nc := 11, chargeCount := 4, source := .tank .t1 }
def work3 (p : Purpose) (k : StrokePurpose) (running : Bool) : Drive :=
  ⟨p, if running then 5 else 0, if running then 5 else 0, some ⟨k, .tank .t1, 1900, running, 2400⟩, some 0, none,
    .stopped⟩

def seated3 : State := with3 { seq3 .seated with settled := true } restDrive reg3 (some rec3)
def unsettled3 : State :=
  with3 { seq3 .seated with settleTimer := .running 0 30000 } restDrive reg3 (some rec3)
def testing3 : State :=
  with3 { seq3 .testing with settled := true, testDuration := some 300, testTimer := some 300000 }
    (work3 .test .test true) { reg3 with testRunning := true, testTarget := some 1000 } (some rec3)
def charging3 : State := with3 (grout3 .charging) (work3 .charge .charge true) reg3 (some rec3)
def ready3 : State :=
  with3 { grout3 .ready with standingTimer := .running 0 1800000 }
    { restDrive with purpose := .charge, staticTimer := .running 0 120000 } reg3 (some rec3)
def burst3 (n : Nat) : State :=
  with3 (grout3 .ready) { work3 .charge .circulate true with burst := some n } reg3 (some rec3)
def injecting3 : State :=
  with3 (grout3 .injecting) (work3 .inject .inject true) { reg3 with refusalTimer := .running 0 300000 }
    (some { rec3 with steps := [⟨2, 0, ⟨0, 0⟩⟩] })
def flushing3 (count : Nat) : State :=
  with3 { seq3 .flushing with holdsGrout := true, nf := 22, flushCount := count }
    (work3 .flush .flush true) reg3 none
def fault3 (grout : Bool) : State :=
  with3 { seq3 .fault with faultCause := some .stroke, holdsGrout := grout } restDrive reg3 none
/-- Line 3 held by the gallery with its stroke paused. -/
def held3 (r : Resume) (k : StrokePurpose) (p : Purpose) : State :=
  { with3 { grout3 .held with resume := some r, waitHold := true, heldSince := some 90 }
      (work3 p k false) reg3 (some rec3) with
    holds := { HoldMap.empty with gOperator := some ⟨.ofList [.l3], ⟨⟨0, 0⟩, true⟩⟩ } }
/-- Line 3 waiting for mix 2. -/
def waiting3 : State :=
  { with3 { grout3 .held with resume := some .injecting, waitSupply := true, heldSince := some 90 }
      { restDrive with purpose := .inject } reg3 (some rec3) with
    demand := [⟨2, [.l3], ⟨⟨0, 0⟩, true⟩⟩]
    tanks := .const .powerOn
    currentTank := PerLine.set (.const none) .l3 (some .t1) }

/-- A log of `n` closed records numbered from 1, with every mark on the first. -/
def logged (n : Nat) (s : State) : State :=
  { s with
    log := (List.range' 1 n).map fun i =>
      { rec3 with entry := some i, ending := some ⟨0, 0, 0, ⟨0, 0⟩, .operator, none⟩ }
    nextEntry := n + 1 }

/-! ### The invariants, checked by computation -/

def lineCheck (s : State) (l : LineId) : Bool :=
  let q := s.seq.get l
  let d := s.drive.get l
  let still := q.state != .testing && q.state != .charging && q.state != .injecting && q.state != .flushing
  ((s.openRec.get l).isSome == q.state.hasStage) && (q.resume.isSome == (q.state == .held)) &&
  (q.currentMix.isSome == q.state.isGrout) &&
  (!s.covered l || (q.state != .testing && q.state != .charging && q.state != .injecting)) &&
  (q.waitHold == (q.state == .held && s.covered l)) && (q.waitSupply == onList s.demand l) &&
  (q.state != .held || q.waitHold || q.waitSupply || q.resumeAfterBurst) &&
  (!(q.waitSupply || q.resumeAfterBurst) || q.state == .held) &&
  (!q.resumeAfterBurst || (!q.waitHold && !q.waitSupply && d.burst.isSome)) &&
  purposeFits q d.purpose && (d.stroke.all fun k => strokeFits q d k) &&
  (!d.burst.isSome || q.state.stands) &&
  (d.stroke.all fun k => !k.running || k.purpose == .circulate || decide (0 < d.rate)) &&
  (d.burst.isSome || d.rate != 0 || d.pendingRate == 0) &&
  (d.burst.isSome || !still || (d.rate == 0 && d.pendingRate == 0))

theorem lineInv_of_check {s : State} {l : LineId} (h : lineCheck s l = true) : s.LineInv l := by
  simp only [lineCheck, Bool.and_eq_true, Bool.or_eq_true, Bool.not_eq_true', beq_iff_eq, bne_iff_ne,
    decide_eq_true_eq, Option.all_eq_true] at h
  obtain ⟨⟨⟨⟨⟨⟨⟨⟨⟨⟨⟨⟨⟨⟨h1, h2⟩, h3⟩, h4⟩, h5⟩, h6⟩, h7⟩, h8⟩, h9⟩, h10⟩, h11⟩, h12⟩, h13⟩, h14⟩, h15⟩ := h
  refine ⟨h1, h2, h3, fun h => ?_, h5, h6, fun h => ?_, fun h => ?_, fun h => ?_, h10, h11, fun h => ?_,
    fun k hk hr hc => ?_, fun hb hr => ?_, fun hb a b c e => ?_⟩
  · simp_all
  · simp_all
    tauto
  · rcases h with h | h <;> simp_all
  · simp_all
  · simp_all
  · have := h13 k hk
    simp_all
  · simp_all
  · simp_all

def linesCheck (s : State) : Bool := LineId.all.all (lineCheck s)

theorem linesInv_of_check {s : State} (h : linesCheck s = true) : s.LinesInv := by
  intro l
  refine lineInv_of_check ?_
  simp only [linesCheck, LineId.all, List.all_cons, List.all_nil, Bool.and_eq_true, and_true] at h
  cases l <;> simp_all

theorem logInv_of_reset : State.reset.LogInv :=
  ⟨by decide, by decide, by decide, trivial, fun p => .inl (by cases p <;> rfl)⟩

theorem logInv_of_logged : (logged 2 State.reset).LogInv :=
  ⟨by decide, by decide, by decide, ⟨rfl, rfl⟩, fun p => .inr (by cases p <;> decide)⟩

/-- A result read from the state a command leaves. -/
def after {α : Type} (r : Result) (f : State → Option α) : Option α :=
  match r with
  | .next t => f t
  | .fault _ => none
  | .refused _ => none

/-- In a state in which no event could come as the millisecond began none has been overtaken. -/
theorem notOvertaken {s : State} (h : s.cameDue = []) (i : Instr) : s.NotOvertaken i := by
  intro hm
  rw [h] at hm
  cases hm

/-! ### A state and operands for the hypotheses of each statement -/

/-- Commands that wait, and none that waits with and without an expiry due. -/
theorem witness_StepRunsFrontCommand :
    { part with pending := [.clockAdvance, .powerOn] }.pending = .clockAdvance :: [.powerOn] := rfl

/-- A part whose timers stand and whose tanks and clock are short of their time: nothing is due. -/
def quiet (s : State) : Bool :=
  (Port.all.all fun p => decide ((s.port.get p).rx = .hunt) && (s.port.get p).supervision.isNone) &&
  (LineId.all.all fun l => decide ((s.seq.get l).settleTimer = .stopped) && (s.seq.get l).testTimer.isNone &&
    (s.drive.get l).stroke.isNone && decide ((s.drive.get l).staticTimer = .stopped) &&
    decide ((s.seq.get l).standingTimer = .stopped) && decide ((s.reg.get l).refusalTimer = .stopped)) &&
  (TankId.all.all fun k => decide (s.runSeconds < (s.tanks.get k).birth.getD 0 + (s.tankTable.get k).ageLimit * 60)) &&
  decide (s.clockPhase < 1000) && decide (s.runPhase < 1000)

theorem nothingDue {s : State} (h : quiet s = true) : ∀ i, ¬s.IsDue i := by
  simp only [quiet, Bool.and_eq_true, List.all_eq_true, decide_eq_true_eq] at h
  obtain ⟨⟨⟨⟨hp, hl⟩, hk⟩, hc⟩, hr⟩ := h
  have hp : ∀ p, (s.port.get p).rx = .hunt ∧ (s.port.get p).supervision.isNone = true := fun p =>
    hp p (by cases p <;> decide)
  have hl := fun l => hl l (by cases l <;> decide)
  have hk : ∀ k, s.runSeconds < (s.tanks.get k).birth.getD 0 + (s.tankTable.get k).ageLimit * 60 := fun k =>
    hk k (by cases k <;> decide)
  intro i
  cases i <;> simp only [State.IsDue, RanOut, not_false_eq_true]
  case gapTimerExpiry p => simp [(hp p).1]
  case silenceTimerExpiry p => simp [Option.isNone_iff_eq_none.1 (hp p).2]
  case packerSettleExpiry l => simp [(hl l).1.1.1.1.1]
  case testTimerExpiry l => simp [Option.isNone_iff_eq_none.1 (hl l).1.1.1.1.2]
  case strokeWatchExpiry l => simp [Option.isNone_iff_eq_none.1 (hl l).1.1.1.2]
  case circulationStaticExpiry l => simp [(hl l).1.1.2]
  case standingTimerExpiry l => simp [(hl l).1.2]
  case refusalTimerExpiry l => simp [(hl l).2]
  case ageExpiry k => exact fun h => absurd h.2 (Nat.not_le.2 (hk k))
  case clockAdvance => omega
  case runSecondsAdvance => omega

theorem nothingOwed : ∀ l, ¬State.reset.Owes l := by
  intro l h
  cases l <;> exact absurd h.1 (by decide)

/-- Nothing due and nothing owed; the site clock due to the millisecond. -/
theorem witness_IdleStepPassesTime :
    (State.reset.pending = [] ∧ (∀ i, ¬State.reset.IsDue i) ∧ ∀ l, ¬State.reset.Owes l) ∧
    ({ part with clockPhase := 1000 }.pending = [] ∧
      State.IsDue { part with clockPhase := 1000 } .clockAdvance ∧
      ¬State.IsDue { part with clockPhase := 999 } .clockAdvance ∧
      { part with clockPhase := 1000 }.due = .clockAdvance :: []) :=
  ⟨⟨rfl, nothingDue (by decide), nothingOwed⟩, rfl, by simp only [State.IsDue]; decide,
    by simp only [State.IsDue]; decide, by decide⟩

theorem witness_CabinetResetSetsEveryBlock :
    { part with resetAsserted := true }.resetAsserted = true ∧ injecting3.resetAsserted = false ∧
    ∀ l, (injecting3.openRec.get l).isSome = (injecting3.lineState l).hasStage :=
  ⟨rfl, rfl, by intro l; cases l <;> rfl⟩

/-- A full log, with an open stage on line 3. -/
theorem witness_CabinetResetClosesOpenStages :
    (logged 32 injecting3).resetAsserted = false ∧ (logged 32 injecting3).log.length ≤ 32 ∧
    (∀ l, ((logged 32 injecting3).openRec.get l).isSome = ((logged 32 injecting3).lineState l).hasStage) ∧
    ((logged 32 injecting3).openRec.get .l3).isSome = true :=
  ⟨rfl, by simp [logged], by intro l; cases l <;> rfl, rfl⟩

/-- The part with the receiver of the gallery port given. -/
def heard (rx : Receiver) : State := State.reset.setReceiver .gallery rx

theorem witness_ReceiverAssemblesFrames :
    (State.reset.port.get .gallery).rx = .hunt ∧
    ((heard (.receiving [0xA5] 19)).port.get .gallery).rx = .receiving [0xA5] 19 ∧
    [(0xA5 : Byte)].length = 1 ∧ 240 < (0xF1 : Byte).toNat ∧ (0xF0 : Byte).toNat ≤ 240 ∧
    ((heard (.receiving [0xA5, 0] 0)).port.get .gallery).rx = .receiving [0xA5, 0] 0 ∧
    2 ≤ [(0xA5 : Byte), 0].length ∧
    [(0xA5 : Byte), 0].length + 1 ≠ 5 + ([(0xA5 : Byte), 0].getD 1 0).toNat ∧
    (heard (.receiving [0xA5] 20)).NotOvertaken (.gapTimerExpiry .gallery) := by
  refine ⟨by decide, by decide, by decide, by decide, by decide, by decide, by decide, by decide, notOvertaken rfl _⟩

/-- The frames of READ_EVENTS, of an unknown code and of a HOLD without its payload, their checks good, each
awaiting its last byte; the first also while a response is pending and with a wrong check. -/
theorem witness_CompleteFramesAreChecked :
    let c (code : Byte) (i : Nat) : Byte := (be 2 (check [0, code]).toNat).getD i 0
    let s (code : Byte) : State := heard (.receiving (0xA5 :: 0 :: code :: ([] ++ [c code 0])) 3)
    let busy : State := (s 0x48).updPort .gallery fun q => { q with response := some ⟨0x48, .ok, []⟩ }
    ([] : List Byte).length = (0 : Byte).toNat ∧ (0 : Byte).toNat ≤ 240 ∧
    (∀ code ∈ [(0x48 : Byte), 0x60, 0x10],
      ((s code).port.get .gallery).rx = .receiving (0xA5 :: 0 :: code :: ([] ++ [c code 0])) 3 ∧
      ((s code).port.get .gallery).response = none ∧
      [c code 0, c code 1] = be 2 (check (0 :: code :: [])).toNat) ∧
    (busy.port.get .gallery).response.isSome = true ∧
    ¬[c 0x48 0, c 0x48 1 + 1] = be 2 (check (0 :: 0x48 :: [])).toNat ∧
    requestLength (0x60 : Byte).toNat = none ∧
    requestLength (0x10 : Byte).toNat = some 1 ∧ 1 ≠ ([] : List Byte).length := by decide +kernel

theorem witness_FrameRunsItsRequest :
    IsRequest (.hold .monitor 0x18) .monitor 0x10 [0x18] ∧ Instr.wf (.hold .monitor 0x18) = true ∧
    (State.reset.port.get .monitor).rx = .hunt ∧ State.reset.free .monitor :=
  ⟨⟨rfl, rfl⟩, rfl, rfl, rfl⟩

theorem witness_DecodingTheEncodingIsTheRequest :
    IsRequest (.markRead .plant 65535) .plant 0x33 [0xFF, 0xFF] ∧ Instr.wf (.markRead .plant 65535) = true :=
  ⟨⟨rfl, by decide⟩, by decide⟩

/-- A port that is sending a response. -/
def sending (restart : Bool) : State :=
  part.updPort .gallery fun q => { q with response := some ⟨0x5D, .ok, []⟩, restartWaiting := restart }

theorem witness_PendingAndRightsChecks :
    IsRequest (.dump .gallery 1) .gallery 0x21 [1] ∧ ¬(sending false).free .gallery ∧
    part.free .gallery ∧ Port.gallery ∉ allowedPorts 0x21 :=
  ⟨⟨rfl, rfl⟩, by unfold State.free; decide, rfl, by decide⟩

theorem witness_ResponseEndFreesThePortOrRestarts :
    part.free .gallery ∧ Port.gallery ≠ .plant ∧
    ¬(sending false).free .gallery ∧ ((sending false).port.get .gallery).restartWaiting = false ∧
    ¬(sending true).free .gallery ∧ ((sending true).port.get .gallery).restartWaiting = true := by
  unfold State.free; decide

theorem witness_ReadEventsReportsBothSets : part.free .plant := rfl

theorem witness_ReadsReportTheirValues : waiting3.free .plant ∧ injecting3.free .plant ∧ (0 = 0 ∨ 6 < 0) ∧ (7 = 0 ∨ 6 < 7) :=
  ⟨rfl, rfl, by decide⟩

theorem witness_ReadLogFindsHeldRecords :
    (logged 2 State.reset).free .gallery ∧ (logged 2 State.reset).LogInv ∧
    (∃ r ∈ (logged 2 State.reset).log, r.number = ((logged 2 State.reset).port.get .gallery).mark) ∧
    3 ≠ 0 ∧ 3 ∉ (logged 2 State.reset).numbers ∧
    State.reset.free .gallery ∧ State.reset.LogInv ∧
    (State.reset.port.get .gallery).mark = State.reset.nextEntry :=
  ⟨rfl, logInv_of_logged, by decide, by decide, by decide, rfl, logInv_of_reset, rfl⟩

theorem witness_LogRangeCountsFromTheMark :
    (logged 2 State.reset).free .plant ∧ (logged 2 State.reset).LogInv := ⟨rfl, logInv_of_logged⟩

/-- A log of one record whose number is the last before the numbers begin again. -/
def logged65535 : State :=
  { State.reset with
    log := [{ rec3 with entry := some 65535, ending := some ⟨0, 0, 0, ⟨0, 0⟩, .operator, none⟩ }] }

theorem witness_MarkReadMovesTheMark :
    (logged 2 State.reset).free .gallery ∧ (logged 2 State.reset).LogInv ∧
    1 ∈ (logged 2 State.reset).numbers ∧ (logged 2 State.reset).numbers.getLast? = some 2 ∧
    3 ∉ (logged 2 State.reset).numbers ∧
    logged65535.free .gallery ∧ logged65535.LogInv ∧ 65535 ∈ logged65535.numbers :=
  ⟨rfl, logInv_of_logged, by decide, by decide, by decide, rfl,
    ⟨by decide, by decide, by decide, rfl, fun p => .inl (by cases p <;> rfl)⟩, by decide⟩

/-- A part whose gallery port holds a snapshot. -/
def snapped : State := part.updPort .gallery fun q => { q with snapshot := some part.takeSnapshot }

theorem witness_SnapshotsAreOneInstant :
    part.free .gallery ∧ (part.port.get .gallery).snapshot = none ∧ 2 < 3 ∧ 2 ≤ 2 ∧
    snapped.free .gallery ∧ part.takeSnapshot ∈ (snapped.port.get .gallery).snapshot :=
  ⟨rfl, rfl, by decide, by decide, rfl, rfl⟩

theorem witness_SettingsReadBackAsWritten :
    part.free .plant ∧ (0 = 0 ∨ 6 < 0) ∧ 6 < 7 ∧ (1 = 1 ∧ (0 = 0 ∨ 6 < 0)) ∧ (1 = 1 ∧ (7 = 0 ∨ 6 < 7)) ∧
    (2 ≤ 2 ∧ 1 ≠ 0) := ⟨rfl, by decide⟩

theorem witness_EventsMasksAndNotes :
    part.free .gallery ∧ 1 ≤ 1 ∧ 1 ≤ 255 ∧ 255 ≤ 255 ∧ Port.monitor ≠ .gallery := ⟨rfl, by decide⟩

theorem witness_PortResetAndSupervise :
    part.free .gallery ∧ 60 < 61 ∧ 0 = 0 ∧ 1 ≤ 1 ∧ 1 ≤ 60 ∧ 60 ≤ 60 ∧ Port.plant ≠ .gallery :=
  ⟨rfl, by decide⟩

theorem witness_TableWritesReplaceTheTable :
    part.free .gallery ∧ part.free .monitor ∧ (0 = 0 ∨ 6 < 0) ∧ (7 = 0 ∨ 6 < 7) := ⟨rfl, rfl, by decide⟩

/-- A part in which line 2 is disabled and in OFF. -/
def offTwo : State := { part with seq := part.seq.set .l2 .powerOn }

theorem witness_MixAndLineWrites :
    offTwo.free .gallery ∧ offTwo.lineState .l2 = .off ∧ offTwo.lineState .l1 = .idle ∧
    ready3.free .gallery ∧ ready3.lineState .l3 ≠ .off ∧ ready3.lineState .l3 ≠ .idle ∧
    (0 = 0 ∨ 6 < 0) ∧ (7 = 0 ∨ 6 < 7) := ⟨rfl, rfl, rfl, rfl, by decide⟩

theorem witness_ClockIsSetAndAdvances :
    part.free .monitor ∧ Port.monitor ≠ .plant ∧ part.clock.second < 86399 ∧
    ({ part with clock := ⟨32767, 86399, true⟩ }.clock.second = 86399 ∧
      { part with clock := ⟨32767, 86399, true⟩ }.clock.day ≤ 32767) ∧
    ({ part with clock := ⟨32766, 86399, true⟩ }.clock.second = 86399 ∧
      { part with clock := ⟨32766, 86399, true⟩ }.clock.day ≤ 32767) ∧
    part.runSeconds < 4294967295 ∧
    { part with runSeconds := 4294967295 }.runSeconds = 4294967295 ∧
    part.NotOvertaken .clockAdvance ∧ part.NotOvertaken .runSecondsAdvance :=
  ⟨rfl, by decide, by decide, by decide, by decide, by decide, by decide, notOvertaken rfl _, notOvertaken rfl _⟩

theorem witness_HoldMergesIntoItsEntry :
    part.free .plant ∧ ((0 : Byte).toNat = 0 ∨ 64 ≤ (0 : Byte).toNat) ∧
    ((64 : Byte).toNat = 0 ∨ 64 ≤ (64 : Byte).toNat) ∧ 1 ≤ (1 : Byte).toNat ∧ (1 : Byte).toNat ≤ 63 ∧
    1 ≤ (63 : Byte).toNat ∧ (63 : Byte).toNat ≤ 63 ∧
    part.holds.get (requestKey .plant) ≠ some ⟨.ofByte 63, part.stamp⟩ ∧
    (held3 .injecting .inject .inject).holds.get (requestKey .gallery) =
      some ⟨.ofByte 4, ⟨⟨0, 0⟩, true⟩⟩ ∧
    (∃ l, part.covered l = (part.covered l || (LineSet.ofByte 1).get l)) :=
  ⟨rfl, by decide, by decide, by decide, by decide, by decide, by decide, by decide, by decide, .l2, by decide⟩

/-- A line for each case: charging, injecting, waiting for supply, testing with a CHARGE deferred, ready. -/
theorem witness_HoldActsByTheLineState :
    let tested : State := { testing3 with seq := testing3.seq.upd .l3 fun q => { q with slot := some .charge } }
    (4 : Byte).toNat ≤ 63 ∧ (LineSet.ofByte 4).get .l3 = true ∧
    (∀ s ∈ [charging3, injecting3, waiting3, tested, ready3],
      s.free .monitor ∧ s.covered .l3 = false ∧ s.LineInv .l3) ∧
    charging3.lineState .l3 = .charging ∧ injecting3.lineState .l3 = .injecting ∧
    waiting3.lineState .l3 = .held ∧ tested.lineState .l3 = .testing ∧
    (tested.seq.get .l3).slot = some .charge ∧ ready3.lineState .l3 = .ready := by
  refine ⟨by decide, by decide, ?_, rfl, rfl, rfl, rfl, rfl, rfl⟩
  intro s h
  simp only [List.mem_cons, List.not_mem_nil, or_false] at h
  rcases h with rfl | rfl | rfl | rfl | rfl <;> exact ⟨rfl, by decide, lineInv_of_check (by decide)⟩

theorem witness_ReleaseRemovesTheLines :
    let s := held3 .injecting .inject .inject
    let w : State := { part with holds := { HoldMap.empty with watch := some ⟨.ofList [.l2], ⟨⟨0, 0⟩, true⟩⟩ } }
    s.free .gallery ∧ (0 = 0 ∨ 5 < 0 ∨ 64 ≤ (4 : Byte).toNat) ∧ (6 = 0 ∨ 5 < 6 ∨ 64 ≤ (4 : Byte).toNat) ∧
    (1 = 0 ∨ 5 < 1 ∨ 64 ≤ (64 : Byte).toNat) ∧ 1 ≤ 1 ∧ 5 ≤ 5 ∧ (63 : Byte).toNat ≤ 63 ∧
    (5 ≠ 4 ∧ 5 ≠ Port.gallery.num) ∧ 1 = Port.gallery.num ∧
    s.holds.get (silenceKey .gallery) = none ∧ s.holds.get (requestKey .gallery) ≠ none ∧
    (∀ k e, s.holds.get k = some e → e.lines.isEmpty = false) ∧
    s.holds.watch = none ∧ w.free .gallery ∧ w.holds.watch ≠ none ∧
    (∀ k e, w.holds.get k = some e → e.lines.isEmpty = false) := by
  refine ⟨rfl, by decide, by decide, by decide, by decide, by decide, by decide, by decide, by decide, by decide,
    by decide, ?_, by decide, rfl, by decide, ?_⟩
  all_goals
    intro k e h
    cases k <;> (cases h; try rfl)

/-- Line 3 held by the key given alone, in the state of another part. -/
def heldBy (key : HoldKey) (s : State) : State :=
  { s with
    holds := HoldMap.empty.set key (some ⟨.ofList [.l3], ⟨⟨0, 0⟩, true⟩⟩)
    seq := s.seq.upd .l3 fun q => { q with waitHold := true } }

/-- Line 3 in HELD without a stroke, with tank 1 or without any. -/
def idle3 (r : Resume) (tanks : PerTank Tank) : State :=
  heldBy .gOperator { with3 { grout3 .held with resume := some r, heldSince := some 90 }
    { restDrive with purpose := if r = .charging then .charge else .inject } reg3 (some rec3) with tanks := tanks }

/-- Line 3 in HELD with a burst running. -/
def bursting3 : State :=
  heldBy .gOperator (with3 { grout3 .held with resume := some .injecting, heldSince := some 90 }
    { work3 .inject .circulate true with burst := some 1 } reg3 (some rec3))

/-- What the statement asks of every case. -/
theorem releaseCase (s : State) (p : Port) (key : HoldKey) (r : Resume)
    (hf : s.free p) (hs : s.holds = HoldMap.empty.set key (some ⟨.ofList [.l3], ⟨⟨0, 0⟩, true⟩⟩))
    (hi : lineCheck s .l3 = true) (hh : s.lineState .l3 = .held) (hr : (s.seq.get .l3).resume = some r) :
    let e : HoldEntry := ⟨.ofList [.l3], ⟨⟨0, 0⟩, true⟩⟩
    s.free p ∧ (4 : Byte).toNat ≤ 63 ∧ e ∈ s.holds.get key ∧ e.lines.get .l3 = true ∧
    (LineSet.ofByte 4).get .l3 = true ∧ (∀ k, k ≠ key → ∀ f ∈ s.holds.get k, f.lines.get .l3 = false) ∧
    s.LineInv .l3 ∧ s.lineState .l3 = .held ∧ r ∈ (s.seq.get .l3).resume := by
  refine ⟨hf, by decide, ?_, rfl, by decide, ?_, lineInv_of_check hi, hh, hr⟩
  · rw [hs]
    cases key <;> rfl
  · intro k hk f h
    rw [hs] at h
    revert hk h
    cases key <;> cases k <;> intro hk h <;> first | exact absurd rfl hk | cases h

/-- Supply kept; a burst running; a paused stroke of each purpose, its watch short of three periods by one
millisecond; no stroke, with and without a tank; and a release of the WATCH entry. -/
theorem witness_ReleaseResumesTheLine :
    let stroke (p : StrokePurpose) : Stroke := ⟨p, .tank .t1, 1900, false, 2400⟩
    let watched (s : State) (w : Nat) : State := { s with drive := s.drive.upd .l3 fun d => { d with watch := some w } }
    let meets (s : State) (key : HoldKey) (r : Resume) : Prop :=
      s.free .gallery ∧ (4 : Byte).toNat ≤ 63 ∧
      (⟨.ofList [.l3], ⟨⟨0, 0⟩, true⟩⟩ : HoldEntry) ∈ s.holds.get key ∧
      (∀ k, k ≠ key → ∀ f ∈ s.holds.get k, f.lines.get .l3 = false) ∧ s.LineInv .l3 ∧
      s.lineState .l3 = .held ∧ r ∈ (s.seq.get .l3).resume
    (releaseKey .gallery 1 = some .gOperator ∧ (LineSet.ofByte 4).get .l3 = true ∧
      ∀ k, k ≠ LineId.l3 → (LineSet.ofByte 4).get k = false) ∧
    (meets (heldBy .gOperator waiting3) .gOperator .injecting ∧ (waiting3.seq.get .l3).waitSupply = true) ∧
    (meets bursting3 .gOperator .injecting ∧ (bursting3.seq.get .l3).waitSupply = false ∧
      (bursting3.drive.get .l3).burst ≠ none) ∧
    (meets (watched (held3 .injecting .inject .inject) 35999) .gOperator .injecting ∧
      stroke .inject ∈ ((watched (held3 .injecting .inject .inject) 35999).drive.get .l3).stroke ∧
      35999 < 3 * (line3.tmin * 15 / part.rateOf .injecting)) ∧
    (meets (watched (held3 .charging .charge .charge) 4499) .gOperator .charging ∧
      stroke .charge ∈ ((watched (held3 .charging .charge .charge) 4499).drive.get .l3).stroke ∧
      4499 < 3 * (line3.tmin * 15 / part.rateOf .charging) ∧ 0 < part.rateOf .charging) ∧
    (∀ x ∈ [(Resume.charging, part.tanks), (.injecting, part.tanks), (.charging, PerTank.const .powerOn),
        (.injecting, .const .powerOn)],
      meets (idle3 x.1 x.2) .gOperator x.1 ∧ ((idle3 x.1 x.2).drive.get .l3).stroke = none ∧
      2 ∈ ((idle3 x.1 x.2).seq.get .l3).currentMix) ∧
    .t1 ∈ (idle3 .injecting part.tanks).selectTank .l3 2 1900 ∧
    (idle3 .injecting (.const .powerOn)).selectTank .l3 2 1900 = none ∧
    meets (heldBy .watch (held3 .injecting .inject .inject)) .watch .injecting := by
  have drop : ∀ (s : State) (key : HoldKey) (r : Resume), s.free .gallery →
      s.holds = HoldMap.empty.set key (some ⟨.ofList [.l3], ⟨⟨0, 0⟩, true⟩⟩) → lineCheck s .l3 = true →
      s.lineState .l3 = .held → (s.seq.get .l3).resume = some r → _ := fun s key r a b c d e =>
    let h := releaseCase s .gallery key r a b c d e
    (⟨h.1, h.2.1, h.2.2.1, h.2.2.2.2.2.1, h.2.2.2.2.2.2⟩ : _ ∧ _ ∧ _ ∧ _ ∧ _)
  refine ⟨⟨rfl, by decide, by intro k; cases k <;> decide⟩, ⟨drop _ _ _ rfl rfl (by decide) rfl rfl, rfl⟩,
    ⟨drop _ _ _ rfl rfl (by decide) rfl rfl, rfl, by decide⟩,
    ⟨drop _ _ _ rfl rfl (by decide) rfl rfl, rfl, by decide⟩,
    ⟨drop _ _ _ rfl rfl (by decide) rfl rfl, rfl, by decide, by decide⟩, ?_, by decide, by decide,
    drop _ _ _ rfl rfl (by decide) rfl rfl⟩
  intro x h
  simp only [List.mem_cons, List.not_mem_nil, or_false] at h
  rcases h with rfl | rfl | rfl | rfl <;>
  exact ⟨drop _ _ _ rfl rfl (by decide) rfl rfl, rfl, rfl⟩

/-- A port whose silence timer has just reached its interval, as it lapses and as it receives a request. -/
theorem witness_SilenceLapseHoldsEveryLine :
    let s : State :=
      State.updPort { injecting3 with cameDue := [.silenceTimerExpiry .plant] } .plant fun q =>
        { q with supervision := some 60, silence := some 60000 }
    s.LinesInv ∧ (s.port.get .plant).supervision.isSome = true ∧ (s.port.get .plant).silence.isSome = true ∧
    s.NotOvertaken (.silenceTimerExpiry .plant) ∧
    s.holds.get (silenceKey .plant) ≠ some ⟨.full, s.stamp⟩ ∧ (injecting3.port.get .plant).supervision = none ∧
    IsRequest (.readTanks .plant) .plant 0x22 [] ∧ s.free .plant ∧
    .silenceTimerExpiry .plant ∈ s.cameDue ∧
    after (exec (.readTanks .plant) s) (fun t => some (decide ((t.port.get .plant).supervision ≠ some 0))) =
      some true :=
  ⟨linesInv_of_check (by decide), rfl, rfl, fun _ => ⟨60, rfl, 60000, rfl, by decide⟩, by decide, rfl, ⟨rfl, rfl⟩, rfl,
    by decide, by decide⟩

/-- A request turned away at each check: busy, held, out of range, in conflict. -/
theorem witness_LineRequestsAreChecked :
    let covered : State :=
      { seated3 with holds := { HoldMap.empty with gOperator := some ⟨.ofList [.l3], ⟨⟨0, 0⟩, true⟩⟩ } }
    let sensor : State :=
      { fault3 false with
        seq := (fault3 false).seq.upd .l3 fun q => { q with faultCause := some .sensor }
        reg := (fault3 false).reg.upd .l3 fun g => { g with lastReading := .invalid } }
    seated3.free .gallery ∧ (0 = 0 ∨ 6 < 0) ∧ (7 = 0 ∨ 6 < 7) ∧ ¬seated3.accepts .l3 .inject ∧
    (covered.free .gallery ∧ covered.accepts .l3 .charge ∧ covered.heldBack .l3 .charge) ∧
    (seated3.accepts .l3 (.test 99 60) ∧ ¬seated3.heldBack .l3 (.test 99 60) ∧ ¬ReqInRange seated3 (.test 99 60)) ∧
    (seated3.accepts .l1 (.seat seatOk) ∧ ¬seated3.heldBack .l1 (.seat seatOk) ∧
      ReqInRange seated3 (.seat seatOk) ∧ ReqConflict seated3 .l1 (.seat seatOk)) ∧
    part.lineState .l3 = .idle ∧ seated3.lineState .l3 ≠ .fault ∧
    (sensor.free .gallery ∧ sensor.lineState .l3 = .fault ∧ (sensor.seq.get .l3).faultCause = some .sensor ∧
      (sensor.reg.get .l3).lastReading = .invalid) ∧
    ((burst3 6).drive.get .l3).burst ≠ none ∧
    (seated3.lineState .l3 ≠ .ready ∧ (seated3.lineState .l3 ≠ .held ∨ (seated3.seq.get .l3).holdsGrout = false)) := by
  refine ⟨rfl, by decide, by decide, ?_, ⟨rfl, ?_, ?_⟩, ⟨?_, ?_, ?_⟩, ⟨?_, ?_, ?_, ⟨.l3, ?_, ?_⟩⟩, rfl, by decide,
    ⟨rfl, rfl, rfl, rfl⟩, by decide, by decide⟩
  all_goals
    try simp only [State.accepts, State.takesAtOnce, State.defers, State.heldBack, ReqInRange, SeatInRange]
    decide

/-- Slots filled in each way, and a waiting request at each of its run points, covered and not; nothing has been
overtaken (`notOvertaken`). -/
theorem witness_DeferredRequestsWaitAndRun :
    let slotted (s : State) (req : PendingReq) : State :=
      { s with seq := s.seq.upd .l3 fun q => { q with slot := some req } }
    let held (s : State) : State :=
      { s with holds := { HoldMap.empty with pPlant := some ⟨.ofList [.l3], ⟨⟨0, 0⟩, true⟩⟩ } }
    (unsettled3.free .gallery ∧ ReqInRange unsettled3 .charge ∧ unsettled3.defers .l3 .charge ∧
      (unsettled3.seq.get .l3).slot = none ∧ ¬unsettled3.heldBack .l3 .charge ∧
      ¬ReqConflict unsettled3 .l3 .charge) ∧
    ((flushing3 0).free .gallery ∧ ReqInRange (flushing3 0) (.seat seatOk) ∧
      (flushing3 0).defers .l3 (.seat seatOk) ∧ ((flushing3 0).seq.get .l3).slot = none ∧
      ¬(flushing3 0).heldBack .l3 (.seat seatOk) ∧ ¬ReqConflict (flushing3 0) .l3 (.seat seatOk)) ∧
    (ReqInRange unsettled3 (.test 1500 60) ∧
      ∀ req ∈ [PendingReq.charge, .test 1500 60], ∀ s ∈ [slotted unsettled3 req, held (slotted unsettled3 req)],
        (s.seq.get .l3).slot = some req ∧ s.lineState .l3 = .seated ∧ (s.seq.get .l3).settled = false ∧
        (s.seq.get .l3).settleTimer ≠ .stopped) ∧
    (∀ s ∈ [slotted unsettled3 .charge, slotted unsettled3 (.test 1500 60), slotted testing3 .charge,
      slotted charging3 .inject, slotted (flushing3 21) (.seat seatOk)], s.cameDue = []) ∧
    (slotted unsettled3 .charge).covered .l3 = false ∧ (held (slotted unsettled3 .charge)).covered .l3 = true ∧
    ((slotted testing3 .charge).free .gallery ∧ ((slotted testing3 .charge).seq.get .l3).slot = some .charge ∧
      (slotted testing3 .charge).lineState .l3 = .testing ∧
      ((slotted testing3 .charge).seq.get .l3).testTimer ≠ none ∧
      (slotted testing3 .charge).covered .l3 = false) ∧
    (let s := slotted { charging3 with seq := charging3.seq.upd .l3 fun q => { q with chargeCount := 10 } } .inject;
      (⟨.charge, .tank .t1, 1900, true, 2400⟩ : Stroke) ∈ (s.drive.get .l3).stroke ∧ s.LineInv .l3 ∧
      (s.seq.get .l3).chargeCount + 1 = (s.seq.get .l3).nc ∧ s.lineState .l3 = .charging ∧
      (s.seq.get .l3).slot = some .inject ∧ s.covered .l3 = false) ∧
    (let s := slotted (flushing3 21) (.seat seatOk);
      (⟨.flush, .tank .t1, 1900, true, 2400⟩ : Stroke) ∈ (s.drive.get .l3).stroke ∧ s.LineInv .l3 ∧
      (s.seq.get .l3).flushCount + 1 = (s.seq.get .l3).nf ∧ s.lineState .l3 = .flushing ∧
      (s.seq.get .l3).slot = some (.seat seatOk) ∧ ¬ReqConflict s .l3 (.seat seatOk)) := by
  refine ⟨⟨rfl, trivial, ?_, rfl, ?_, ?_⟩, ⟨rfl, ?_, ?_, rfl, ?_, ?_⟩, ⟨?_, by decide⟩, by decide, by decide, by decide,
    ⟨rfl, rfl, rfl, by decide, by decide⟩,
    ⟨rfl, lineInv_of_check (by decide), rfl, rfl, rfl, by decide⟩,
    ⟨rfl, lineInv_of_check (by decide), rfl, rfl, rfl, ?_⟩⟩
  all_goals
    simp only [State.defers, State.heldBack, ReqInRange, SeatInRange, ReqConflict]
    first
    | decide
    | (rintro ⟨k, hn, hk⟩; revert hn hk; cases k <;> decide)

theorem witness_SeatOpensAStage :
    part.free .gallery ∧ part.lineState .l3 = .idle ∧ SeatInRange part seatOk ∧
    ∀ k, k ≠ LineId.l3 → (seatOk.hole, seatOk.stage) ∉ part.claims k := by
  refine ⟨rfl, rfl, by unfold SeatInRange; decide, ?_⟩
  intro k _
  cases k <;> decide

/-- A current tank that fits; two tanks that fit with equal births; none. -/
theorem witness_TankSelection :
    let fit (s : State) (k : TankId) : Prop :=
      (s.tanks.get k).state = .stocked ∧ (s.tanks.get k).mix = some 2 ∧ 1900 ≤ (s.tanks.get k).level
    let stands : State := { part with currentTank := part.currentTank.set .l3 (some .t1) }
    let two : State := { part with tanks := part.tanks.set .t3 (part.tanks.get .t1) }
    (stands.currentTank.get .l3 = some .t1 ∧ fit stands .t1) ∧
    ((∀ k, two.currentTank.get .l3 = some k → ¬fit two k) ∧ fit two .t1 ∧
      ∀ j, fit two j →
        (two.tanks.get .t1).birth.getD 0 < (two.tanks.get j).birth.getD 0 ∨
        (two.tanks.get .t1).birth.getD 0 = (two.tanks.get j).birth.getD 0 ∧ TankId.t1.num ≤ j.num) ∧
    (∀ k, waiting3.currentTank.get .l3 = some k → ¬fit waiting3 k) ∧ ∀ k, ¬fit waiting3 k := by
  refine ⟨by decide, ⟨?_, by decide, ?_⟩, ?_, ?_⟩
  · intro k hk
    cases hk
  · intro j hj
    revert hj
    cases j <;> decide
  · intro k _
    cases k <;> decide
  · intro k
    cases k <;> decide

/-- The starting mix as requested (mix 2), by the band table (mix 2 is its choice without a test), from tank 1
and with every tank empty. -/
theorem witness_ChargeStartsOrWaitsForSupply :
    ∀ start ∈ [2, 0],
      let r : Record := { rec3 with startMix := start }
      let s : State := { seated3 with openRec := seated3.openRec.set .l3 (some r) }
      s.free .gallery ∧ s.lineState .l3 = .seated ∧ (s.seq.get .l3).settled = true ∧ s.covered .l3 = false ∧
      s.LineInv .l3 ∧ 1 ≤ s.timing.chargeStep ∧ r ∈ s.openRec.get .l3 ∧
      s.bands.m0 = 2 ∧ s.bands.m0 ≤ r.thickest ∧ s.mixEnabled 2 = true ∧ .t1 ∈ s.selectTank .l3 2 1900 ∧
      { s with tanks := .const .powerOn }.LineInv .l3 ∧
      State.selectTank { s with tanks := .const .powerOn } .l3 2 1900 = none := by
  intro x hx
  simp only [List.mem_cons, List.not_mem_nil, or_false] at hx
  rcases hx with rfl | rfl <;>
  exact ⟨rfl, rfl, rfl, by decide, lineInv_of_check (by decide), by decide, rfl, rfl, by decide, by decide,
    by decide, lineInv_of_check (by decide), by decide⟩

/-- The starting mix clamped: the band table's choice 1 for 30 tLu is not enabled, and tank 2 holds mix 4. -/
theorem witness_ChargeStartsOrWaitsForSupply_clamped :
    let r : Record := { rec3 with startMix := 0, test := some ⟨1500, 600, 600, 1200, 1300, 80000, 30, false, false⟩ }
    let s : State :=
      { seated3 with
        openRec := seated3.openRec.set .l3 (some r)
        tanks := seated3.tanks.set .t2 ⟨.stocked, some 4, 5000, some 7⟩ }
    s.free .gallery ∧ s.lineState .l3 = .seated ∧ (s.seq.get .l3).settled = true ∧ s.covered .l3 = false ∧
    s.LineInv .l3 ∧ 1 ≤ s.timing.chargeStep ∧ r ∈ s.openRec.get .l3 ∧ s.mixEnabled s.bands.m1 = false ∧
    r.thickest = 4 ∧ .t2 ∈ s.selectTank .l3 4 1900 :=
  ⟨rfl, rfl, rfl, by decide, lineInv_of_check (by decide), by decide, rfl, by decide, rfl, by decide⟩

/-- A tank with grout; no tank, with and without an entry for the mix. -/
theorem witness_InjectStartsOrWaitsForSupply :
    let dry (demand : List DemandEntry) : State := { ready3 with tanks := .const .powerOn, demand := demand }
    let queued : List DemandEntry := [⟨2, [.l6], ⟨⟨0, 0⟩, true⟩⟩]
    (∀ s ∈ [ready3, dry [], dry queued],
      s.free .gallery ∧ s.lineState .l3 = .ready ∧ (s.drive.get .l3).burst = none ∧ s.covered .l3 = false ∧
      s.LineInv .l3 ∧ 2 ∈ (s.seq.get .l3).currentMix) ∧
    .t1 ∈ ready3.selectTank .l3 2 (ready3.strokeVolume .l3) ∧
    (dry []).selectTank .l3 2 ((dry []).strokeVolume .l3) = none ∧ (∀ e ∈ (dry []).demand, e.mix ≠ 2) ∧
    (dry queued).selectTank .l3 2 ((dry queued).strokeVolume .l3) = none ∧
    (∃ e ∈ (dry queued).demand, e.mix = 2) := by
  refine ⟨?_, by decide, by decide, by decide, by decide, by decide⟩
  intro s h
  simp only [List.mem_cons, List.not_mem_nil, or_false] at h
  rcases h with rfl | rfl | rfl <;> exact ⟨rfl, rfl, rfl, by decide, lineInv_of_check (by decide), rfl⟩

/-- Each of the five ways a stage ends; early and late; with a slot and on a waiting list; the log full. -/
theorem witness_StageEndsCloseTheRecord :
    let s := logged 32 { injecting3 with reg := injecting3.reg }
    let slotted : State :=
      { unsettled3 with seq := unsettled3.seq.upd .l3 fun q => { q with slot := some .charge } }
    EndsStage seated3 .l3 (.finish .gallery 3) .withdrawn none ∧
    EndsStage s .l3 (.finish .gallery 3) .operator none ∧ EndsStage s .l3 (.abort .gallery 3) .abort (some .gallery) ∧
    EndsStage s .l3 (.abort .monitor 3) .abort (some .monitor) ∧
    EndsStage ready3 .l3 (.standingTimerExpiry .l3) .staticTimeout none ∧
    EndsStage s .l3 (.refusalTimerExpiry .l3) .refusal none ∧
    EndsStage slotted .l3 (.finish .gallery 3) .withdrawn none ∧ (slotted.seq.get .l3).slot ≠ none ∧
    EndsStage waiting3 .l3 (.finish .gallery 3) .operator none ∧ (∃ d ∈ waiting3.demand, .l3 ∈ d.waiting) ∧
    (∀ x ∈ [seated3, s, ready3, slotted, waiting3],
      x.log.length ≤ 32 ∧ 1 ≤ x.timing.flushStep ∧ (x.openRec.get .l3).isSome = true) ∧
    (∀ d ∈ s.demand, LineId.l3 ∉ d.waiting) :=
  ⟨.inl ⟨rfl, rfl, rfl, rfl, rfl⟩, .inl ⟨rfl, rfl, rfl, rfl, rfl⟩, .inr (.inl ⟨rfl, rfl, rfl, rfl, rfl⟩),
    .inr (.inr (.inl ⟨rfl, rfl, rfl, rfl, rfl⟩)),
    .inr (.inr (.inr (.inl ⟨rfl, .inl rfl, by decide, notOvertaken rfl _, rfl, rfl⟩))),
    .inr (.inr (.inr (.inr ⟨rfl, rfl, by decide, notOvertaken rfl _, rfl, rfl⟩))), .inl ⟨rfl, rfl, rfl, rfl, rfl⟩, by decide,
    .inl ⟨rfl, rfl, rfl, rfl, rfl⟩, by decide, by decide, by decide⟩

theorem witness_ClearFaultFlushesOrIdles :
    ∀ grout ∈ [false, true],
      let s := fault3 grout
      s.free .gallery ∧ s.lineState .l3 = .fault ∧ s.LineInv .l3 ∧ 1 ≤ s.timing.flushStep ∧
      ((s.seq.get .l3).faultCause = some .sensor → (s.reg.get .l3).lastReading = .valid) ∧
      (s.seq.get .l3).holdsGrout = grout := by
  intro b _
  cases b <;> exact ⟨rfl, rfl, lineInv_of_check (by decide), by decide, by decide, rfl⟩

/-- CIRCULATE in READY, and the static timer's expiry over a paused stroke in HELD. -/
theorem witness_BurstsStart :
    let s : State :=
      { held3 .injecting .inject .inject with
        drive := (held3 .injecting .inject .inject).drive.upd .l3 fun d =>
          { d with staticTimer := .running 120000 120000 }
        cameDue := [.circulationStaticExpiry .l3] }
    ((ready3.drive.get .l3).burst = none ∧ ready3.free .gallery ∧ ready3.lineState .l3 = .ready) ∧
    ((s.drive.get .l3).burst = none ∧ s.free .gallery ∧ s.lineState .l3 = .held ∧
      (s.seq.get .l3).holdsGrout = true ∧ (s.drive.get .l3).staticTimer ≠ .stopped ∧
      s.NotOvertaken (.circulationStaticExpiry .l3)) :=
  ⟨⟨rfl, rfl, rfl⟩, rfl, rfl, rfl, rfl, by decide, fun _ => ⟨120000, 120000, rfl, by decide⟩⟩

/-- With and without a gauge value, and a line that is not seated; nothing overtaken (`notOvertaken`). -/
theorem witness_SettleCapturesFormationPressure :
    let blind : State := { unsettled3 with reg := unsettled3.reg.upd .l3 fun g => { g with gauge := none } }
    (∀ s ∈ [unsettled3, blind],
      s.lineState .l3 = .seated ∧ (s.seq.get .l3).settled = false ∧ (s.seq.get .l3).settleTimer ≠ .stopped ∧
      s.cameDue = [] ∧ (s.seq.get .l3).slot = none ∧ ⟨425, 50⟩ ∈ (s.reg.get .l3).geometry) ∧
    (unsettled3.reg.get .l3).gauge.isSome = true ∧ (blind.reg.get .l3).gauge = none ∧
    part.lineState .l3 ≠ .seated := by decide

/-- A line that takes a TEST; a test with samples and one without any. -/
theorem witness_TestsStartAndComplete :
    (seated3.free .gallery ∧ seated3.lineState .l3 = .seated ∧ (seated3.seq.get .l3).settled = true ∧
      seated3.covered .l3 = false ∧ 100 ≤ 100 ∧ 9000 ≤ 9000 ∧ 60 ≤ 60 ∧ 1800 ≤ 1800 ∧ seated3.LineInv .l3) ∧
    let sampled : State :=
      { testing3 with reg := testing3.reg.upd .l3 fun g => { g with pressureSum := 900000, sampleCount := 600 } }
    (∀ s ∈ [testing3, sampled],
      s.lineState .l3 = .testing ∧ (s.seq.get .l3).testTimer ≠ none ∧ s.NotOvertaken (.testTimerExpiry .l3) ∧
      (s.seq.get .l3).slot = none ∧ s.LineInv .l3 ∧ 300 ∈ (s.seq.get .l3).testDuration ∧
      1000 ∈ (s.reg.get .l3).testTarget ∧ ⟨425, 50⟩ ∈ (s.reg.get .l3).geometry) ∧
    (sampled.reg.get .l3).sampleCount ≠ 0 ∧ (testing3.reg.get .l3).sampleCount = 0 := by
  refine ⟨⟨rfl, rfl, rfl, by decide, by decide, by decide, by decide, by decide, lineInv_of_check (by decide)⟩, ?_,
    by decide, by decide⟩
  intro s h
  simp only [List.mem_cons, List.not_mem_nil, or_false] at h
  rcases h with rfl | rfl <;>
  exact ⟨rfl, by decide, notOvertaken rfl _, rfl, lineInv_of_check (by decide), rfl, rfl, rfl⟩

/-- Line 3 in HELD whose burst ends with the resume-after-burst flag set. -/
def resuming3 (r : Resume) (tanks : PerTank Tank) : State :=
  { with3 { grout3 .held with resume := some r, resumeAfterBurst := true, heldSince := some 90 }
      { work3 (if r = .charging then .charge else .inject) .circulate true with burst := some 1 } reg3
      (some rec3) with
    tanks := tanks }

/-- A stroke of each purpose that is running, short of and at its last; short of its last with every tank empty,
after a stroke that has run for some time, and with a SEAT waiting; a burst that ends for a line due to leave HELD, with and without a tank. -/
theorem witness_StrokesCompleteByPurpose :
    let last : State := { charging3 with seq := charging3.seq.upd .l3 fun q => { q with chargeCount := 10 } }
    let dry : State := { charging3 with tanks := .const .powerOn }
    let ran : State := { charging3 with drive := charging3.drive.upd .l3 fun d => { d with watch := some 1 } }
    let waits : State :=
      { flushing3 3 with seq := (flushing3 3).seq.upd .l3 fun q => { q with slot := some (.seat seatOk) } }
    (∀ x ∈ [(testing3, StrokePurpose.test), (charging3, .charge), (dry, .charge), (ran, .charge), (last, .charge),
        (flushing3 21, .flush), (flushing3 3, .flush), (waits, .flush), (burst3 6, .circulate),
        (burst3 1, .circulate), (resuming3 .charging part.tanks, .circulate),
        (resuming3 .injecting (.const .powerOn), .circulate)],
      x.1.LineInv .l3 ∧ x.1.NotOvertaken (.strokeComplete .l3) ∧
      (⟨x.2, .tank .t1, 1900, true, 2400⟩ : Stroke) ∈ (x.1.drive.get .l3).stroke ∧ 0 < (x.1.drive.get .l3).pendingRate) ∧
    ((ran.seq.get .l3).chargeCount + 1 ≠ (ran.seq.get .l3).nc ∧ 1 ∈ (ran.drive.get .l3).watch) ∧
    ((charging3.seq.get .l3).chargeCount + 1 ≠ (charging3.seq.get .l3).nc ∧
      (charging3.drive.get .l3).watch = some 0 ∧
      2 ∈ (charging3.seq.get .l3).currentMix ∧ .t1 ∈ charging3.selectTank .l3 2 (charging3.strokeVolume .l3) ∧
      dry.selectTank .l3 2 (dry.strokeVolume .l3) = none) ∧
    ((last.seq.get .l3).chargeCount + 1 = (last.seq.get .l3).nc ∧ (last.seq.get .l3).slot = none) ∧
    (((flushing3 21).seq.get .l3).flushCount + 1 = ((flushing3 21).seq.get .l3).nf ∧
      ((flushing3 21).seq.get .l3).slot = none) ∧
    ((waits.seq.get .l3).flushCount + 1 ≠ (waits.seq.get .l3).nf ∧ (waits.seq.get .l3).slot.isSome = true) ∧
    (6 ∈ ((burst3 6).drive.get .l3).burst ∧ 1 < 6 ∧ 1 ∈ ((burst3 1).drive.get .l3).burst ∧ 1 ≤ 1 ∧
      ((burst3 1).seq.get .l3).resumeAfterBurst = false) ∧
    (let s := resuming3 .charging part.tanks;
      .charging ∈ (s.seq.get .l3).resume ∧ (s.seq.get .l3).resumeAfterBurst = true ∧ 0 < s.rateOf .charging ∧
      2 ∈ (s.seq.get .l3).currentMix ∧ .t1 ∈ s.selectTank .l3 2 (s.strokeVolume .l3)) ∧
    (let s := resuming3 .injecting (.const .powerOn);
      .injecting ∈ (s.seq.get .l3).resume ∧ 0 < s.rateOf .injecting ∧
      s.selectTank .l3 2 (s.strokeVolume .l3) = none) := by
  refine ⟨?_, by decide⟩
  intro x h
  simp only [List.mem_cons, List.not_mem_nil, or_false] at h
  rcases h with rfl | rfl | rfl | rfl | rfl | rfl | rfl | rfl | rfl | rfl | rfl | rfl <;>
  exact ⟨lineInv_of_check (by decide), notOvertaken rfl _, rfl, by decide⟩

/-- Line 3 injecting from the mix given, with its volumes and its last pressures given. -/
def thick3 (mix injected stepVolume pn : Nat) : State :=
  { injecting3 with
    seq := injecting3.seq.upd .l3 fun q => { q with currentMix := some mix }
    reg := injecting3.reg.upd .l3 fun g => { g with pn := some pn, lowerBand := some 1691 }
    openRec := injecting3.openRec.set .l3
      (some { rec3 with injected := injected, steps := [⟨mix, stepVolume, ⟨0, 0⟩⟩] })
    tanks := ⟨⟨.stocked, some 3, 10000, some 5⟩, ⟨.stocked, some 4, 10000, some 6⟩, .powerOn⟩ }

/-- Mix 3 with its step of 5 L/m: short of it by one unit, and reached just so, with pn just below the
band, and at the band; mix 4 follows, or no code above mix 3 is enabled; and every tank empty. -/
theorem witness_InjectStrokesCreditAndThicken :
    let k : Stroke := ⟨.inject, .tank .t1, 1900, true, 2400⟩
    let rec' (v : Nat) : Record := { rec3 with injected := v, steps := [⟨3, v, ⟨0, 0⟩⟩] }
    (∀ v ∈ [599, 600],
      (thick3 3 v v 1690).LineInv .l3 ∧ (thick3 3 v v 1690).NotOvertaken (.strokeComplete .l3) ∧ k ∈ ((thick3 3 v v 1690).drive.get .l3).stroke ∧
      0 < ((thick3 3 v v 1690).drive.get .l3).pendingRate ∧ rec' v ∈ (thick3 3 v v 1690).openRec.get .l3 ∧
      3 ∈ ((thick3 3 v v 1690).seq.get .l3).currentMix ∧ (rec' v).steps.getLast? = some ⟨3, v, ⟨0, 0⟩⟩ ∧
      (v + k.volume) / (10 * (rec3.bottom - rec3.top)) < rec3.vmax ∧
      .t1 ∈ (thick3 3 v v 1690).selectTank .l3 3 ((thick3 3 v v 1690).strokeVolume .l3) ∧
      .t2 ∈ (thick3 3 v v 1690).selectTank .l3 4 ((thick3 3 v v 1690).strokeVolume .l3)) ∧
    k.running = true ∧ k.purpose = .inject ∧
    (599 + k.volume) / (10 * (rec3.bottom - rec3.top)) < part.mixStep 3 ∧
    (0 < part.mixStep 3 ∧ part.mixStep 3 ≤ (600 + k.volume) / (10 * (rec3.bottom - rec3.top))) ∧
    (1690 ∈ ((thick3 3 600 600 1690).reg.get .l3).pn ∧ 1691 ∈ ((thick3 3 600 600 1690).reg.get .l3).lowerBand ∧
      1690 < 1691) ∧
    (3 < 4 ∧ 4 ≤ rec3.thickest ∧ part.mixEnabled 4 = true ∧ ∀ m, 3 < m → m < 4 → part.mixEnabled m = false) ∧
    (∀ s ∈ [thick3 3 600 600 1691, { thick3 3 600 600 1690 with mixTable := part.mixTable.set 4 .powerOn },
        { thick3 3 600 600 1690 with tanks := .const .powerOn }],
      s.LineInv .l3 ∧ s.NotOvertaken (.strokeComplete .l3) ∧ k ∈ (s.drive.get .l3).stroke ∧
      rec' 600 ∈ s.openRec.get .l3) ∧
    (∀ pn ∈ ((thick3 3 600 600 1691).reg.get .l3).pn, ∀ low ∈ ((thick3 3 600 600 1691).reg.get .l3).lowerBand,
      low ≤ pn) ∧
    (∀ m, 3 < m → m ≤ rec3.thickest →
      State.mixEnabled { thick3 3 600 600 1690 with mixTable := part.mixTable.set 4 .powerOn } m = false) ∧
    (∀ m ∈ [3, 4], State.selectTank { thick3 3 600 600 1690 with tanks := .const .powerOn } .l3 m 1900 = none) := by
  refine ⟨?_, rfl, rfl, by decide, by decide, ⟨rfl, rfl, by decide⟩,
    ⟨by decide, by decide, by decide, by omega⟩, ?_, by decide, ?_, by decide⟩
  rotate_left
  · intro s h
    simp only [List.mem_cons, List.not_mem_nil, or_false] at h
    rcases h with rfl | rfl | rfl <;> exact ⟨lineInv_of_check (by decide), notOvertaken rfl _, rfl, rfl⟩
  · intro m h1 h2
    have hm : m = 4 := Nat.le_antisymm h2 h1
    subst hm
    decide
  intro v h
  simp only [List.mem_cons, List.not_mem_nil, or_false] at h
  rcases h with rfl | rfl <;>
  exact ⟨lineInv_of_check (by decide), notOvertaken rfl _, rfl, by decide, rfl, rfl, rfl, by decide, by decide,
    by decide⟩

/-- The last stroke brings the volume to Vmax exactly. -/
theorem witness_VolumeLimitEndsTheStage :
    let s := thick3 3 1498100 600 1690
    let r : Record := { rec3 with injected := 1498100, steps := [⟨3, 600, ⟨0, 0⟩⟩] }
    let k : Stroke := ⟨.inject, .tank .t1, 1900, true, 2400⟩
    s.LineInv .l3 ∧ s.log.length ≤ 32 ∧ 1 ≤ s.timing.flushStep ∧
    s.NotOvertaken (.strokeComplete .l3) ∧ k ∈ (s.drive.get .l3).stroke ∧ k.running = true ∧ k.purpose = .inject ∧ r ∈ s.openRec.get .l3 ∧ ⟨3, 600, ⟨0, 0⟩⟩ ∈ r.steps.getLast? ∧
    r.vmax ≤ (r.injected + k.volume) / (10 * (r.bottom - r.top)) :=
  ⟨lineInv_of_check (by decide), by decide, by decide, notOvertaken rfl _, rfl, rfl, rfl, rfl, rfl, by decide⟩

/-- A part whose line 3 has run its stroke for three periods. -/
def stuck3 (s : State) : State := { s with drive := s.drive.upd .l3 fun d => { d with watch := some 7200 } }

/-- Line 3 in CHARGING between a completion and the start of its next stroke. -/
def owing3 : State :=
  { charging3 with drive := charging3.drive.upd .l3 fun d => { d with stroke := none, watch := none } }

theorem owing3_first (tanks : PerTank Tank) :
    ∀ k, k.num < LineId.l3.num → ¬State.Owes { owing3 with tanks := tanks } k := by
  have h : ∀ k, k.num < LineId.l3.num → owing3.lineState k ≠ .charging := by
    intro k
    cases k <;> decide
  exact fun k hk o => h k hk o.1

/-- A paused stroke; and a running one whose watch has just reached three periods. -/
theorem witness_StrokeWatchFaultsTheLine :
    (∀ k ∈ ((held3 .injecting .inject .inject).drive.get .l3).stroke, k.running = false) ∧
    (∀ x ∈ [(stuck3 injecting3, StrokePurpose.inject), (stuck3 (flushing3 3), .flush)],
      (x.1.drive.get .l3).watch ≠ none ∧ x.1.log.length ≤ 32 ∧
      (⟨x.2, .tank .t1, 1900, true, 2400⟩ : Stroke) ∈ (x.1.drive.get .l3).stroke) ∧
    (stuck3 injecting3).NotOvertaken (.strokeWatchExpiry .l3) ∧
    (stuck3 (flushing3 3)).NotOvertaken (.strokeWatchExpiry .l3) ∧
    ((injecting3.openRec.get .l3).isSome = true ∧ (injecting3.lineState .l3).hasStage = true) ∧
    (flushing3 3).lineState .l3 = .flushing :=
  ⟨by decide, by decide, fun _ => ⟨_, rfl, rfl, 7200, rfl, by decide⟩, fun _ => ⟨_, rfl, rfl, 7200, rfl, by decide⟩,
    by decide, by decide⟩

/-- A line in CHARGING after a completion whose successor has not started, with and without a tank, before an idle
step and before a HOLD. -/
theorem witness_OwedChargeStrokesStartUnlessHeld :
    let s (tanks : PerTank Tank) : State :=
      { owing3 with tanks := tanks }
    (∀ tanks ∈ [part.tanks, .const .powerOn],
      (s tanks).Owes .l3 ∧ 2 ∈ ((s tanks).seq.get .l3).currentMix ∧ (s tanks).pending = [] ∧
      (∀ i, ¬(s tanks).IsDue i) ∧ (∀ k, k.num < LineId.l3.num → ¬(s tanks).Owes k) ∧
      (s tanks).free .monitor ∧ (4 : Byte).toNat ≤ 63 ∧ (LineSet.ofByte 4).get .l3 = true ∧
      (s tanks).covered .l3 = false ∧ (s tanks).LineInv .l3) ∧
    .t1 ∈ (s part.tanks).selectTank .l3 2 1900 ∧ (s (.const .powerOn)).selectTank .l3 2 1900 = none := by
  refine ⟨?_, by decide, by decide⟩
  intro tanks h
  simp only [List.mem_cons, List.not_mem_nil, or_false] at h
  rcases h with rfl | rfl <;>
  exact ⟨⟨rfl, by decide, rfl, rfl, rfl, by decide⟩, rfl, rfl, nothingDue (by decide), owing3_first _, rfl, by decide,
    rfl, by decide, lineInv_of_check (by decide)⟩

/-- The part as a millisecond begins in which two events come together. -/
def together (s : State) : State := { s with cameDue := s.coming }

/-- A watch at its limit and the sense; a stage end and the sense; an INJECT and the expiries of both standing
timers; a byte and the gap timer. -/
theorem witness_OvertakenEventsDoNothing :
    (let s : State := { injecting3 with cameDue := [.strokeWatchExpiry .l3] };
      .strokeWatchExpiry .l3 ∈ s.cameDue ∧ ¬s.CanCome (.strokeWatchExpiry .l3)) ∧
    (let s := together (stuck3 injecting3);
      (⟨.inject, .tank .t1, 1900, true, 2400⟩ : Stroke) ∈ (s.drive.get .l3).stroke ∧
      s.NotOvertaken (.strokeComplete .l3) ∧ .strokeWatchExpiry .l3 ∈ s.cameDue ∧
      EndsStage s .l3 (.finish .gallery 3) .operator none ∧ .strokeComplete .l3 ∈ s.cameDue) ∧
    (let s := together { ready3 with
        seq := ready3.seq.upd .l3 fun q => { q with standingTimer := .running 1800000 1800000 }
        drive := ready3.drive.upd .l3 fun d => { d with staticTimer := .running 120000 120000 } };
      s.free .gallery ∧ s.takesAtOnce .l3 .inject ∧ s.covered .l3 = false ∧ 0 < s.envelope.standingLimit ∧
      0 < s.timing.staticTime ∧ .standingTimerExpiry .l3 ∈ s.cameDue ∧ .circulationStaticExpiry .l3 ∈ s.cameDue) ∧
    (let s := together (heard (.receiving [0xA5] 20));
      (s.port.get .gallery).rx = .receiving [0xA5] 20 ∧ .gapTimerExpiry .gallery ∈ s.cameDue) := by
  refine ⟨⟨by decide, ?_⟩, ⟨rfl, fun _ => ⟨_, rfl, rfl, 7200, rfl, by decide⟩, by decide,
    .inl ⟨rfl, rfl, rfl, rfl, rfl⟩, by decide⟩, ⟨rfl, ⟨rfl, rfl⟩, by decide, by decide, by decide,
    by decide, by decide⟩, rfl, by decide⟩
  rintro ⟨k, hk, -, w, hw, h⟩
  cases hk
  cases hw
  revert h
  decide

/-! ### Events that come together, each in both orders -/

/-- The state after a run of commands. -/
def afterAll {α : Type} (s : State) : List Instr → (State → Option α) → Option α
  | [], f => f s
  | i :: is, f => after (exec i s) fun t => afterAll t is f

/-- The stroke-end sense first: the watch has stopped without expiry and the next stroke runs; the expiry first: the
line is in FAULT and the sense is ignored (R38). -/
theorem test_sense_and_watch :
    let s := together (stuck3 injecting3)
    afterAll s [.strokeComplete .l3, .strokeWatchExpiry .l3] (fun t =>
      some (t.lineState .l3, (t.openRec.get .l3).map (·.injected), (t.drive.get .l3).stroke.isSome)) =
      some (.injecting, some 1900, true) ∧
    afterAll s [.strokeWatchExpiry .l3, .strokeComplete .l3] (fun t =>
      some (t.lineState .l3, t.log.map (·.unplaced))) = some (.fault, [1900]) := by decide

/-- FINISH first: the stroke is abandoned into the unplaced volume, and its sense does not count for the flush (the
fourth row of R88). -/
theorem test_finish_and_sense :
    afterAll (together (stuck3 injecting3)) [.finish .gallery 3, .strokeComplete .l3] (fun t =>
      some (t.lineState .l3, (t.seq.get .l3).flushCount, t.log.map (·.unplaced))) =
      some (.flushing, 0, [1900]) := by decide

/-- An INJECT that meets supply wait starts the static timer afresh, and the expiry behind it starts no burst
(R39). -/
theorem test_inject_and_static :
    let s := together { ready3 with
      drive := ready3.drive.upd .l3 fun d => { d with staticTimer := .running 120000 120000 }
      tanks := .const .powerOn }
    afterAll s [.inject .gallery 3, .circulationStaticExpiry .l3] (fun t =>
      some (t.lineState .l3, (t.drive.get .l3).burst, (t.drive.get .l3).staticTimer)) =
      some (.held, none, .running 0 120000) := by decide

/-- A CHARGE completion, then a HOLD: no next stroke starts and no tank pays; without the HOLD the next stroke starts
in an idle step (R35). -/
theorem test_charge_and_hold :
    let s := together (stuck3 charging3)
    afterAll s [.strokeComplete .l3, .hold .monitor 4] (fun t =>
      some (t.lineState .l3, (t.drive.get .l3).stroke, (t.tanks.get .t1).level)) =
      some (.held, none, 10000) ∧
    afterAll s [.strokeComplete .l3] (fun t =>
      after (step t) fun u => some ((u.drive.get .l3).stroke.isSome, (u.tanks.get .t1).level)) =
      some (true, 8100) := by decide

/-- A HOLD from the port whose silence timer is due: its own entry stands alone (R125, log 24). -/
theorem test_hold_and_lapse :
    let s := together (part.updPort .plant fun q => { q with supervision := some 60, silence := some 60000 })
    afterAll s [.hold .plant 4, .silenceTimerExpiry .plant] (fun t =>
      some (t.holds.pPlant.isSome, t.holds.pSilence.isSome, (t.port.get .plant).supervision)) =
      some (true, false, some 60) := by decide

/-- A line with two invalid samples behind it, in a stage, in IDLE and in FAULT. -/
theorem witness_InvalidSamplesFaultTheLine :
    let twice (s : State) : State :=
      { s with reg := s.reg.upd .l3 fun g => { g with invalidCount := 2 } }
    State.reset.lineState .l3 = .off ∧
    (injecting3.lineState .l3 ≠ .off ∧ (injecting3.reg.get .l3).invalidCount < 2) ∧
    (∀ s ∈ [twice injecting3, twice part, twice (fault3 true)],
      s.lineState .l3 ≠ .off ∧ 2 ≤ (s.reg.get .l3).invalidCount ∧ s.log.length ≤ 32) ∧
    (twice injecting3).lineState .l3 ≠ .fault ∧ ((twice injecting3).lineState .l3).hasStage = true ∧
    ((twice injecting3).openRec.get .l3).isSome = true ∧ (twice part).lineState .l3 = .idle ∧
    (twice (fault3 true)).lineState .l3 = .fault := by decide

/-- A line in every state but OFF, with its stage settled and not, under a ceiling, its watch armed without a
baseline; and samples that leave their line in its state. -/
theorem witness_SampleComputesThePressures :
    let armed (s : State) : State :=
      { s with reg := s.reg.upd .l3 fun g => { g with watchArmed := true, baseline := none } }
    let capped (s : State) : State := { s with ceiling := s.ceiling.set .l3 900 }
    (∀ s ∈ [part, seated3, unsettled3, testing3, charging3, ready3, capped ready3, armed ready3,
        held3 .charging .charge .charge, held3 .injecting .inject .inject, injecting3, flushing3 3, fault3 true],
      s.lineState .l3 ≠ .off) ∧
    (∀ s ∈ [part, seated3, unsettled3, ready3, capped ready3, armed seated3, armed ready3,
        held3 .charging .charge .charge, flushing3 3, fault3 true],
      s.lineState .l3 ≠ .testing ∧ s.lineState .l3 ≠ .charging ∧ s.lineState .l3 ≠ .injecting ∧
      (s.reg.get .l3).testRunning = false ∧
      ((s.reg.get .l3).watchArmed = true → (s.reg.get .l3).baseline = none)) ∧
    ((armed ready3).reg.get .l3).watchArmed = true ∧
    ∀ s ∈ [testing3, charging3, injecting3],
      (after (exec (.sample .l3 (.value 900)) s) fun t => some (t.lineState .l3)) = some (s.lineState .l3) :=
  ⟨by decide, by decide, rfl, by decide⟩

/-- Line 3 injecting at rate step 5, or stopped by an excursion. -/
def pumping3 (stop : Bool) : State :=
  { injecting3 with
    reg := injecting3.reg.upd .l3 fun g => { g with excursionStop := stop }
    drive :=
      if stop then injecting3.drive.set .l3 { work3 .inject .inject false with rate := 0, pendingRate := 0 }
      else injecting3.drive }

/-- The limit of the line is 2500 kPa, its threshold 2625, its lower band 2250; pn is the reading with 659 kPa
of grout, less pf 537, less 38 in flow. Each reading lies on an edge of its clause. -/
theorem witness_SampleDecidesInInjecting :
    (∀ stop ∈ [false, true],
      let s := pumping3 stop
      s.LineInv .l3 ∧ s.lineState .l3 = .injecting ∧ (s.reg.get .l3).testRunning = false ∧
      (s.reg.get .l3).watchArmed = false ∧ (s.reg.get .l3).pf ≠ none ∧
      (∀ r ∈ s.openRec.get .l3, 1 ≤ r.rateCap) ∧ (s.openRec.get .l3).isSome = true ∧
      (s.drive.get .l3).stroke.isSome = true ∧
      (∀ w ∈ (s.drive.get .l3).watch, w < 3 * ((s.lineTable.get .l3).tmin * 15)) ∧
      (s.reg.get .l3).excursionStop = stop ∧ (∀ k ∈ (s.drive.get .l3).stroke, k.running = !stop)) ∧
    let pn (stop : Bool) (kPa : Int) : Option Nat :=
      after (exec (.sample .l3 (.value kPa)) (pumping3 stop)) fun t => (t.reg.get .l3).pn
    pn false 2542 = some 2626 ∧ pn false 2541 = some 2625 ∧ pn false 2416 = some 2500 ∧
    pn false 2166 = some 2250 ∧ pn false 2165 = some 2249 ∧ pn true 2128 = some 2250 ∧
    pn true 2129 = some 2251 ∧ ((part.lineTable.get .l3).fullScale : Int) ≤ 6000 := by
  refine ⟨?_, by decide⟩
  intro b _
  cases b <;>
  exact ⟨lineInv_of_check (by decide), rfl, rfl, rfl, by decide, by decide, rfl, rfl, by decide, rfl, by decide⟩

/-- Line 3 testing with its samples so far and its test timer at the milliseconds given. -/
def tested3 (sum count ms : Nat) : State :=
  { testing3 with
    reg := testing3.reg.upd .l3 fun g => { g with pressureSum := sum, sampleCount := count }
    seq := testing3.seq.upd .l3 fun q => { q with testTimer := some ms } }

/-- Line 3 charging, or stopped by an excursion. -/
def pouring3 (stop : Bool) : State :=
  { charging3 with
    reg := charging3.reg.upd .l3 fun g => { g with excursionStop := stop }
    drive :=
      if stop then charging3.drive.set .l3 { work3 .charge .charge false with rate := 0, pendingRate := 0 }
      else charging3.drive }

/-- TESTING: the limit is the target of 1000 kPa, the threshold 1050, the lower band 900; pn is the reading with
417 kPa of water, less pf 537, less 38 in flow. CHARGING: the limit is 2500 kPa. Each reading lies on an edge of its
clause; the test timer stands just short of 60 s and at it. -/
theorem witness_SampleDecidesInTestingAndCharging :
    (∀ ms ∈ [59999, 60000],
      let s := tested3 50000 60 ms
      s.LineInv .l3 ∧ (s.reg.get .l3).watchArmed = false ∧ rec3 ∈ s.openRec.get .l3 ∧ 1 ≤ rec3.rateCap ∧
      537 ∈ (s.reg.get .l3).pf ∧ (⟨.test, .tank .t1, 1900, true, 2400⟩ : Stroke) ∈ (s.drive.get .l3).stroke ∧
      s.lineState .l3 = .testing ∧ (s.reg.get .l3).testRunning = true ∧ (s.seq.get .l3).slot = none ∧
      1000 ∈ (s.reg.get .l3).testTarget ∧ 300 ∈ (s.seq.get .l3).testDuration ∧
      ⟨425, 50⟩ ∈ (s.reg.get .l3).geometry ∧ ms ∈ (s.seq.get .l3).testTimer) ∧
    (∀ stop ∈ [false, true],
      let s := pouring3 stop
      s.LineInv .l3 ∧ (s.reg.get .l3).watchArmed = false ∧ rec3 ∈ s.openRec.get .l3 ∧
      537 ∈ (s.reg.get .l3).pf ∧ (⟨.charge, .tank .t1, 1900, !stop, 2400⟩ : Stroke) ∈ (s.drive.get .l3).stroke ∧
      s.lineState .l3 = .charging ∧ (s.reg.get .l3).testRunning = false ∧ 0 < s.timing.chargeStep ∧
      (∀ w ∈ (s.drive.get .l3).watch, w < 3 * ((s.lineTable.get .l3).tmin * 15 / s.timing.chargeStep)) ∧
      (s.reg.get .l3).excursionStop = stop) ∧
    (let pn (kPa : Int) : Option Nat :=
        after (exec (.sample .l3 (.value kPa)) (tested3 50000 60 60000)) fun t => (t.reg.get .l3).pn;
      pn 1209 = some 1051 ∧ pn 1208 = some 1050 ∧ pn 1159 = some 1001 ∧ pn 1158 = some 1000 ∧
      pn 1058 = some 900 ∧ pn 1057 = some 899) ∧
    (let pn (stop : Bool) (kPa : Int) : Option Nat :=
        after (exec (.sample .l3 (.value kPa)) (pouring3 stop)) fun t => (t.reg.get .l3).pn;
      pn false 2542 = some 2626 ∧ pn false 2541 = some 2625 ∧ pn true 2128 = some 2250 ∧
      pn true 2129 = some 2251) ∧
    ((part.lineTable.get .l3).fullScale : Int) ≤ 6000 := by
  refine ⟨?_, ?_, by decide⟩
  · intro ms h
    simp only [List.mem_cons, List.not_mem_nil, or_false] at h
    rcases h with rfl | rfl <;>
    exact ⟨lineInv_of_check (by decide), rfl, rfl, by decide, rfl, rfl, rfl, rfl, rfl, rfl, rfl, rfl, rfl⟩
  · intro b _
    cases b <;>
    exact ⟨lineInv_of_check (by decide), rfl, rfl, rfl, rfl, rfl, rfl, by decide, by decide, rfl⟩

/-- Line 3 armed at a baseline of 1000 kPa, and its neighbour line 2 injecting if asked. -/
def armed3 (injecting : Bool) : State :=
  let s : State :=
    { ready3 with reg := ready3.reg.upd .l3 fun g => { g with watchArmed := true, baseline := some 1000 } }
  if injecting then
    { s with
      seq := s.seq.set .l2 (grout3 .injecting)
      drive := s.drive.set .l2 (work3 .inject .inject true)
      openRec := s.openRec.set .l2 (some { rec3 with line := .l2 }) }
  else s

/-- pe is the reading with 659 kPa of grout: it reaches baseline and rise, and falls short by one. -/
theorem witness_ConnectionIsDetected :
    (∀ injecting ∈ [false, true],
      let s := armed3 injecting
      s.LinesInv ∧ s.lineState .l3 = .ready ∧ (s.reg.get .l3).watchArmed = true ∧
      1000 ∈ (s.reg.get .l3).baseline ∧ rec3 ∈ s.openRec.get .l3) ∧
    let pe (injecting : Bool) (kPa : Int) : Option Nat :=
      after (exec (.sample .l3 (.value kPa)) (armed3 injecting)) fun t => (t.reg.get .l3).pe
    pe false 491 = some 1150 ∧ pe true 490 = some 1149 ∧ part.envelope.rise = 150 ∧
    ((armed3 true).lineTable.get .l3).neighbour1 = some .l2 ∧ (armed3 true).lineState .l2 = .injecting ∧
    0 < ((armed3 true).drive.get .l2).rate ∧ 1000 + 150 ≤ 491 + 659 := by
  refine ⟨?_, by decide⟩
  intro b _
  cases b <;> exact ⟨linesInv_of_check (by decide), rfl, rfl, rfl, rfl⟩

theorem witness_DeliverFillsTheTank :
    part.free .plant ∧ (0 = 0 ∨ 3 < 0) ∧ (4 = 0 ∨ 3 < 4) ∧ (0 = 0 ∧ 4000 < 4001 ∧ part.mixEnabled 1 = false) ∧
    (1 ≤ 4000 ∧ part.mixEnabled 4 = true ∧ (part.tanks.get .t1).state = .stocked ∧
      (part.tanks.get .t1).mix ≠ some 4) ∧
    ((part.tanks.get .t2).state = .empty ∧ ∀ d ∈ part.demand, d.mix ≠ 4) ∧
    (∀ d ∈ part.demand, d.waiting ≠ []) ∧ TankId.t1 ≠ .t2 := ⟨rfl, by decide⟩

/-- Five lines that wait for mix 2: 1 to resume in INJECTING, 2 covered, 3 with a burst running, 4 to resume in
CHARGING, 5 with strokes of twice the volume. -/
def queue5 : State :=
  let waits (r : Resume) : Sequencer := { grout3 .held with resume := some r, waitSupply := true, heldSince := some 90 }
  let rest (p : Purpose) : Drive := { restDrive with purpose := p }
  { part with
    seq := ⟨waits .injecting, { waits .injecting with waitHold := true }, waits .injecting, waits .charging,
      waits .injecting, part.seq.l6⟩
    drive := ⟨rest .inject, rest .inject, { work3 .inject .circulate true with burst := some 3 }, rest .charge,
      rest .inject, part.drive.l6⟩
    openRec := ⟨some { rec3 with line := .l1 }, some { rec3 with line := .l2 }, some rec3,
      some { rec3 with line := .l4 }, some { rec3 with line := .l5 }, none⟩
    lineTable := part.lineTable.set .l5 { line3 with displacement := 4000 }
    holds := { HoldMap.empty with gOperator := some ⟨.ofList [.l2], ⟨⟨0, 0⟩, true⟩⟩ }
    demand := [⟨2, [.l1, .l5, .l2, .l3, .l4], ⟨⟨0, 0⟩, true⟩⟩]
    tanks := .const .powerOn }

/-- One line, and five of which the delivery of 4 L serves some: after line 1 (1900 mL) tank 1 is short of line 5's
strokes, lines 2 and 3 leave without a debit, and line 4 takes the last full stroke. -/
theorem witness_ServiceTreatsTheWaitingLines :
    (∀ s ∈ [waiting3, queue5],
      s.free .plant ∧ s.LinesInv ∧ 1 ≤ s.timing.chargeStep ∧ (s.demand.map (·.mix)).Nodup ∧
      (∀ d ∈ s.demand, d.mix = 2 ∧ d.waiting.Nodup ∧ d.waiting ≠ []) ∧ s.demand ≠ [] ∧
      s.mixEnabled 2 = true ∧ (s.tanks.get .t1).state = .empty) ∧
    (1 ≤ 4 ∧ 4 ≤ 4000) ∧
    (let left := after (exec (.deliver .plant 1 2 4) queue5) some;
      (left.map fun t => (t.tanks.t1.level, t.demand.map (·.waiting), LineId.all.map t.lineState)) =
        some (200, [[.l5]], [.injecting, .held, .held, .charging, .held, .idle]) ∧
      (left.map fun t => ((t.port.get .plant).response.map (·.payload))) = some (some [0, 0, 0, 200, 4])) := by
  refine ⟨?_, by decide, by decide⟩
  intro s h
  simp only [List.mem_cons, List.not_mem_nil, or_false] at h
  rcases h with rfl | rfl <;>
  exact ⟨rfl, linesInv_of_check (by decide), by decide, by decide, by decide, by decide, by decide, by decide⟩

/-- A tank whose grout has just passed its limit, one that has a second left, and an empty one. -/
theorem witness_TanksEmptyFitAndAge :
    let s (now : Nat) : State := { part with runSeconds := now }
    part.free .plant ∧ (0 = 0 ∨ 3 < 0) ∧ (4 = 0 ∨ 3 < 4) ∧ 4000 < 4001 ∧ 9 < 10 ∧ 240 < 241 ∧ 4000 ≤ 4000 ∧
    10 ≤ 10 ∧ 10 ≤ 240 ∧ 240 ≤ 240 ∧
    (part.tanks.get .t1).state = .stocked ∧ 4000 ≠ (part.tankTable.get .t1).capacity ∧
    1000 = (part.tankTable.get .t1).capacity ∧
    ((s 5405).tanks.get .t1).birth.getD 0 + ((s 5405).tankTable.get .t1).ageLimit * 60 ≤ (s 5405).runSeconds ∧
    ¬((s 5404).tanks.get .t1).birth.getD 0 + ((s 5404).tankTable.get .t1).ageLimit * 60 ≤ (s 5404).runSeconds ∧
    (part.tanks.get .t2).state = .empty := ⟨rfl, by decide⟩

theorem witness_LinesInvariantIsKept :
    let s : State := { injecting3 with pending := [.finish .gallery 3] }
    s.LinesInv ∧ s.StagesDistinct ∧ ∃ t, step s = .next t := by
  refine ⟨linesInv_of_check (by decide), ?_, _, rfl⟩
  intro j k h
  revert h
  cases j <;> cases k <;> decide

theorem witness_LogInvariantIsKept :
    (logged 2 State.reset).LogInv ∧ ∃ t, step (logged 2 State.reset) = .next t :=
  ⟨logInv_of_logged, _, rfl⟩

theorem witness_TankAndHoldInvariantsAreKept :
    (∀ k, part.TankInv k) ∧ part.holds.NoEmptyEntry ∧ ∃ t, step part = .next t := by
  refine ⟨?_, ?_, _, rfl⟩
  · intro k
    cases k <;> unfold State.TankInv
    · exact ⟨by decide, by decide, ⟨2, by decide⟩, by decide, 5, by decide⟩
    · exact ⟨by decide, by decide, rfl, rfl, rfl⟩
    · exact ⟨by decide, by decide, rfl, rfl, rfl⟩
  · intro k e h
    cases k <;> cases h

theorem witness_ClosedRecordsStayAsClosed :
    Instr.finish .gallery 3 ≠ .powerOn ∧ (logged 32 injecting3).log.length ≤ 32 ∧
    ∃ t, exec (.finish .gallery 3) (logged 32 injecting3) = .next t :=
  ⟨by decide, by simp [logged], _, rfl⟩

theorem witness_GroutIsAccountedFor :
    (owing3.LinesInv ∧ owing3.pending = [] ∧ ∃ t, step owing3 = .next t) ∧
    injecting3.LinesInv ∧ injecting3.log.length ≤ 32 ∧ (∃ t, exec (.finish .gallery 3) injecting3 = .next t) ∧
    Instr.finish .gallery 3 ≠ .powerOn ∧
    (∀ p tank mix litres, Instr.finish .gallery 3 ≠ .deliver p tank mix litres) ∧
    (∀ p tank, Instr.finish .gallery 3 ≠ .dump p tank) ∧ ∀ p b, Instr.finish .gallery 3 ≠ .byteReceived p b :=
  ⟨⟨linesInv_of_check (by decide), rfl, _, rfl⟩, linesInv_of_check (by decide), by decide, ⟨_, rfl⟩, nofun, nofun, nofun, nofun⟩

/-- A latch on the gallery port, while the plant port clears its own. -/
theorem witness_LatchesStaySet :
    let s := part.latchAll .silence
    (∃ t, exec (.clearEvents .plant 0xFFFF) s = .next t) ∧ (s.port.get .gallery).latches = Event.silence.bit ∧
    Instr.clearEvents .plant 0xFFFF ≠ .powerOn ∧ Instr.clearEvents .plant 0xFFFF ≠ .cabinetReset ∧
    (∀ q, Instr.clearEvents .plant 0xFFFF ≠ .responseSent q) ∧
    (∀ q b, Instr.clearEvents .plant 0xFFFF ≠ .byteReceived q b) ∧
    (∀ e, Instr.clearEvents .plant 0xFFFF ≠ .clearEvents .gallery e) ∧
    Instr.clearEvents .plant 0xFFFF ≠ .portReset .gallery :=
  ⟨⟨_, rfl⟩, by decide, nofun, nofun, nofun, nofun, nofun, nofun⟩

end Sys2Proof.Tests
end

/-! SUPPORT. The lists of events due and of those that can come, said as `State.IsDue` and `State.CanCome` say them. -/

namespace Sys2Proof.Machine

/-! ### What can come now (R10, R35, R38, R39, R64, R74, R90, R103, R125, R153, R180) -/

section Coming

theorem mem_dueIf {c : Bool} {i e : Instr} : e ∈ dueIf c i ↔ c = true ∧ e = i := by
  cases c <;> simp [dueIf]

theorem Timer.expired_iff {x : Timer} : x.expired = true ↔ RanOut x := by
  cases x <;> simp [Timer.expired, RanOut]

theorem Receiver.gapDue_iff {rx : Receiver} :
    rx.gapDue = true ↔ ∃ bytes gap, rx = .receiving bytes gap ∧ 20 ≤ gap := by
  cases rx with
  | hunt => simp [Receiver.gapDue]
  | receiving bytes gap =>
    rw [Receiver.gapDue, decide_eq_true_iff]
    simp [Config.gapTime]

theorem PortState.silenceDue_iff {q : PortState} :
    q.silenceDue = true ↔ ∃ n ∈ q.supervision, ∃ elapsed ∈ q.silence, n * 1000 ≤ elapsed := by
  unfold PortState.silenceDue
  split <;> simp_all

theorem Sequencer.testDue_iff {q : Sequencer} :
    q.testDue = true ↔ ∃ n ∈ q.testDuration, ∃ elapsed ∈ q.testTimer, n * 1000 ≤ elapsed := by
  unfold Sequencer.testDue
  split <;> simp_all

theorem Drive.watchExpired_iff {d : Drive} :
    d.watchExpired = true ↔ ∃ k ∈ d.stroke, k.running = true ∧ ∃ w ∈ d.watch, 3 * k.period ≤ w := by
  unfold Drive.watchExpired
  split
  · rename_i k w hk hw
    rw [Bool.and_eq_true, decide_eq_true_iff]
    simp [hk, hw, Stroke.watchLimit]
  · simp_all

theorem Drive.senseDue_iff {d : Drive} :
    d.senseDue = true ↔ ∃ k ∈ d.stroke, k.running = true ∧ ∃ w ∈ d.watch, 0 < w := by
  unfold Drive.senseDue Drive.isRunning
  cases d.watch <;> cases d.stroke <;> simp

theorem State.pastLimit_iff {s : State} {t : TankId} :
    s.pastLimit t = true ↔ s.IsDue (.ageExpiry t) := by
  rw [State.pastLimit, Bool.and_eq_true, decide_eq_true_iff]
  simp [State.expiryMoment, State.IsDue]

theorem State.mem_due_cases {s : State} {e : Instr} :
    e ∈ s.due ↔
      (∃ p, (s.port.get p).rx.gapDue = true ∧ e = .gapTimerExpiry p ∨
        (s.port.get p).silenceDue = true ∧ e = .silenceTimerExpiry p) ∨
      (∃ l, (s.seq.get l).settleTimer.expired = true ∧ e = .packerSettleExpiry l ∨
        (s.seq.get l).testDue = true ∧ e = .testTimerExpiry l ∨
        (s.drive.get l).watchExpired = true ∧ e = .strokeWatchExpiry l ∨
        (s.drive.get l).staticTimer.expired = true ∧ e = .circulationStaticExpiry l ∨
        (s.seq.get l).standingTimer.expired = true ∧ e = .standingTimerExpiry l ∨
        (s.reg.get l).refusalTimer.expired = true ∧ e = .refusalTimerExpiry l) ∨
      (∃ k, s.pastLimit k = true ∧ e = .ageExpiry k) ∨ 1000 ≤ s.clockPhase ∧ e = .clockAdvance ∨
      1000 ≤ s.runPhase ∧ e = .runSecondsAdvance := by
  simp [State.due, State.duePort, State.dueLine, mem_dueIf]

/-- The list of expiries due holds exactly the expiries whose time has come. -/
theorem State.mem_due {s : State} {e : Instr} : e ∈ s.due ↔ s.IsDue e := by
  rw [State.mem_due_cases]
  constructor
  · rintro (⟨p, ⟨h, rfl⟩ | ⟨h, rfl⟩⟩ |
      ⟨l, ⟨h, rfl⟩ | ⟨h, rfl⟩ | ⟨h, rfl⟩ | ⟨h, rfl⟩ | ⟨h, rfl⟩ | ⟨h, rfl⟩⟩ | ⟨k, h, rfl⟩ | ⟨h, rfl⟩ | ⟨h, rfl⟩)
    · exact Receiver.gapDue_iff.mp h
    · exact PortState.silenceDue_iff.mp h
    · exact Timer.expired_iff.mp h
    · exact Sequencer.testDue_iff.mp h
    · exact Drive.watchExpired_iff.mp h
    · exact Timer.expired_iff.mp h
    · exact Timer.expired_iff.mp h
    · exact Timer.expired_iff.mp h
    · exact State.pastLimit_iff.mp h
    · exact h
    · exact h
  · intro h
    cases e with
    | gapTimerExpiry p => exact .inl ⟨p, .inl ⟨Receiver.gapDue_iff.mpr h, rfl⟩⟩
    | silenceTimerExpiry p => exact .inl ⟨p, .inr ⟨PortState.silenceDue_iff.mpr h, rfl⟩⟩
    | packerSettleExpiry l => exact .inr (.inl ⟨l, .inl ⟨Timer.expired_iff.mpr h, rfl⟩⟩)
    | testTimerExpiry l => exact .inr (.inl ⟨l, .inr (.inl ⟨Sequencer.testDue_iff.mpr h, rfl⟩)⟩)
    | strokeWatchExpiry l =>
      exact .inr (.inl ⟨l, .inr (.inr (.inl ⟨Drive.watchExpired_iff.mpr h, rfl⟩))⟩)
    | circulationStaticExpiry l =>
      exact .inr (.inl ⟨l, .inr (.inr (.inr (.inl ⟨Timer.expired_iff.mpr h, rfl⟩)))⟩)
    | standingTimerExpiry l =>
      exact .inr (.inl ⟨l, .inr (.inr (.inr (.inr (.inl ⟨Timer.expired_iff.mpr h, rfl⟩))))⟩)
    | refusalTimerExpiry l =>
      exact .inr (.inl ⟨l, .inr (.inr (.inr (.inr (.inr ⟨Timer.expired_iff.mpr h, rfl⟩))))⟩)
    | ageExpiry k => exact .inr (.inr (.inl ⟨k, State.pastLimit_iff.mpr h, rfl⟩))
    | clockAdvance => exact .inr (.inr (.inr (.inl ⟨h, rfl⟩)))
    | runSecondsAdvance => exact .inr (.inr (.inr (.inr ⟨h, rfl⟩)))
    | _ => exact h.elim

theorem State.mem_senses {s : State} {e : Instr} :
    e ∈ s.senses ↔ ∃ l, (s.drive.get l).senseDue = true ∧ e = .strokeComplete l := by
  simp [State.senses, mem_dueIf]

/-- The list of events that can come holds exactly those that can come. -/
theorem State.mem_coming {s : State} {e : Instr} : e ∈ s.coming ↔ s.CanCome e := by
  rw [State.coming, List.mem_append, State.mem_due, State.mem_senses]
  constructor
  · rintro (h | ⟨l, h, rfl⟩)
    · cases e with
      | strokeComplete => exact h.elim
      | _ => exact h
    · exact Drive.senseDue_iff.mp h
  · intro h
    cases e with
    | strokeComplete l => exact .inr ⟨l, Drive.senseDue_iff.mpr h, rfl⟩
    | _ => exact .inl h

theorem State.overtaken_iff {s : State} {e : Instr} :
    s.overtaken e = true ↔ e ∈ s.cameDue ∧ ¬ s.CanCome e := by
  rw [overtaken_eq_true, State.mem_coming]

theorem State.NotOvertaken.overtaken {s : State} {e : Instr} (h : s.NotOvertaken e) : s.overtaken e = false := by
  rw [overtaken_eq_false]
  exact fun hm => State.mem_coming.mpr (h hm)

/-- An event that could come as the millisecond began and cannot come any more does nothing. -/
theorem State.onEvent_of_gone {s : State} {e : Instr} (h : e ∈ s.cameDue) (hc : ¬ s.CanCome e)
    (act : State → State) : s.onEvent e act = s :=
  onEvent_of_overtaken (State.overtaken_iff.mpr ⟨h, hc⟩) act

end Coming

end Sys2Proof.Machine


/-! SUPPORT. What no request changes, and the requests that move neither a line nor grout: `Unheard` and `Aside`. -/

namespace Sys2Proof.Machine

/-! ### What no request changes (log 24, R153) -/

/-- The events that could come as the millisecond began and the receivers of the ports are the same. -/
structure Unheard (s t : State) : Prop where
  cameDue : t.cameDue = s.cameDue
  rx : ∀ p, (t.port.get p).rx = (s.port.get p).rx

theorem Unheard.refl (s : State) : Unheard s s := ⟨rfl, fun _ => rfl⟩

theorem Unheard.trans {s t u : State} (h : Unheard s t) (k : Unheard t u) : Unheard s u :=
  ⟨k.cameDue.trans h.cameDue, fun p => (k.rx p).trans (h.rx p)⟩

theorem Steady.cameDue {s t : State} (h : Steady s t) : t.cameDue = s.cameDue := by
  obtain ⟨_, ⟨_, _, _, _, _, hc, _⟩, _⟩ := h
  exact hc

theorem Steady.unheard {s t : State} (h : Steady s t) : Unheard s t := ⟨h.cameDue, fun p => (h.ports p).rx⟩

/-- A request whose owner changes no line, no grout, no log and no receiver: what it leaves. Of a line only
whether it has a stage is kept, since a WRITE_LINE moves one between OFF and IDLE (R4). -/
structure Aside (s t : State) : Prop where
  unheard : Unheard s t
  stage : ∀ l, (t.lineState l).hasStage = (s.lineState l).hasStage
  drive : t.drive = s.drive
  openRec : t.openRec = s.openRec
  level : ∀ k, (t.tanks.get k).level = (s.tanks.get k).level
  log : t.log = s.log
  nextEntry : t.nextEntry = s.nextEntry

theorem Aside.refl (s : State) : Aside s s :=
  ⟨Unheard.refl s, fun _ => rfl, rfl, rfl, fun _ => rfl, rfl, rfl⟩

theorem Aside.trans {s t u : State} (h : Aside s t) (k : Aside t u) : Aside s u :=
  ⟨h.unheard.trans k.unheard, fun l => (k.stage l).trans (h.stage l), k.drive.trans h.drive,
    k.openRec.trans h.openRec, fun j => (k.level j).trans (h.level j), k.log.trans h.log,
    k.nextEntry.trans h.nextEntry⟩

theorem Aside.updPort (s : State) (p : Port) {f : PortState → PortState} (hf : ∀ q, (f q).rx = q.rx) :
    Aside s (s.updPort p f) := by
  refine ⟨⟨rfl, fun q => ?_⟩, fun _ => rfl, rfl, rfl, fun _ => rfl, rfl, rfl⟩
  rw [State.updPort_port, PerPort.get_upd]
  split
  · exact hf _
  · rfl

theorem Aside.latchAll (s : State) (e : Event) : Aside s (s.latchAll e) :=
  ⟨((LineOnly.refl .l1 s).latchAll e).steady.unheard, fun _ => rfl, rfl, rfl, fun _ => rfl, rfl, rfl⟩

/-- What a port makes of a request: an error latched, an answer without the owner, or the owner's action
answered (R154 to R156). -/
theorem request_cases (s : State) (p : Port) (code : Nat) (allowed : List Port) (owner : State → State × Answer) :
    s.request p code allowed owner = s.latchOn p .frameError ∨
    ∃ r, s.request p code allowed owner = (s.restartSilence p).respond p r ∨
      s.request p code allowed owner = (owner (s.restartSilence p)).1.respond p r := by
  unfold State.request
  split
  · exact .inl rfl
  · dsimp only
    split
    · exact .inr ⟨_, .inr rfl⟩
    · exact .inr ⟨_, .inl rfl⟩

theorem Aside.restartSilence (s : State) (p : Port) : Aside s (s.restartSilence p) :=
  Aside.updPort s p fun _ => rfl

theorem Aside.respond (s : State) (p : Port) (r : Response) : Aside s (s.respond p r) :=
  Aside.updPort s p fun _ => rfl

theorem Aside.latchOn (s : State) (p : Port) (e : Event) : Aside s (s.latchOn p e) :=
  Aside.updPort s p fun _ => rfl

/-- A relation that asides keep on both sides holds of a request when it holds of the owner's action. -/
theorem request_induct {R : State → State → Prop} (aside : ∀ {a b}, Aside a b → R a b)
    (trans : ∀ {a b c}, R a b → R b c → R a c) {owner : State → State × Answer} (ho : ∀ u, R u (owner u).1)
    (s : State) (p : Port) (code : Nat) (allowed : List Port) : R s (s.request p code allowed owner) := by
  obtain h | ⟨r, h | h⟩ := request_cases s p code allowed owner
  · exact h ▸ aside (Aside.latchOn s p _)
  · exact h ▸ aside ((Aside.restartSilence s p).trans (Aside.respond _ p r))
  · exact h ▸ trans (trans (aside (Aside.restartSilence s p)) (ho _)) (aside (Aside.respond _ p r))

theorem onLine_induct {R : State → State → Prop} (refl : ∀ u, R u u) {f : LineId → State → State × Answer}
    (hf : ∀ l u, R u (f l u).1) (line : Nat) (u : State) : R u (onLine line f u).1 := by
  unfold onLine
  split
  · exact hf _ u
  · exact refl u

theorem onTank_induct {R : State → State → Prop} (refl : ∀ u, R u u) {f : TankId → State → State × Answer}
    (hf : ∀ k u, R u (f k u).1) (tank : Nat) (u : State) : R u (onTank tank f u).1 := by
  unfold onTank
  split
  · exact hf _ u
  · exact refl u

/-! ### The requests that move no line and no grout -/

theorem setCeilingAt_aside (ceiling : Nat) (l : LineId) (u : State) : Aside u (setCeilingAt ceiling l u).1 := by
  unfold setCeilingAt
  split
  · exact ⟨⟨rfl, fun _ => rfl⟩, fun _ => rfl, rfl, rfl, fun _ => rfl, rfl, rfl⟩
  · exact Aside.refl u

theorem superviseOwner_aside (p : Port) (interval : Nat) (u : State) : Aside u (superviseOwner p interval u).1 := by
  unfold superviseOwner
  split
  · exact Aside.refl u
  · split <;> exact Aside.updPort u p fun _ => rfl

theorem markReadOwner_aside (p : Port) (entry : Nat) (u : State) : Aside u (markReadOwner p entry u).1 := by
  unfold markReadOwner
  split
  · exact Aside.refl u
  · exact Aside.updPort u p fun _ => rfl

theorem readSnapshotOwner_aside (p : Port) (part : Nat) (u : State) : Aside u (readSnapshotOwner p part u).1 := by
  unfold readSnapshotOwner
  split
  · exact Aside.refl u
  · split <;> exact Aside.refl u

theorem readSettingsOwner_aside (table index : Nat) (u : State) : Aside u (readSettingsOwner table index u).1 := by
  unfold readSettingsOwner
  split <;> exact Aside.refl u

theorem noteOwner_aside (p : Port) (code : Nat) (u : State) : Aside u (noteOwner p code u).1 := by
  unfold noteOwner
  split
  · exact Aside.refl u
  · refine ⟨⟨rfl, fun q => ?_⟩, fun _ => rfl, rfl, rfl, fun _ => rfl, rfl, rfl⟩
    dsimp only [State.latchOthers]
    rw [PerPort.get_mapIdx, PerPort.get_mapIdx]
    split <;> rfl

theorem followEnabled_aside (u : State) (l : LineId) (enabled : Bool) : Aside u (u.followEnabled l enabled) := by
  have moved (state : LineState) (f : Regulator → Regulator) (h : state.hasStage = (u.lineState l).hasStage) :
      Aside u ((u.updSeq l fun q => { q.released with state := state }).updReg l f) := by
    refine ⟨⟨rfl, fun _ => rfl⟩, fun k => ?_, rfl, rfl, fun _ => rfl, rfl, rfl⟩
    rw [State.lineState, State.updReg_seq, State.updSeq_seq, PerLine.get_upd]
    split
    · next hk => rw [hk]; exact h
    · rfl
  unfold State.followEnabled
  split
  · next h => exact moved _ _ (by rw [h]; rfl)
  · next h => exact moved _ _ (by rw [h]; rfl)
  · exact Aside.refl u

theorem writeLineAt_aside (q : LineWrite) (l : LineId) (u : State) : Aside u (writeLineAt q l u).1 := by
  unfold writeLineAt
  split
  · exact Aside.refl u
  · split
    · exact Aside.refl u
    · have written : Aside u { u with lineTable := u.lineTable.set l (lineEntryOf q) } :=
        ⟨⟨rfl, fun _ => rfl⟩, fun _ => rfl, rfl, rfl, fun _ => rfl, rfl, rfl⟩
      exact written.trans (followEnabled_aside _ l _)

theorem writeMixOwner_aside (code : Nat) (q : MixWrite) (u : State) : Aside u (writeMixOwner code q u).1 := by
  unfold writeMixOwner
  split
  · exact Aside.refl u
  · split
    · exact Aside.refl u
    · split
      · exact Aside.refl u
      · exact ⟨⟨rfl, fun _ => rfl⟩, fun _ => rfl, rfl, rfl, fun _ => rfl, rfl, rfl⟩

theorem writeBandsOwner_aside (q : BandTable) (u : State) : Aside u (writeBandsOwner q u).1 := by
  unfold writeBandsOwner
  split
  · exact ⟨⟨rfl, fun _ => rfl⟩, fun _ => rfl, rfl, rfl, fun _ => rfl, rfl, rfl⟩
  · exact Aside.refl u

theorem writeTimingOwner_aside (q : TimingTable) (u : State) : Aside u (writeTimingOwner q u).1 := by
  unfold writeTimingOwner
  split
  · exact ⟨⟨rfl, fun _ => rfl⟩, fun _ => rfl, rfl, rfl, fun _ => rfl, rfl, rfl⟩
  · exact Aside.refl u

theorem writeEnvelopeOwner_aside (q : EnvelopeTable) (u : State) : Aside u (writeEnvelopeOwner q u).1 := by
  unfold writeEnvelopeOwner
  split
  · exact ⟨⟨rfl, fun _ => rfl⟩, fun _ => rfl, rfl, rfl, fun _ => rfl, rfl, rfl⟩
  · exact Aside.refl u

theorem setClockOwner_aside (day second : Nat) (u : State) : Aside u (setClockOwner day second u).1 := by
  unfold setClockOwner
  split
  · exact Aside.refl u
  · have written : Aside u { u with clock := ⟨day, second, true⟩, clockPhase := 0 } :=
      ⟨⟨rfl, fun _ => rfl⟩, fun _ => rfl, rfl, rfl, fun _ => rfl, rfl, rfl⟩
    exact written.trans (Aside.latchAll _ _)

/-- A tank changed in anything but its level. -/
theorem Aside.updTank (u : State) (k : TankId) {f : Tank → Tank} (hf : ∀ t, (f t).level = t.level) :
    Aside u (u.updTank k f) := by
  refine ⟨⟨rfl, fun _ => rfl⟩, fun _ => rfl, rfl, rfl, fun j => ?_, rfl, rfl⟩
  rw [State.updTank_tanks, PerTank.get_upd]
  split
  · exact hf _
  · rfl

@[simp] theorem Tank.fitted_level (t : Tank) (capacity : Nat) : (t.fitted capacity).level = t.level := by
  unfold Tank.fitted
  split <;> rfl

theorem makeStale_aside (u : State) (k : TankId) : Aside u (u.makeStale k) :=
  (Aside.updTank u k fun _ => by rfl).trans (Aside.latchAll _ _)

theorem writeTankAt_aside (capacity ageLimit : Nat) (k : TankId) (u : State) :
    Aside u (writeTankAt capacity ageLimit k u).1 := by
  unfold writeTankAt
  split
  · exact Aside.refl u
  · split
    · exact Aside.refl u
    · have written : Aside u { u with tankTable := u.tankTable.set k ⟨capacity, ageLimit⟩ } :=
        ⟨⟨rfl, fun _ => rfl⟩, fun _ => rfl, rfl, rfl, fun _ => rfl, rfl, rfl⟩
      have fitted := written.trans (Aside.updTank _ k (Tank.fitted_level · capacity))
      dsimp only
      split
      · exact fitted.trans (makeStale_aside _ k)
      · exact fitted

/-- The requests that can move a line or grout; the other requests only read, or write a setting or a port. -/
def moves : Instr → Bool
  | .seat .. | .test .. | .charge .. | .inject .. | .finish .. | .abort .. | .clearFault .. | .circulate ..
  | .hold .. | .releaseHold .. | .releaseConnection .. | .deliver .. | .dump .. => true
  | _ => false

theorem Aside.request {owner : State → State × Answer} (ho : ∀ u, Aside u (owner u).1) (s : State) (p : Port)
    (code : Nat) (allowed : List Port) : Aside s (s.request p code allowed owner) :=
  request_induct id Aside.trans ho s p code allowed

theorem runRequest_aside {i : Instr} (hi : moves i = false) (s : State) :
    ∃ t, runRequest i s = .next t ∧ Aside s t := by
  cases i with
  | seat | test | charge | inject | finish | abort | clearFault | circulate | hold | releaseHold
  | releaseConnection | deliver | dump => cases hi
  | setCeiling p line ceiling =>
    exact ⟨_, rfl, .request (onLine_induct Aside.refl (setCeilingAt_aside ceiling) line) s p _ _⟩
  | supervise p interval => exact ⟨_, rfl, .request (superviseOwner_aside p interval) s p _ _⟩
  | readTanks p | readDemand p | logRange p | status p | readEvents p | readNote p | readClock p =>
    exact ⟨_, rfl, .request Aside.refl s p _ _⟩
  | readOpen p line | readCapture p line =>
    exact ⟨_, rfl, .request (onLine_induct Aside.refl (fun _ => Aside.refl) line) s p _ _⟩
  | readLog p entry => exact ⟨_, rfl, .request Aside.refl s p _ _⟩
  | markRead p entry => exact ⟨_, rfl, .request (markReadOwner_aside p entry) s p _ _⟩
  | readSnapshot p part => exact ⟨_, rfl, .request (readSnapshotOwner_aside p part) s p _ _⟩
  | snapshot p => exact ⟨_, rfl, .request (fun u => Aside.updPort u p fun _ => by rfl) s p _ _⟩
  | clearEvents p events => exact ⟨_, rfl, .request (fun u => Aside.updPort u p fun _ => by rfl) s p _ _⟩
  | setMask p events => exact ⟨_, rfl, .request (fun u => Aside.updPort u p fun _ => by rfl) s p _ _⟩
  | portReset p => exact ⟨_, rfl, .request (fun u => Aside.updPort u p fun _ => by rfl) s p _ _⟩
  | restart p => exact ⟨_, rfl, .request (fun u => Aside.updPort u p fun _ => by rfl) s p _ _⟩
  | note p code => exact ⟨_, rfl, .request (noteOwner_aside p code) s p _ _⟩
  | writeLine p line q =>
    exact ⟨_, rfl, .request (onLine_induct Aside.refl (writeLineAt_aside q) line) s p _ _⟩
  | writeMix p code q => exact ⟨_, rfl, .request (writeMixOwner_aside code q) s p _ _⟩
  | writeBands p q => exact ⟨_, rfl, .request (writeBandsOwner_aside q) s p _ _⟩
  | writeTiming p q => exact ⟨_, rfl, .request (writeTimingOwner_aside q) s p _ _⟩
  | writeEnvelope p q => exact ⟨_, rfl, .request (writeEnvelopeOwner_aside q) s p _ _⟩
  | writeTank p tank capacity ageLimit =>
    exact ⟨_, rfl, .request (onTank_induct Aside.refl (writeTankAt_aside capacity ageLimit) tank) s p _ _⟩
  | readSettings p table index => exact ⟨_, rfl, .request (readSettingsOwner_aside table index) s p _ _⟩
  | setClock p day second => exact ⟨_, rfl, .request (setClockOwner_aside day second) s p _ _⟩
  | _ => exact ⟨_, rfl, Aside.refl s⟩

end Sys2Proof.Machine


/-! SUPPORT. No command but power-on changes the events of the millisecond (log 24). -/

namespace Sys2Proof.Machine

/-! ### What every other command leaves of the events of the millisecond (log 24) -/

theorem deferrable_lineOnly (req : PendingReq) (l : LineId) (u : State) : LineOnly l u (deferrable req l u).1 := by
  unfold deferrable
  split
  · exact (LineOnly.refl l u).takeDeferred req
  · exact (LineOnly.refl l u).updSeq _
  · exact LineOnly.refl l u

theorem finishAt_lineOnly (l : LineId) (u : State) : LineOnly l u (finishAt l u).1 := by
  unfold finishAt
  split
  iterate 6 exact (LineOnly.refl l u).stageEnd _ _
  iterate 4 exact LineOnly.refl l u

theorem abortAt_lineOnly (p : Port) (l : LineId) (u : State) : LineOnly l u (abortAt p l u).1 := by
  unfold abortAt
  split
  · exact (LineOnly.refl l u).stageEnd _ _
  · exact LineOnly.refl l u

theorem clearFaultAt_lineOnly (l : LineId) (u : State) : LineOnly l u (clearFaultAt l u).1 := by
  unfold clearFaultAt
  split
  · exact LineOnly.refl l u
  · split
    · exact LineOnly.refl l u
    · dsimp only
      split
      · exact ((LineOnly.refl l u).updSeq _).enterFlushing
      · exact ((LineOnly.refl l u).updSeq _).enterIdle

theorem circulateAt_lineOnly (l : LineId) (u : State) : LineOnly l u (circulateAt l u).1 := by
  unfold circulateAt
  split
  · exact (LineOnly.refl l u).startBurst
  · exact LineOnly.refl l u

theorem holdOwner_steady (p : Port) (lines : Byte) (u : State) : Steady u (holdOwner p lines u).1 := by
  unfold holdOwner
  split
  · exact Steady.refl u
  · exact (holdOperation_steady u _).1

theorem releaseAt_steady (k : HoldKey) (lines : Byte) (u : State) : Steady u (releaseAt k lines u).1 := by
  unfold releaseAt
  split
  · exact Steady.refl u
  · exact (holdOperation_steady u _).1

theorem releaseHoldOwner_steady (p : Port) (reason : Nat) (lines : Byte) (u : State) :
    Steady u (releaseHoldOwner p reason lines u).1 := by
  unfold releaseHoldOwner
  split
  · exact Steady.refl u
  · split
    · exact Steady.refl u
    · exact releaseAt_steady _ lines u

theorem releaseConnectionOwner_steady (lines : Byte) (u : State) :
    Steady u (releaseConnectionOwner lines u).1 := by
  unfold releaseConnectionOwner
  split
  · exact Steady.refl u
  · exact releaseAt_steady _ lines u

theorem serveLine_steady (mix : Nat) (acc : State × Nat) (l : LineId) :
    Steady acc.1 (serveLine mix acc l).1 := by
  unfold serveLine State.freeWaiting
  dsimp only
  split
  · exact Steady.refl _
  · split
    · exact ((((LineOnly.refl l _).payFrom _ _).setDemand _).updSeq _ |>.causeRemoved _).steady
    · exact (((LineOnly.refl l _).setDemand _).updSeq _ |>.causeRemoved _).steady

theorem serveLines_steady (mix : Nat) (ls : List LineId) (acc : State × Nat) :
    Steady acc.1 (ls.foldl (serveLine mix) acc).1 := by
  induction ls generalizing acc with
  | nil => exact Steady.refl _
  | cons l ls ih => exact (serveLine_steady mix acc l).trans (ih _)

theorem serve_steady (u : State) (mix : Nat) : Steady u (u.serve mix).1 := by
  have served := serveLines_steady mix (u.waitingFor mix) (u, 0)
  have emptied (q : List DemandEntry) := served.trans ((LineOnly.refl .l1 _).setDemand q).steady
  unfold State.serve
  dsimp only
  split
  · exact emptied _
  · exact (emptied _).trans ((LineOnly.refl .l1 _).latchAll _).steady

theorem deliverAt_steady (mix litres : Nat) (k : TankId) (u : State) :
    Steady u (deliverAt mix litres k u).1 := by
  unfold deliverAt
  split
  · have filled (f : Tank → Tank) := (LineOnly.refl .l1 u).updTank k f
    dsimp only
    split
    · exact ((filled _).latchAll _).steady.trans (serve_steady _ mix)
    · exact (filled _).steady.trans (serve_steady _ mix)
  · exact Steady.refl u

theorem dumpAt_steady (k : TankId) (u : State) : Steady u (dumpAt k u).1 := by
  unfold dumpAt
  split
  · exact Steady.refl u
  · exact Steady.refl u
  iterate 2 exact ((LineOnly.refl .l1 u).updTank k _).steady

/-- No request changes what could come as the millisecond began, or a receiver. -/
theorem Unheard.request {owner : State → State × Answer} (ho : ∀ u, Steady u (owner u).1) (s : State) (p : Port)
    (code : Nat) (allowed : List Port) : Unheard s (s.request p code allowed owner) :=
  request_induct Aside.unheard Unheard.trans (fun u => (ho u).unheard) s p code allowed

theorem Unheard.lineRequest {f : LineId → State → State × Answer} (hf : ∀ l u, LineOnly l u (f l u).1) (s : State)
    (p : Port) (line code : Nat) (allowed : List Port) :
    Unheard s (s.request p code allowed (onLine line f)) :=
  Unheard.request (onLine_induct Steady.refl (fun l u => (hf l u).steady) line) s p code allowed

theorem runRequest_unheard (i : Instr) (s : State) : ∃ t, runRequest i s = .next t ∧ Unheard s t := by
  by_cases hm : moves i = false
  · obtain ⟨t, ht, ha⟩ := runRequest_aside hm s
    exact ⟨t, ht, ha.unheard⟩
  cases i with
  | seat p line q => exact ⟨_, rfl, .lineRequest (deferrable_lineOnly _) s p line _ _⟩
  | test p line target duration => exact ⟨_, rfl, .lineRequest (deferrable_lineOnly _) s p line _ _⟩
  | charge p line => exact ⟨_, rfl, .lineRequest (deferrable_lineOnly _) s p line _ _⟩
  | inject p line => exact ⟨_, rfl, .lineRequest (deferrable_lineOnly _) s p line _ _⟩
  | finish p line => exact ⟨_, rfl, .lineRequest finishAt_lineOnly s p line _ _⟩
  | abort p line => exact ⟨_, rfl, .lineRequest (abortAt_lineOnly p) s p line _ _⟩
  | clearFault p line => exact ⟨_, rfl, .lineRequest clearFaultAt_lineOnly s p line _ _⟩
  | circulate p line => exact ⟨_, rfl, .lineRequest circulateAt_lineOnly s p line _ _⟩
  | hold p lines => exact ⟨_, rfl, .request (holdOwner_steady p lines) s p _ _⟩
  | releaseHold p reason lines => exact ⟨_, rfl, .request (releaseHoldOwner_steady p reason lines) s p _ _⟩
  | releaseConnection p lines => exact ⟨_, rfl, .request (releaseConnectionOwner_steady lines) s p _ _⟩
  | deliver p tank mix litres =>
    exact ⟨_, rfl, .request (onTank_induct Steady.refl (deliverAt_steady mix litres) tank) s p _ _⟩
  | dump p tank => exact ⟨_, rfl, .request (onTank_induct Steady.refl dumpAt_steady tank) s p _ _⟩
  | _ => exact absurd rfl hm

theorem rejectFrame_aside (s : State) (p : Port) (code : Nat) : Aside s (s.rejectFrame p code) := by
  unfold State.rejectFrame
  dsimp only
  split
  · exact (Aside.restartSilence s p).trans (Aside.respond _ p _)
  · exact (Aside.restartSilence s p).trans (Aside.latchOn _ p _)

/-- A frame's dispatch, whatever the frame (R154, R155). -/
theorem takeFrame_unheard (p : Port) (frame : List Byte) (s : State) :
    ∃ t, takeFrame p frame s = .next t ∧ Unheard s t := by
  unfold takeFrame
  split
  · exact ⟨_, rfl, (Aside.latchOn s p _).unheard⟩
  · split
    · exact runRequest_unheard _ s
    · exact ⟨_, rfl, (rejectFrame_aside s p _).unheard⟩

/-- A byte received leaves its port's receiver in HUNT or its gap timer at 0 (R153). -/
theorem execByteReceived_next (p : Port) (b : Byte) (s : State) :
    ∃ t, execByteReceived p b s = .next t ∧ t.cameDue = s.cameDue ∧
      ∀ bytes gap, (s.port.get p).rx = .receiving bytes gap →
        ∀ bytes' gap', (t.port.get p).rx = .receiving bytes' gap' → gap' = 0 := by
  unfold execByteReceived
  split
  · next hunt =>
    refine ⟨_, rfl, by split <;> rfl, fun bytes gap h => ?_⟩
    rw [hunt] at h
    cases h
  · unfold keepByte
    split
    · refine ⟨_, rfl, rfl, fun _ _ _ bytes' gap' h => ?_⟩
      simp [State.dropFrame, State.setReceiver, PortState.latch] at h
    · split
      · obtain ⟨t, ht, hu⟩ := takeFrame_unheard p _ (s.setReceiver p .hunt)
        refine ⟨t, ht, hu.cameDue, fun _ _ _ bytes' gap' h => ?_⟩
        rw [hu.rx] at h
        simp [State.setReceiver] at h
      · refine ⟨_, rfl, rfl, fun _ _ _ bytes' gap' h => ?_⟩
        simp [State.setReceiver] at h
        exact h.2.symm

/-! ### Samples with the connection watch (R130, R131), and the cabinet reset (R28) -/

theorem detectConnection_steady (u : State) (l : LineId) (pe base : Nat) (suspects : LineSet) :
    Steady u (u.detectConnection l pe base suspects) := by
  unfold State.detectConnection
  dsimp only
  refine Steady.trans (Steady.trans ?_ (holdOperation_steady _ _).1)
    (((((LineOnly.refl l _).updRec _).latchAll _).latchAll _).updReg _).steady
  exact ⟨⟨rfl, rfl, rfl, rfl, rfl, rfl, rfl⟩, ⟨rfl, rfl, rfl, rfl, rfl, rfl, rfl⟩, fun _ => PortSteady.refl _⟩

theorem handToWatch_steady (u : State) (l : LineId) (pe : Option Nat) : Steady u (u.handToWatch l pe) := by
  cases pe with
  | none => exact Steady.refl u
  | some pe =>
    change Steady u (u.watchSample l pe)
    unfold State.watchSample
    split
    · split
      · exact ((LineOnly.refl l u).updReg _).steady
      · split
        · exact detectConnection_steady u l pe _ _
        · exact Steady.refl u
    · exact Steady.refl u

theorem validSample_steady (u : State) (l : LineId) (kPa : Int) : Steady u (u.validSample l kPa) := by
  unfold State.validSample
  dsimp only
  split
  · exact ((LineOnly.refl l u).updReg _).steady.trans (handToWatch_steady _ l _)
  · have recorded (f : Regulator → Regulator) (pn : Nat) := (((LineOnly.refl l u).updReg f).recordSample pn).steady
    exact ((recorded _ _).trans (handToWatch_steady _ l _)).trans
      (((LineOnly.refl l _).updReg _).decideSample _ _).steady

theorem takeSample_steady (u : State) (l : LineId) (r : Reading) : Steady u (u.takeSample l r) := by
  have started (f : Regulator → Regulator) := ((LineOnly.refl l u).updReg f).steady
  unfold State.takeSample
  dsimp only
  split
  · exact (started _).trans (validSample_steady _ l _)
  · exact (started _).trans (LineOnly.refl l _).invalidSample.steady

theorem resetStage_lineOnly (u : State) (l : LineId) : LineOnly l u (u.resetStage l) := by
  unfold State.resetStage
  split
  · exact (LineOnly.refl l u).endStage _ _ _
  · exact LineOnly.refl l u

theorem cabinetReset_cameDue (u : State) : u.cabinetReset.cameDue = u.cameDue := by
  have reset (ls : List LineId) (u : State) : Steady u (ls.foldl State.resetStage u) := by
    induction ls generalizing u with
    | nil => exact Steady.refl u
    | cons l ls ih => exact (resetStage_lineOnly u l).steady.trans (ih _)
  exact (reset LineId.all u).cameDue

theorem lapse_cameDue (u : State) (p : Port) : (u.lapse p).cameDue = u.cameDue :=
  (holdOperation_steady _ _).1.cameDue

/-- An event keeps what could come as the millisecond began if its action does. -/
theorem onEvent_cameDue {s : State} (e : Instr) {act : State → State} (h : (act s).cameDue = s.cameDue) :
    (s.onEvent e act).cameDue = s.cameDue :=
  onEvent_induct (P := fun t => t.cameDue = s.cameDue) rfl h

/-- A request command does what the frame that carries it does (log 1). -/
theorem exec_request {i : Instr} (hi : (requestPort i).isSome = true) (s : State) : exec i s = runRequest i s := by
  cases i with
  | powerOn | cabinetReset | byteReceived | gapTimerExpiry | responseSent | sample | packerSettleExpiry
  | testTimerExpiry | strokeComplete | strokeWatchExpiry | circulationStaticExpiry | standingTimerExpiry
  | refusalTimerExpiry | silenceTimerExpiry | ageExpiry | clockAdvance | runSecondsAdvance
  | resetInputDeasserted => cases hi
  | _ => rfl

/-- No command but power-on changes what could come as the millisecond began (log 24). -/
theorem exec_cameDue {i : Instr} {s t : State} (hi : i ≠ .powerOn) (h : exec i s = .next t) :
    t.cameDue = s.cameDue := by
  have line (l : LineId) {u : State} (hu : LineOnly l s u) : u.cameDue = s.cameDue := hu.steady.cameDue
  have refl (l : LineId) := LineOnly.refl l s
  by_cases hr : (requestPort i).isSome = true
  · obtain ⟨u, hu, hk⟩ := runRequest_unheard i s
    rw [exec_request hr, hu] at h
    cases h
    exact hk.cameDue
  cases i with
  | powerOn => exact absurd rfl hi
  | cabinetReset =>
    cases h
    split
    · rfl
    · exact cabinetReset_cameDue s
  | byteReceived p b =>
    obtain ⟨u, hu, hc, -⟩ := execByteReceived_next p b s
    cases hu.symm.trans h
    exact hc
  | gapTimerExpiry p =>
    cases h
    refine onEvent_cameDue _ ?_
    split <;> rfl
  | responseSent p =>
    cases h
    split
    · rfl
    · split
      · exact cabinetReset_cameDue _
      · rfl
  | sample l r =>
    cases h
    split
    · rfl
    · exact (takeSample_steady s l r).cameDue
  | packerSettleExpiry l =>
    cases h
    refine onEvent_cameDue _ ?_
    dsimp only
    split
    · exact line l (refl l).settle
    · rfl
  | testTimerExpiry l =>
    cases h
    refine onEvent_cameDue _ ?_
    dsimp only
    split
    · exact line l ((refl l).endTest _)
    · rfl
  | strokeComplete l =>
    cases h
    exact onEvent_cameDue _ (line l (refl l).senseStroke)
  | strokeWatchExpiry l =>
    cases h
    refine onEvent_cameDue _ ?_
    split
    · exact line l (refl l).strokeFailure
    · rfl
  | circulationStaticExpiry l =>
    cases h
    refine onEvent_cameDue _ ?_
    split
    · exact line l (refl l).startBurst
    · rfl
  | standingTimerExpiry l =>
    cases h
    refine onEvent_cameDue _ ?_
    split
    · exact line l ((refl l).stageEnd _ _)
    · rfl
  | refusalTimerExpiry l =>
    cases h
    refine onEvent_cameDue _ ?_
    split
    · exact line l ((refl l).stageEnd _ _)
    · rfl
  | silenceTimerExpiry p =>
    cases h
    refine onEvent_cameDue _ ?_
    dsimp only
    split
    · exact lapse_cameDue s p
    · rfl
  | ageExpiry k =>
    cases h
    split <;> rfl
  | clockAdvance =>
    cases h
    exact onEvent_cameDue _ rfl
  | runSecondsAdvance =>
    cases h
    exact onEvent_cameDue _ rfl
  | resetInputDeasserted =>
    cases h
    rfl
  | _ => exact absurd rfl hr

end Sys2Proof.Machine


/-! PROOF of O45. A completion and the end of a stage leave no stroke that has run, an INJECT no timer that has run
out, and a byte no gap; so the event that comes with each has been overtaken. -/

namespace Sys2Proof.Machine

/-! ### Drives whose stroke has not run (R33, R38) -/

/-- A drive without a stroke, or with one whose watch stands at 0: no watch of it can have run out, and no sense of
it can come. -/
def Drive.Fresh (d : Drive) : Prop := d.stroke = none ∨ d.watch = some 0

theorem Drive.Fresh.watch_eq {d : Drive} (h : d.Fresh) {k : Stroke} (hk : k ∈ d.stroke) {w : Nat}
    (hw : w ∈ d.watch) : w = 0 := by
  rw [Option.mem_def] at hk hw
  obtain h | h := h
  · rw [h] at hk
    cases hk
  · rw [h] at hw
    exact (Option.some.inj hw).symm

theorem Drive.Fresh.not_senseDue {d : Drive} (h : d.Fresh) : ¬ d.senseDue = true := by
  rw [Drive.senseDue_iff]
  rintro ⟨k, hk, -, w, hw, hlt⟩
  have := h.watch_eq hk hw
  omega

theorem Drive.Fresh.not_watchExpired {d : Drive} (h : d.Fresh) (hp : ∀ k ∈ d.stroke, 0 < k.period) :
    ¬ d.watchExpired = true := by
  rw [Drive.watchExpired_iff]
  rintro ⟨k, hk, -, w, hw, hle⟩
  have := h.watch_eq hk hw
  have := hp k hk
  omega

/-- A change of a drive that keeps its watch and starts no stroke. -/
theorem Drive.Fresh.of_watch {d e : Drive} (h : d.Fresh) (hs : d.stroke = none → e.stroke = none)
    (hw : e.watch = d.watch) : e.Fresh := by
  obtain h | h := h
  · exact .inl (hs h)
  · exact .inr (hw.trans h)

theorem Drive.Fresh.writeZero {d : Drive} (h : d.Fresh) : d.writeZero.Fresh := by
  unfold Drive.writeZero
  split
  · exact h
  · exact h.of_watch (fun hs => by simp [hs]) rfl

theorem Drive.Fresh.restarted {d : Drive} (h : d.Fresh) (tmin : Nat) : (d.restarted tmin).Fresh :=
  h.of_watch (fun hs => by simp [Drive.restarted, hs]) rfl

/-- The drive of a line is fresh. -/
def State.FreshAt (s : State) (l : LineId) : Prop := (s.drive.get l).Fresh

section FreshAt

variable {s : State} {l : LineId}

theorem State.FreshAt.of_drive {t : State} (h : s.FreshAt l) (hd : t.drive = s.drive) : t.FreshAt l := by
  unfold State.FreshAt
  rw [hd]
  exact h

theorem freshAt_updDrive {f : Drive → Drive} (h : (f (s.drive.get l)).Fresh) : (s.updDrive l f).FreshAt l := by
  unfold State.FreshAt
  rw [State.updDrive_drive, PerLine.get_upd_self]
  exact h

theorem State.FreshAt.updSeq (h : s.FreshAt l) (f : Sequencer → Sequencer) : (s.updSeq l f).FreshAt l := h
theorem State.FreshAt.updReg (h : s.FreshAt l) (f : Regulator → Regulator) : (s.updReg l f).FreshAt l := h
theorem State.FreshAt.latchAll (h : s.FreshAt l) (e : Event) : (s.latchAll e).FreshAt l := h

/-! The end of a stage leaves the drive at rest (R24 step 2, R32). -/

theorem stopDrive_drive (s : State) (l : LineId) : (s.stopDrive l).drive.get l = .powerOn := by
  simp [State.stopDrive]

theorem leaveDemand_drive (s : State) (l : LineId) (quiet : Bool) : (s.leaveDemand l quiet).drive = s.drive := by
  unfold State.leaveDemand
  dsimp only
  split <;> simp

theorem addHeld_drive (s : State) (l : LineId) : (s.addHeld l).drive = s.drive := by
  unfold State.addHeld
  split <;> rfl

theorem endTimers_drive (s : State) (l : LineId) : (s.endTimers l).drive = s.drive := by
  unfold State.endTimers
  dsimp only
  split
  · exact addHeld_drive s l
  · rfl

theorem dropSlot_drive (s : State) (l : LineId) (quiet : Bool) : (s.dropSlot l quiet).drive = s.drive := by
  unfold State.dropSlot
  split <;> simp

theorem clearCauses_drive (s : State) (l : LineId) (quiet : Bool) : (s.clearCauses l quiet).drive = s.drive := by
  unfold State.clearCauses
  rw [dropSlot_drive]
  rfl

theorem makeRoom_drive (s : State) (appended : Nat) (quiet : Bool) : (s.makeRoom appended quiet).drive = s.drive := by
  unfold State.makeRoom
  split
  · rfl
  · split <;> rfl

theorem closeRecord_drive (s : State) (l : LineId) (fin : FinalValues) (reason : EndReason) (origin : Option Port)
    (quiet : Bool) : (s.closeRecord l fin reason origin quiet).drive = s.drive := by
  unfold State.closeRecord
  split
  · rfl
  · simp [makeRoom_drive]

theorem endStage_drive (s : State) (l : LineId) (reason : EndReason) (origin : Option Port) (quiet : Bool) :
    (s.endStage l reason origin quiet).drive.get l = .powerOn := by
  unfold State.endStage
  rw [closeRecord_drive, clearCauses_drive, endTimers_drive, leaveDemand_drive, stopDrive_drive]

theorem freshAt_endStage (s : State) (l : LineId) (reason : EndReason) (origin : Option Port) (quiet : Bool) :
    (s.endStage l reason origin quiet).FreshAt l :=
  .inl (by rw [endStage_drive]; rfl)

theorem freshAt_stopDrive (s : State) (l : LineId) : (s.stopDrive l).FreshAt l :=
  .inl (by rw [stopDrive_drive]; rfl)

theorem freshAt_abandonStroke (s : State) (l : LineId) : (s.abandonStroke l).FreshAt l := by
  unfold State.abandonStroke
  split
  · next h => exact .inl h
  · exact freshAt_updDrive (.inl rfl)

theorem State.FreshAt.lineFault (h : s.FreshAt l) (cause : FaultCause) : (s.lineFault l cause).FreshAt l := by
  unfold State.lineFault
  split
  iterate 6 exact ((freshAt_endStage s l _ _ _).updSeq _).latchAll _
  · refine State.FreshAt.latchAll (State.FreshAt.updSeq (State.FreshAt.of_drive ?_ (dropSlot_drive _ _ _)) _) _
    exact (freshAt_stopDrive s l).updSeq _
  · exact (freshAt_stopDrive s l).of_drive rfl
  · exact h.updSeq _
  · exact h

/-! A stroke starts with its watch at 0, and a write of the rate step starts one or keeps the watch (R33, R36). -/

theorem freshAt_runStroke (s : State) (l : LineId) (purpose : StrokePurpose) (source : Source) :
    (s.runStroke l purpose source).FreshAt l :=
  State.FreshAt.updSeq (freshAt_updDrive (.inr rfl)) _

theorem State.FreshAt.supplyWait (h : s.FreshAt l) (mix : Nat) : (s.supplyWait l mix).FreshAt l := by
  have zero : (((s.setDemand (joinDemand s.demand mix l s.stamp)).latchAll .supplyWait).updDrive l
      fun d => { d with rate := 0, pendingRate := 0 }).FreshAt l := freshAt_updDrive (h.of_watch id rfl)
  unfold State.supplyWait
  dsimp only
  split
  · exact zero
  · exact freshAt_updDrive (s := State.updSeq _ l _) (zero.of_watch id rfl)

theorem State.FreshAt.startGrout (h : s.FreshAt l) (purpose : StrokePurpose) (given : Option TankId) :
    (s.startGrout l purpose given).FreshAt l := by
  unfold State.startGrout
  split
  · exact (freshAt_runStroke s l _ _).updSeq _
  · split
    · exact h
    · split
      · exact (freshAt_runStroke _ l _ _).updSeq _
      · exact h.supplyWait _

theorem State.FreshAt.startStroke (h : s.FreshAt l) (given : Option TankId) : (s.startStroke l given).FreshAt l := by
  unfold State.startStroke
  split
  · exact h
  · exact freshAt_runStroke s l _ _
  · exact freshAt_runStroke s l _ _
  · exact h.startGrout _ _
  · exact h.startGrout _ _

theorem freshAt_strokeFailure (s : State) (l : LineId) : (s.strokeFailure l).FreshAt l := by
  refine State.FreshAt.lineFault (freshAt_updDrive ?_) _
  exact (freshAt_abandonStroke s l).of_watch id rfl

theorem State.FreshAt.restartStroke (h : s.FreshAt l) : (s.restartStroke l).FreshAt l := by
  unfold State.restartStroke
  dsimp only
  split
  · exact freshAt_strokeFailure _ l
  · exact freshAt_updDrive (h.restarted _)

theorem State.FreshAt.writeRate (h : s.FreshAt l) (r : Nat) (given : Option TankId) :
    (s.writeRate l r given).FreshAt l := by
  have stored : (s.updDrive l fun d => { d with pendingRate := r }).FreshAt l :=
    freshAt_updDrive (h.of_watch id rfl)
  unfold State.writeRate
  dsimp only
  split
  · exact stored
  · split
    · exact freshAt_updDrive h.writeZero
    · split
      · exact stored
      · split
        · exact stored.restartStroke
        · exact stored.startStroke _

theorem State.FreshAt.setPurpose (h : s.FreshAt l) (purpose : Purpose) (r : Nat) :
    (s.setPurpose l purpose r).FreshAt l :=
  State.FreshAt.writeRate (freshAt_updDrive (h.of_watch id rfl)) _ _

theorem State.FreshAt.enterFlushing (h : s.FreshAt l) : (s.enterFlushing l).FreshAt l := (h.updSeq _).setPurpose _ _

/-- The end of an open stage leaves the drive fresh, whatever its stroke had run. -/
theorem freshAt_stageEnd {s : State} {l : LineId} (hs : (s.lineState l).hasStage = true) (reason : EndReason)
    (origin : Option Port) : (s.stageEnd l reason origin).FreshAt l := by
  unfold State.stageEnd
  split
  iterate 4 exact (freshAt_endStage s l _ _ _).enterFlushing
  iterate 2 exact (freshAt_endStage s l _ _ _).updSeq _
  iterate 4 exact absurd hs (by simp [*, LineState.hasStage])

theorem State.FreshAt.stageEnd (h : s.FreshAt l) (reason : EndReason) (origin : Option Port) :
    (s.stageEnd l reason origin).FreshAt l := by
  by_cases hs : (s.lineState l).hasStage = true
  · exact freshAt_stageEnd hs reason origin
  · unfold State.stageEnd
    split
    iterate 6 exact absurd (by simp [*, LineState.hasStage]) hs
    iterate 4 exact h

/-! What the report of a completion does to a drive whose stroke has gone (R13, R25, R35, R41, R83 to R86). -/

theorem State.FreshAt.leaveHeld (h : s.FreshAt l) (given : Option TankId) : (s.leaveHeld l given).FreshAt l := by
  unfold State.leaveHeld
  split
  · exact h
  · refine State.FreshAt.writeRate (State.FreshAt.updReg (freshAt_updDrive ?_) _) _ _
    exact (h.of_drive (addHeld_drive s l)).of_watch id rfl

theorem State.FreshAt.takeDeferred (h : s.FreshAt l) (req : PendingReq) : (s.takeDeferred l req).FreshAt l := by
  cases req with
  | seat q =>
    change (s.takeSeat l q).FreshAt l
    unfold State.takeSeat
    dsimp only
    split <;> exact h
  | test target duration => exact ((h.updReg _).updSeq _).setPurpose _ _
  | charge =>
    change (s.takeCharge l).FreshAt l
    unfold State.takeCharge
    dsimp only
    exact State.FreshAt.setPurpose (h.of_drive (by split <;> rfl)) _ _
  | inject =>
    refine State.FreshAt.setPurpose (State.FreshAt.updReg (freshAt_updDrive ?_) _) _ _
    exact (h.updSeq _).of_watch id rfl

theorem State.FreshAt.runSlot (h : s.FreshAt l) (point : RunPoint) : (s.runSlot l point).FreshAt l := by
  unfold State.runSlot
  split
  · exact h
  · split
    · dsimp only
      split
      · exact (h.updSeq _).latchAll _
      · exact (h.updSeq _).takeDeferred _
    · exact h

theorem State.FreshAt.chargeComplete (h : s.FreshAt l) : (s.chargeComplete l).FreshAt l := by
  have ran := (h.writeRate 0 none).runSlot .chargeCompletion
  unfold State.chargeComplete
  dsimp only
  generalize (s.writeRate l 0 none).runSlot l .chargeCompletion = u at ran ⊢
  split
  · exact State.FreshAt.updReg (freshAt_updDrive ((ran.updSeq _).of_watch id rfl)) _
  · exact ran

theorem State.FreshAt.chargeDone (h : s.FreshAt l) : (s.chargeDone l).FreshAt l := by
  unfold State.chargeDone
  dsimp only
  split
  · exact (h.updSeq _).chargeComplete
  · exact h.updSeq _

theorem State.FreshAt.flushDone (h : s.FreshAt l) : (s.flushDone l).FreshAt l := by
  unfold State.flushDone State.flushComplete
  dsimp only
  split
  · exact (((h.updSeq _).writeRate 0 none).updSeq _).runSlot _
  · exact h.updSeq _

theorem State.FreshAt.circulateDone (h : s.FreshAt l) : (s.circulateDone l).FreshAt l := by
  unfold State.circulateDone State.endBurst
  split
  · exact h
  · split
    · dsimp only
      split
      · refine State.FreshAt.leaveHeld (State.FreshAt.updReg (State.FreshAt.updSeq (freshAt_updDrive ?_) _) _) _
        exact h.of_watch id rfl
      · exact State.FreshAt.updReg (State.FreshAt.updSeq (freshAt_updDrive (h.of_watch id rfl)) _) _
    · exact freshAt_updDrive (.inr rfl)

theorem State.FreshAt.evaluateInject (h : s.FreshAt l) : (s.evaluateInject l).FreshAt l := by
  unfold State.evaluateInject State.tryThicken
  split
  · exact h
  · split
    · exact h.stageEnd _ _
    · split
      · exact h
      · split
        · split <;> exact h
        · exact h

theorem State.FreshAt.completionAction (h : s.FreshAt l) (p : StrokePurpose) : (s.completionAction l p).FreshAt l := by
  cases p with
  | test => exact h
  | charge => exact h.chargeDone
  | inject => exact h.evaluateInject
  | circulate => exact h.circulateDone
  | flush => exact h.flushDone

/-- A completion leaves no stroke that has run (R35). -/
theorem freshAt_completeStroke (s : State) (l : LineId) (k : Stroke) : (s.completeStroke l k).FreshAt l := by
  have gone : ((s.creditStroke l k).updDrive l fun d => { d with stroke := none, watch := none }).FreshAt l :=
    freshAt_updDrive (.inl rfl)
  have reported := gone.completionAction k.purpose
  unfold State.completeStroke
  dsimp only
  split
  · exact reported
  · unfold State.nextStroke
    dsimp only
    split
    · exact reported.startStroke none
    · exact reported

end FreshAt

/-! ### Events overtaken (R38, R39, R73, R88, R92, R153) -/

theorem Timer.isRunning_iff {x : Timer} : x.isRunning = true ↔ x ≠ .stopped := by
  cases x <;> simp [Timer.isRunning]

/-- The line commands that end a stage leave its drive fresh. -/
theorem endsStage_freshAt {s : State} {l : LineId} {i : Instr} {reason : EndReason} {origin : Option Port}
    (h : EndsStage s l i reason origin) : ∃ t, exec i s = .next t ∧ i ≠ .powerOn ∧ t.FreshAt l := by
  have lineRequest {p : Port} (hf : s.free p) (hs : (s.lineState l).hasStage = true) (code : Nat)
      {allowed : List Port} (hp : p ∈ allowed) {f : LineId → State → State × Answer}
      (ho : ∀ u : State, (u.lineState l).hasStage = true → (f l u).1.FreshAt l) :
      (s.request p code allowed (onLine l.num f)).FreshAt l := by
    rw [request_taken hf code hp, onLine_num]
    exact (ho (s.restartSilence p) hs).of_drive rfl
  have abort (p : Port) (u : State) (hs : (u.lineState l).hasStage = true) : (abortAt p l u).1.FreshAt l := by
    rw [abortAt, if_pos hs]
    exact freshAt_stageEnd hs _ _
  obtain ⟨rfl, hf, hs, -, -⟩ | ⟨rfl, hf, hs, -, -⟩ | ⟨rfl, hf, hs, -, -⟩ | ⟨rfl, hst, ht, hn, -, -⟩ |
    ⟨rfl, hst, ht, hn, -, -⟩ := h
  · refine ⟨_, rfl, nofun, lineRequest hf hs _ (by decide) fun u hu => ?_⟩
    unfold finishAt
    split
    iterate 6 exact freshAt_stageEnd hu _ _
    iterate 4 exact absurd hu (by simp [*, LineState.hasStage])
  · exact ⟨_, rfl, nofun, lineRequest hf hs _ (by decide) (abort _)⟩
  · exact ⟨_, rfl, nofun, lineRequest hf hs _ (by decide) (abort _)⟩
  · refine ⟨_, rfl, nofun, ?_⟩
    have stands : (s.lineState l).stands = true ∧ (s.lineState l).hasStage = true := by
      obtain h | h := hst <;> rw [h] <;> exact ⟨rfl, rfl⟩
    rw [onEvent_of_not_overtaken hn.overtaken, Timer.isRunning_iff.mpr ht, stands.1]
    exact freshAt_stageEnd stands.2 _ _
  · refine ⟨_, rfl, nofun, ?_⟩
    rw [onEvent_of_not_overtaken hn.overtaken, Timer.isRunning_iff.mpr ht, hst]
    exact freshAt_stageEnd (by rw [hst]; rfl) _ _

/-! An INJECT leaves the standing and static timers stopped, or starts them afresh (R14, R22, R39, R90). -/

/-- Neither the standing timer nor the circulation static timer of a line has run its time. -/
def State.Standing (s : State) (l : LineId) : Prop :=
  ¬ RanOut (s.seq.get l).standingTimer ∧ ¬ RanOut (s.drive.get l).staticTimer

theorem not_ranOut_stopped : ¬ RanOut .stopped := by
  rintro ⟨_, _, h, _⟩
  cases h

theorem not_ranOut_startSeconds {n : Nat} (hn : 0 < n) : ¬ RanOut (.startSeconds n) := by
  rintro ⟨e, m, h, hle⟩
  cases h
  omega

section Standing

variable {s : State} {l : LineId}

theorem State.Standing.updSeq (h : s.Standing l) {f : Sequencer → Sequencer}
    (hf : ∀ q, (f q).standingTimer = q.standingTimer) : (s.updSeq l f).Standing l := by
  refine ⟨?_, h.2⟩
  rw [State.updSeq_seq, PerLine.get_upd_self, hf]
  exact h.1

theorem State.Standing.updDrive (h : s.Standing l) {f : Drive → Drive}
    (hf : ∀ d, (f d).staticTimer = d.staticTimer) : (s.updDrive l f).Standing l := by
  refine ⟨h.1, ?_⟩
  rw [State.updDrive_drive, PerLine.get_upd_self, hf]
  exact h.2

theorem State.Standing.of_eq {t : State} (h : s.Standing l) (hq : t.seq = s.seq) (hd : t.drive = s.drive) :
    t.Standing l := by
  unfold State.Standing
  rw [hq, hd]
  exact h

theorem standing_of_stopped (hq : (s.seq.get l).standingTimer = .stopped)
    (hd : (s.drive.get l).staticTimer = .stopped) :
    s.Standing l := by
  unfold State.Standing
  rw [hq, hd]
  exact ⟨not_ranOut_stopped, not_ranOut_stopped⟩

theorem State.Standing.abandonStroke (h : s.Standing l) : (s.abandonStroke l).Standing l := by
  unfold State.abandonStroke
  split
  · exact h
  · split
    · exact State.Standing.updDrive (h.of_eq rfl rfl) fun _ => rfl
    · exact h.updDrive fun _ => rfl

theorem State.Standing.stopDrive (h : s.Standing l) : (s.stopDrive l).Standing l := by
  refine ⟨h.abandonStroke.1, ?_⟩
  rw [stopDrive_drive]
  exact not_ranOut_stopped

theorem endTimers_standingTimer (s : State) (l : LineId) :
    ((s.endTimers l).seq.get l).standingTimer = .stopped := by
  simp [State.endTimers]

theorem dropSlot_standingTimer (s : State) (l : LineId) (quiet : Bool) :
    ((s.dropSlot l quiet).seq.get l).standingTimer = (s.seq.get l).standingTimer := by
  unfold State.dropSlot
  split <;> simp

theorem closeRecord_seq (s : State) (l : LineId) (fin : FinalValues) (reason : EndReason) (origin : Option Port)
    (quiet : Bool) : (s.closeRecord l fin reason origin quiet).seq = s.seq := by
  unfold State.closeRecord
  split
  · rfl
  · rw [State.latchUnless_seq]
    unfold State.makeRoom
    split
    · rfl
    · split <;> rfl

/-- The end of a stage stops both timers (R24 steps 2 and 4). -/
theorem standing_endStage (s : State) (l : LineId) (reason : EndReason) (origin : Option Port) (quiet : Bool) :
    (s.endStage l reason origin quiet).Standing l := by
  refine standing_of_stopped ?_ (by rw [endStage_drive]; rfl)
  unfold State.endStage State.clearCauses
  rw [closeRecord_seq, dropSlot_standingTimer]
  simp [endTimers_standingTimer]

theorem State.Standing.lineFault (h : s.Standing l) (cause : FaultCause) : (s.lineFault l cause).Standing l := by
  have faulted {u : State} (hu : u.Standing l) : (u.enterFault l cause).Standing l := by
    have moved : (u.updSeq l fun q => { q.released with state := .fault, faultCause := some cause }).Standing l :=
      hu.updSeq fun _ => rfl
    exact moved.of_eq rfl rfl
  unfold State.lineFault
  split
  iterate 6 exact faulted (standing_endStage s l _ _ _)
  · refine faulted ?_
    have cleared : ((s.stopDrive l).updSeq l fun q => { q with flushCount := 0, nf := 0 }).Standing l :=
      h.stopDrive.updSeq fun _ => rfl
    refine ⟨?_, ?_⟩
    · rw [dropSlot_standingTimer]
      exact cleared.1
    · rw [dropSlot_drive]
      exact cleared.2
  · exact faulted (h.stopDrive.updSeq fun _ => rfl)
  · exact h.updSeq fun _ => rfl
  · exact h

theorem State.Standing.strokeFailure (h : s.Standing l) : (s.strokeFailure l).Standing l := by
  refine State.Standing.lineFault ?_ _
  exact h.abandonStroke.updDrive fun _ => rfl

theorem State.Standing.restartStroke (h : s.Standing l) : (s.restartStroke l).Standing l := by
  have restarted : (s.updDrive l (·.restarted (s.lineTable.get l).tmin)).Standing l := h.updDrive fun _ => rfl
  unfold State.restartStroke
  dsimp only
  split
  · exact restarted.strokeFailure
  · exact restarted

/-- A supply wait starts both timers, or neither. -/
theorem State.Standing.supplyWait (h : s.Standing l) (hl : 0 < s.envelope.standingLimit)
    (ht : 0 < s.timing.staticTime) (mix : Nat) : (s.supplyWait l mix).Standing l := by
  unfold State.supplyWait
  dsimp only
  split
  · exact State.Standing.updDrive (h.of_eq rfl rfl) fun _ => rfl
  · constructor
    · simpa [State.enterHeld] using not_ranOut_startSeconds hl
    · simp only [State.enterHeld, State.updRec_drive, State.updSeq_drive, State.updReg_drive, State.updDrive_drive,
        PerLine.get_upd_self, State.staticStart]
      split
      · exact not_ranOut_startSeconds ht
      · exact not_ranOut_stopped

theorem standing_runGrout (h : s.Standing l) (purpose : StrokePurpose) (t : TankId) :
    (s.runGrout l purpose t).Standing l :=
  State.Standing.updSeq (State.Standing.updSeq (h.updDrive fun _ => by rfl) fun _ => by rfl) fun _ => by rfl

theorem State.Standing.startStroke (h : s.Standing l) (hl : 0 < s.envelope.standingLimit)
    (ht : 0 < s.timing.staticTime) (given : Option TankId) : (s.startStroke l given).Standing l := by
  have grout (purpose : StrokePurpose) : (s.startGrout l purpose given).Standing l := by
    unfold State.startGrout
    split
    · exact standing_runGrout h _ _
    · split
      · exact h
      · split
        · exact standing_runGrout (s := State.payFrom s l _ _) (h.of_eq rfl rfl) _ _
        · exact h.supplyWait hl ht _
  have water (purpose : StrokePurpose) : (s.runStroke l purpose .water).Standing l :=
    State.Standing.updSeq (h.updDrive fun _ => by rfl) fun _ => by rfl
  unfold State.startStroke
  split
  · exact h
  · exact water _
  · exact water _
  · exact grout _
  · exact grout _

theorem State.Standing.writeRate (h : s.Standing l) (hl : 0 < s.envelope.standingLimit)
    (ht : 0 < s.timing.staticTime) (r : Nat) (given : Option TankId) : (s.writeRate l r given).Standing l := by
  have stored : (s.updDrive l fun d => { d with pendingRate := r }).Standing l := h.updDrive fun _ => rfl
  unfold State.writeRate
  dsimp only
  split
  · exact stored
  · split
    · refine h.updDrive fun d => ?_
      unfold Drive.writeZero
      split <;> rfl
    · split
      · exact stored
      · split
        · exact stored.restartStroke
        · exact stored.startStroke hl ht given

theorem standing_takeInject (s : State) (l : LineId) (hl : 0 < s.envelope.standingLimit)
    (ht : 0 < s.timing.staticTime) : (s.takeInject l).Standing l := by
  have stopped (purpose : Purpose) : (((((s.updSeq l fun q =>
      { q with state := .injecting, returnOpen := false, standingTimer := .stopped }).updDrive l fun d =>
      { d with staticTimer := .stopped }).updReg l Regulator.disarm).updDrive l fun d =>
      { d with purpose := purpose })).Standing l := standing_of_stopped (by simp) (by simp)
  exact (stopped .inject).writeRate hl ht 1 none

end Standing

/-! ### Commands behind an event that has overtaken them -/

/-- The commands that tell of an expiry or of a stroke-end sense. -/
def isTimed : Instr → Bool
  | .gapTimerExpiry _ | .silenceTimerExpiry _ | .packerSettleExpiry _ | .testTimerExpiry _ | .strokeComplete _
  | .strokeWatchExpiry _ | .circulationStaticExpiry _ | .standingTimerExpiry _ | .refusalTimerExpiry _
  | .ageExpiry _ | .clockAdvance | .runSecondsAdvance => true
  | _ => false

/-- An event that could come as the millisecond began and cannot come any more changes nothing (log 24). -/
theorem exec_of_gone {s : State} {e : Instr} (he : isTimed e = true) (hm : e ∈ s.cameDue) (hc : ¬ s.CanCome e) :
    exec e s = .next s := by
  have gone (act : State → State) : (.next (s.onEvent e act) : Result) = .next s :=
    congrArg _ (State.onEvent_of_gone hm hc act)
  cases e with
  | ageExpiry k =>
    have fresh : ¬ s.pastLimit k = true := fun h => hc (State.pastLimit_iff.mp h)
    exact congrArg Host.Outcome.next (if_neg fresh)
  | gapTimerExpiry | silenceTimerExpiry | packerSettleExpiry | testTimerExpiry | strokeComplete | strokeWatchExpiry
  | circulationStaticExpiry | standingTimerExpiry | refusalTimerExpiry | clockAdvance | runSecondsAdvance =>
    exact gone _
  | _ => cases he

/-- The sense of a running stroke that no event has overtaken completes it (R35). -/
theorem exec_strokeComplete {s : State} {l : LineId} {k : Stroke} (hk : (s.drive.get l).stroke = some k)
    (hr : k.running = true) (hn : s.NotOvertaken (.strokeComplete l)) :
    exec (.strokeComplete l) s = .next (s.completeStroke l k) := by
  change Host.Outcome.next (s.onEvent (.strokeComplete l) (·.senseStroke l)) = _
  rw [onEvent_of_not_overtaken hn.overtaken, State.senseStroke, hk]
  simp [hr]

/-- An INJECT taken at once leaves neither timer of standing grout run out (R14). -/
theorem exec_inject_standing {s : State} {l : LineId} (hf : s.free .gallery) (ht : s.takesAtOnce l .inject)
    (hh : s.covered l = false) (hl : 0 < s.envelope.standingLimit) (hst : 0 < s.timing.staticTime) :
    ∃ t, exec (.inject .gallery l.num) s = .next t ∧ t.Standing l := by
  refine ⟨_, rfl, ?_⟩
  obtain ⟨hready, hburst⟩ := ht
  have accepted : (s.restartSilence .gallery).lineStatus l .inject = .ok := by
    have hc : (s.restartSilence .gallery).covered l = false := hh
    have hs : ((s.restartSilence .gallery).seq.get l).state = .ready := hready
    have hb : ((s.restartSilence .gallery).drive.get l).burst = none := hburst
    simp [State.lineStatus, taking, hs, hb, hc, State.paramsValid, State.seatConflict]
  have owner : (deferrable .inject l (s.restartSilence .gallery)).1 = (s.restartSilence .gallery).takeInject l := by
    unfold deferrable
    rw [accepted]
    rfl
  rw [request_taken hf _ (by decide), onLine_num, owner]
  exact (standing_takeInject (s.restartSilence .gallery) l hl hst).of_eq rfl rfl

/-- Settles O45: what the first event leaves cannot come any more (a fresh stroke, a fresh or stopped timer, a gap at
0), so that the second has been overtaken. -/
theorem overtakenEventsDoNothing : Obligations.OvertakenEventsDoNothing := by
  intro s
  refine ⟨fun e hm hc he => exec_of_gone ?_ hm hc, fun i t => exec_cameDue, ?_, ?_, ?_, ?_⟩
  · obtain ⟨p, rfl | rfl⟩ | ⟨l, rfl | rfl | rfl | rfl | rfl | rfl | rfl⟩ | ⟨k, rfl⟩ | rfl | rfl := he <;> rfl
  · intro l k hk hr hn hm
    have sensed := exec_strokeComplete hk hr hn
    refine ⟨_, sensed, fun hp => exec_of_gone rfl (exec_cameDue (by nofun) sensed ▸ hm) fun h => ?_⟩
    exact (freshAt_completeStroke s l k).not_watchExpired hp (Drive.watchExpired_iff.mpr h)
  · intro l i reason origin he hm
    obtain ⟨t, ht, hi, fresh⟩ := endsStage_freshAt he
    refine ⟨t, ht, exec_of_gone rfl (exec_cameDue hi ht ▸ hm) fun h => ?_⟩
    exact fresh.not_senseDue (Drive.senseDue_iff.mpr h)
  · intro l hf hr hh hl hst
    obtain ⟨t, ht, hs⟩ := exec_inject_standing hf hr hh hl hst
    have hc := exec_cameDue (by nofun) ht
    exact ⟨t, ht, fun hm => exec_of_gone rfl (hc ▸ hm) hs.1, fun hm => exec_of_gone rfl (hc ▸ hm) hs.2⟩
  · intro p b bytes gap hrx hm
    obtain ⟨t, ht, hc, hg⟩ := execByteReceived_next p b s
    refine ⟨t, ht, exec_of_gone rfl (hc ▸ hm) ?_⟩
    rintro ⟨bytes', gap', h, hle⟩
    rw [hg bytes gap hrx bytes' gap' h] at hle
    omega

end Sys2Proof.Machine


/-! SUPPORT. The account of grout line by line, and the ledger of the records closed: `Shifts` and `Ledger`. -/

namespace Sys2Proof.Machine

/-! ### The account by lines (R34, R138) -/

/-- The grout a stroke carries. -/
def Stroke.grout (k : Stroke) : Nat := if k.purpose.isGrout then k.volume else 0

/-- The grout in flight at a drive. -/
def Drive.grout (d : Drive) : Nat := (d.stroke.map Stroke.grout).getD 0

/-- The purposes that draw from a tank. -/
def Purpose.isGrout : Purpose → Bool
  | .charge | .inject => true
  | .none | .test | .flush => false

/-- A drive that moves grout, or would with its next stroke. -/
def Drive.worksGrout (d : Drive) : Bool := d.purpose.isGrout || d.stroke.any (·.purpose.isGrout)

/-- The grout of one line: in flight, and in the volumes of its open record. -/
def State.lineGrout (s : State) (l : LineId) : Nat :=
  (s.drive.get l).grout + ((s.openRec.get l).map Record.placed).getD 0

/-- The grout in the tanks. -/
def State.tankGrout (s : State) : Nat := (TankId.all.map fun t => (s.tanks.get t).level).sum

/-- The number of open records. -/
def State.openCount (s : State) : Nat := (LineId.all.map fun l => (s.openRec.get l).isSome.toNat).sum

theorem inFlight_eq (s : State) (l : LineId) : s.inFlight l = (s.drive.get l).grout := by
  unfold State.inFlight Drive.grout
  cases (s.drive.get l).stroke <;> rfl

theorem grout_eq (s : State) : s.grout = s.tankGrout + (LineId.all.map s.lineGrout).sum := by
  have lines : (LineId.all.map s.lineGrout).sum = (LineId.all.map s.inFlight).sum +
      (LineId.all.map fun l => ((s.openRec.get l).map Record.placed).getD 0).sum := by
    simp only [LineId.all, List.map_cons, List.map_nil, List.sum_cons, List.sum_nil, State.lineGrout, inFlight_eq]
    omega
  rw [State.grout, State.tankGrout, lines, Nat.add_assoc]

/-- A sum over the places of a list when the part of one place has changed. -/
theorem sum_map_changed {α : Type} {ls : List α} (hn : ls.Nodup) {a : α} (ha : a ∈ ls) {f g : α → Nat}
    (h : ∀ k, k ≠ a → g k = f k) : (ls.map g).sum + f a = (ls.map f).sum + g a := by
  induction ls with
  | nil => cases ha
  | cons x xs ih =>
    obtain ⟨hx, hxs⟩ := List.nodup_cons.mp hn
    simp only [List.map_cons, List.sum_cons]
    by_cases hxa : x = a
    · subst hxa
      have rest : xs.map g = xs.map f := List.map_congr_left fun k hk => h k fun e => hx (e ▸ hk)
      rw [rest]
      omega
    · have := ih hxs ((List.mem_cons.mp ha).resolve_left (Ne.symm hxa))
      rw [h x hxa]
      omega

theorem LineId.nodup_all : LineId.all.Nodup := by decide
theorem TankId.nodup_all : TankId.all.Nodup := by decide

theorem lineSum_changed {f g : LineId → Nat} (l : LineId) (h : ∀ k, k ≠ l → g k = f k) :
    (LineId.all.map g).sum + f l = (LineId.all.map f).sum + g l :=
  sum_map_changed LineId.nodup_all (LineId.mem_all l) h

theorem tankGrout_changed {s t : State} (k : TankId) (h : ∀ j, j ≠ k → t.tanks.get j = s.tanks.get j) :
    t.tankGrout + (s.tanks.get k).level = s.tankGrout + (t.tanks.get k).level :=
  sum_map_changed (f := fun j => (s.tanks.get j).level) (g := fun j => (t.tanks.get j).level) TankId.nodup_all
    (TankId.mem_all k) fun j hj => congrArg Tank.level (h j hj)

theorem Drive.grout_of_stroke {d e : Drive} (h : e.stroke = d.stroke) : e.grout = d.grout := by
  unfold Drive.grout
  rw [h]

theorem Drive.worksGrout_of_grout {d : Drive} (h : d.grout ≠ 0) : d.worksGrout = true := by
  unfold Drive.grout at h
  unfold Drive.worksGrout
  cases hk : d.stroke with
  | none => simp [hk] at h
  | some k =>
    cases hp : k.purpose.isGrout
    · simp [hk, Stroke.grout, hp] at h
    · simp [hp]


/-! ### What an operation at a line leaves of the account -/

/-- An operation at line `l` that neither opens nor closes a record: the log stays, and so does the grout of the
tanks and the line together. -/
structure Shifts (l : LineId) (u v : State) : Prop where
  only : LineOnly l u v
  log : v.log = u.log
  nextEntry : v.nextEntry = u.nextEntry
  isSome : (v.openRec.get l).isSome = (u.openRec.get l).isSome
  grout : v.tankGrout + v.lineGrout l = u.tankGrout + u.lineGrout l

theorem Shifts.refl (l : LineId) (u : State) : Shifts l u u := ⟨LineOnly.refl l u, rfl, rfl, rfl, rfl⟩

theorem Shifts.trans {l : LineId} {u v w : State} (h : Shifts l u v) (k : Shifts l v w) : Shifts l u w :=
  ⟨h.only.trans k.only, k.log.trans h.log, k.nextEntry.trans h.nextEntry, k.isSome.trans h.isSome,
    k.grout.trans h.grout⟩

theorem SameLine.lineGrout {k : LineId} {u v : State} (h : SameLine k u v) : v.lineGrout k = u.lineGrout k := by
  obtain ⟨_, hd, _, hr, _⟩ := h
  rw [State.lineGrout, State.lineGrout, hd, hr]

theorem Shifts.grout_eq {l : LineId} {u v : State} (h : Shifts l u v) : v.grout = u.grout := by
  have lines := lineSum_changed l fun k hk => (h.only.lines k hk).lineGrout
  have line := h.grout
  rw [Machine.grout_eq, Machine.grout_eq]
  omega

theorem Shifts.openCount {l : LineId} {u v : State} (h : Shifts l u v) : v.openCount = u.openCount := by
  have lines := lineSum_changed (f := fun k => (u.openRec.get k).isSome.toNat)
    (g := fun k => (v.openRec.get k).isSome.toNat) l fun k hk => by
      obtain ⟨_, _, _, hr, _⟩ := h.only.lines k hk
      rw [hr]
  rw [h.isSome] at lines
  exact Nat.add_right_cancel lines

section Shifts

variable {l : LineId} {u : State}

theorem shifts_updSeq (f : Sequencer → Sequencer) : Shifts l u (u.updSeq l f) :=
  ⟨(LineOnly.refl l u).updSeq f, rfl, rfl, rfl, rfl⟩

theorem shifts_updReg (f : Regulator → Regulator) : Shifts l u (u.updReg l f) :=
  ⟨(LineOnly.refl l u).updReg f, rfl, rfl, rfl, rfl⟩

theorem shifts_latchAll (e : Event) : Shifts l u (u.latchAll e) :=
  ⟨(LineOnly.refl l u).latchAll e, rfl, rfl, rfl, rfl⟩

theorem shifts_latchUnless (quiet : Bool) (e : Event) : Shifts l u (u.latchUnless quiet e) := by
  unfold State.latchUnless
  split
  · exact Shifts.refl l u
  · exact shifts_latchAll e

theorem shifts_setDemand (q : List DemandEntry) : Shifts l u (u.setDemand q) :=
  ⟨(LineOnly.refl l u).setDemand q, rfl, rfl, rfl, rfl⟩

theorem shifts_setCurrentTank (k : Option TankId) : Shifts l u (u.setCurrentTank l k) :=
  ⟨(LineOnly.refl l u).setCurrentTank k, rfl, rfl, rfl, rfl⟩

theorem placed_map {f : Record → Record} (hf : ∀ r, (f r).placed = r.placed) (r : Option Record) :
    ((r.map f).map Record.placed).getD 0 = (r.map Record.placed).getD 0 := by
  cases r with
  | none => rfl
  | some r => exact hf r

theorem shifts_updRec {f : Record → Record} (hf : ∀ r, (f r).placed = r.placed) : Shifts l u (u.updRec l f) := by
  refine ⟨(LineOnly.refl l u).updRec f, rfl, rfl, by simp, ?_⟩
  simp only [State.lineGrout, State.updRec_openRec, PerLine.get_upd_self, placed_map hf]
  rfl

theorem shifts_updDrive {f : Drive → Drive} (hf : (f (u.drive.get l)).grout = (u.drive.get l).grout) :
    Shifts l u (u.updDrive l f) := by
  refine ⟨(LineOnly.refl l u).updDrive f, rfl, rfl, rfl, ?_⟩
  simp [State.lineGrout, hf, State.tankGrout]

/-- The grout in flight at a line put to its open record (R34, R37). -/
theorem shifts_place {f : Record → Record} {g : Drive → Drive}
    (hopen : (u.drive.get l).grout ≠ 0 → (u.openRec.get l).isSome = true)
    (hf : ∀ r, (f r).placed = r.placed + (u.drive.get l).grout) (hg : (g (u.drive.get l)).grout = 0) :
    Shifts l u ((u.updRec l f).updDrive l g) := by
  refine ⟨((LineOnly.refl l u).updRec f).updDrive g, rfl, rfl, by simp, ?_⟩
  have placed : (((u.openRec.get l).map f).map Record.placed).getD 0 =
      ((u.openRec.get l).map Record.placed).getD 0 + (u.drive.get l).grout := by
    cases hr : u.openRec.get l with
    | none =>
      have : (u.drive.get l).grout = 0 := by
        by_contra h
        simpa [hr] using hopen h
      simp [this]
    | some r => exact hf r
  simp only [State.lineGrout, State.updDrive_drive, State.updRec_drive, State.updDrive_openRec, State.updRec_openRec,
    PerLine.get_upd_self, hg, placed]
  simp only [State.tankGrout, State.updDrive_tanks, State.updRec_tanks]
  omega

theorem shifts_abandonStroke (hopen : (u.drive.get l).grout ≠ 0 → (u.openRec.get l).isSome = true) :
    Shifts l u (u.abandonStroke l) := by
  unfold State.abandonStroke
  split
  · exact Shifts.refl l u
  · next k hk =>
    have carried : (u.drive.get l).grout = k.grout := by simp [Drive.grout, hk]
    split
    · next hp =>
      refine shifts_place hopen (fun r => ?_) rfl
      rw [carried, Stroke.grout, if_pos hp]
      simp only [Record.placed]
      omega
    · next hp =>
      refine shifts_updDrive ?_
      rw [carried, Stroke.grout, if_neg hp]
      rfl

theorem abandonStroke_stroke (u : State) (l : LineId) : ((u.abandonStroke l).drive.get l).stroke = none := by
  unfold State.abandonStroke
  split
  · assumption
  · simp

theorem shifts_stopDrive (hopen : (u.drive.get l).grout ≠ 0 → (u.openRec.get l).isSome = true) :
    Shifts l u (u.stopDrive l) := by
  refine (shifts_abandonStroke hopen).trans (shifts_updDrive ?_)
  simp [Drive.grout, abandonStroke_stroke, Drive.powerOn]

theorem shifts_leaveDemand (quiet : Bool) : Shifts l u (u.leaveDemand l quiet) := by
  unfold State.leaveDemand
  dsimp only
  split
  · exact ((shifts_setCurrentTank none).trans (shifts_setDemand _)).trans (shifts_latchUnless quiet _)
  · exact shifts_setCurrentTank none

theorem shifts_addHeld : Shifts l u (u.addHeld l) := by
  unfold State.addHeld
  split
  · exact Shifts.refl l u
  · exact (shifts_updRec fun _ => by rfl).trans (shifts_updSeq _)

theorem shifts_dropSlot (quiet : Bool) : Shifts l u (u.dropSlot l quiet) := by
  unfold State.dropSlot
  split
  · exact Shifts.refl l u
  · exact (shifts_updSeq _).trans (shifts_latchUnless quiet _)

theorem shifts_endTimers : Shifts l u (u.endTimers l) := by
  unfold State.endTimers
  dsimp only
  split
  · exact (shifts_addHeld.trans (shifts_updSeq _)).trans (shifts_updReg _)
  · exact (shifts_updSeq _).trans (shifts_updReg _)

theorem shifts_clearCauses (quiet : Bool) : Shifts l u (u.clearCauses l quiet) :=
  (shifts_updSeq _).trans (shifts_dropSlot quiet)

/-- Steps 1 to 5 of R24: all of a stage's end but the closing of its record. -/
theorem shifts_beforeClose (hopen : (u.drive.get l).grout ≠ 0 → (u.openRec.get l).isSome = true) (quiet : Bool) :
    Shifts l u ((((u.stopDrive l).leaveDemand l quiet).endTimers l).clearCauses l quiet) :=
  (((shifts_stopDrive hopen).trans (shifts_leaveDemand quiet)).trans shifts_endTimers).trans (shifts_clearCauses quiet)

end Shifts

/-! ### The records closed (R143) -/

/-- What a run of operations has added to the log since `s`, with the grout the new records took with them; there is
room for `spare` records more among the six a command may close. -/
structure Ledger (spare : Nat) (s u : State) : Prop where
  account : ∃ news, Gained s u news ∧ u.grout + (news.map Record.placed).sum = s.grout ∧
    news.length + u.openCount + spare ≤ 6
  size : u.log.length ≤ 32

theorem newest32_of_length_le {log : List Record} (h : log.length ≤ 32) : newest32 log = log := by
  rw [newest32, Nat.sub_eq_zero_of_le h, List.drop_zero]

theorem length_newest32_le (log : List Record) : (newest32 log).length ≤ 32 := by
  rw [newest32, List.length_drop]
  omega

theorem newest32_newest32_append (a b : List Record) : newest32 (newest32 a ++ b) = newest32 (a ++ b) := by
  unfold newest32
  rw [← List.drop_append_of_le_length (Nat.sub_le _ _), List.drop_drop]
  congr 1
  simp only [List.length_drop, List.length_append]
  omega

theorem openCount_le (s : State) : s.openCount ≤ 6 := by
  have one (l : LineId) : (s.openRec.get l).isSome.toNat ≤ 1 := Bool.toNat_le _
  have := one .l1; have := one .l2; have := one .l3; have := one .l4; have := one .l5; have := one .l6
  simp only [State.openCount, LineId.all, List.map_cons, List.map_nil, List.sum_cons, List.sum_nil]
  omega

/-- A line without a record leaves room for one. -/
theorem openCount_lt {s : State} {l : LineId} (h : s.openRec.get l = none) : s.openCount + 1 ≤ 6 := by
  have opened := lineSum_changed (f := fun k => (s.openRec.get k).isSome.toNat)
    (g := fun k => if k = l then 1 else (s.openRec.get k).isSome.toNat) l fun k hk => if_neg hk
  have one (k : LineId) : (if k = l then 1 else (s.openRec.get k).isSome.toNat) ≤ 1 := by
    split
    · exact Nat.le_refl 1
    · exact Bool.toNat_le _
  have := one .l1; have := one .l2; have := one .l3; have := one .l4; have := one .l5; have := one .l6
  simp only [h, State.openCount, LineId.all, List.map_cons, List.map_nil, List.sum_cons, List.sum_nil,
    Option.isSome_none, Bool.toNat_false, if_true] at opened ⊢
  omega

theorem Ledger.start {s : State} {spare : Nat} (hs : s.log.length ≤ 32) (hc : s.openCount + spare ≤ 6) :
    Ledger spare s s := by
  have gained : Gained s s [] :=
    ⟨Nat.zero_le _, by rw [List.append_nil, newest32_of_length_le hs], rfl, by simp, by simp⟩
  exact ⟨⟨[], gained, by simp, by simpa using hc⟩, hs⟩

theorem Ledger.mono {s u : State} {n m : Nat} (h : Ledger n s u) (hm : m ≤ n) : Ledger m s u := by
  obtain ⟨⟨news, hg, hp, hc⟩, hs⟩ := h
  exact ⟨⟨news, hg, hp, by omega⟩, hs⟩

/-- A change that keeps the log and the number of open records, and the grout as a whole. -/
theorem Ledger.of_eq {s u v : State} {n : Nat} (h : Ledger n s u) (hl : v.log = u.log)
    (hn : v.nextEntry = u.nextEntry) (hg : v.grout = u.grout) (hc : v.openCount = u.openCount) : Ledger n s v := by
  obtain ⟨⟨news, ⟨hlen, hlog, hnext, hent, hend⟩, hp, hcount⟩, hs⟩ := h
  exact ⟨⟨news, ⟨hlen, hl.trans hlog, hn.trans hnext, hent, hend⟩, hg ▸ hp, hc ▸ hcount⟩, hl ▸ hs⟩

theorem Ledger.shifts {s u v : State} {n : Nat} {l : LineId} (h : Ledger n s u) (hs : Shifts l u v) : Ledger n s v :=
  h.of_eq hs.log hs.nextEntry hs.grout_eq hs.openCount

theorem makeRoom_log {u : State} (h : u.log.length ≤ 32) (appended : Nat) (quiet : Bool) (r : Record) :
    (u.makeRoom appended quiet).log ++ [r] = newest32 (u.log ++ [r]) := by
  unfold State.makeRoom
  split
  · next hlt =>
    have : (u.log ++ [r]).length ≤ 32 := by
      rw [List.length_append]
      exact hlt
    rw [newest32_of_length_le this]
  · next hge =>
    have full : u.log.length = 32 := Nat.le_antisymm h (Nat.not_lt.mp hge)
    split
    · next hnil => simp [hnil] at full
    · next old rest hcons =>
      rw [hcons] at full
      have : (old :: rest ++ [r]).length - 32 = 1 := by
        rw [List.length_append, full]
        rfl
      rw [hcons, newest32, this]
      rfl

theorem makeRoom_tanks (u : State) (appended : Nat) (quiet : Bool) : (u.makeRoom appended quiet).tanks = u.tanks := by
  unfold State.makeRoom
  split
  · rfl
  · split <;> rfl

/-- What closing an open record does to the log and the supply (R143). -/
theorem closeRecord_some {u : State} {l : LineId} {r : Record} (hr : u.openRec.get l = some r)
    (h : u.log.length ≤ 32) (fin : FinalValues) (reason : EndReason) (origin : Option Port) (quiet : Bool) :
    (u.closeRecord l fin reason origin quiet).log = newest32 (u.log ++ [u.closedRecord r fin reason origin]) ∧
    (u.closeRecord l fin reason origin quiet).nextEntry = nextNumber u.nextEntry ∧
    (u.closeRecord l fin reason origin quiet).openRec.get l = none ∧
    (u.closeRecord l fin reason origin quiet).tanks = u.tanks := by
  unfold State.closeRecord
  rw [hr]
  simp [makeRoom_log h, makeRoom_tanks]

theorem closeRecord_none {u : State} {l : LineId} (hr : u.openRec.get l = none) (fin : FinalValues)
    (reason : EndReason) (origin : Option Port) (quiet : Bool) : u.closeRecord l fin reason origin quiet = u := by
  unfold State.closeRecord
  rw [hr]

/-- A record closed joins the new records, under the next entry number, with its grout. -/
theorem Ledger.closeRecord {s u : State} {n : Nat} (h : Ledger n s u) (l : LineId) (fin : FinalValues)
    (reason : EndReason) (origin : Option Port) (quiet : Bool) :
    Ledger n s (u.closeRecord l fin reason origin quiet) := by
  cases hr : u.openRec.get l with
  | none =>
    rw [closeRecord_none hr]
    exact h
  | some r =>
    have only := (LineOnly.refl l u).closeRecord fin reason origin quiet
    obtain ⟨hlog', hnext', hrec', htanks'⟩ := closeRecord_some hr h.size fin reason origin quiet
    have drive := congrArg (PerLine.get · l) (closeRecord_drive u l fin reason origin quiet)
    generalize u.closeRecord l fin reason origin quiet = v at *
    obtain ⟨⟨news, ⟨hlen, hlog, hnext, hent, hend⟩, hp, hcount⟩, hs⟩ := h
    have grout : v.grout + r.placed = u.grout := by
      have lines := lineSum_changed l fun k hk => (only.lines k hk).lineGrout
      have before : u.lineGrout l = (u.drive.get l).grout + r.placed := by simp [State.lineGrout, hr]
      have after : v.lineGrout l = (u.drive.get l).grout := by simp [State.lineGrout, hrec', drive]
      rw [grout_eq, grout_eq, State.tankGrout, State.tankGrout, htanks']
      omega
    have count : v.openCount + 1 = u.openCount := by
      have lines := lineSum_changed (f := fun k => (u.openRec.get k).isSome.toNat)
        (g := fun k => (v.openRec.get k).isSome.toNat) l fun k hk => by
          obtain ⟨_, _, _, hk, _⟩ := only.lines k hk
          rw [hk]
      rw [hr, hrec'] at lines
      exact lines
    refine ⟨⟨news ++ [u.closedRecord r fin reason origin], ⟨?_, ?_, ?_, ?_, ?_⟩, ?_, ?_⟩, ?_⟩
    · rw [List.length_append, List.length_singleton]
      omega
    · rw [hlog', hlog, newest32_newest32_append, List.append_assoc]
    · rw [hnext', hnext, List.length_append, List.length_singleton, Function.iterate_succ_apply']
    · rw [List.map_append, hent, List.length_append, List.length_singleton, List.range_succ, List.map_append]
      simp [State.closedRecord, Record.timeWritten, hnext]
    · intro x hx
      obtain hx | hx := List.mem_append.mp hx
      · exact hend x hx
      · rw [List.mem_singleton.mp hx]
        rfl
    · have placed : (u.closedRecord r fin reason origin).placed = r.placed := rfl
      rw [List.map_append, List.sum_append, List.map_singleton, List.sum_singleton, placed]
      omega
    · rw [List.length_append, List.length_singleton]
      omega
    · rw [hlog']
      exact length_newest32_le _

/-- The end of a stage keeps the ledger (R24, R37). -/
theorem Ledger.endStage {s u : State} {n : Nat} {l : LineId} (h : Ledger n s u)
    (hopen : (u.drive.get l).grout ≠ 0 → (u.openRec.get l).isSome = true) (reason : EndReason)
    (origin : Option Port) (quiet : Bool) : Ledger n s (u.endStage l reason origin quiet) :=
  (h.shifts (shifts_beforeClose hopen quiet)).closeRecord l _ reason origin quiet

end Sys2Proof.Machine


/-! SUPPORT. The books of a run of operations, `Books`: the ledger, with every line sound. Primitive changes, ends of
stages, and stroke starts. -/

namespace Sys2Proof.Machine

/-! ### Records behind the work (R3, R32, R36) -/

/-- A line has an open record in the states that have a stage, and works grout in no other. -/
structure State.Sound (s : State) (l : LineId) : Prop where
  record : (s.openRec.get l).isSome = (s.lineState l).hasStage
  work : (s.drive.get l).worksGrout = true → (s.lineState l).hasStage = true

theorem strokeFits_grout {q : Sequencer} {d : Drive} {k : Stroke} (h : strokeFits q d k = true)
    (hp : k.purpose.isGrout = true) : q.state.hasStage = true := by
  unfold strokeFits at h
  cases hk : k.purpose with
  | test | circulate | flush =>
    rw [hk] at hp
    cases hp
  | charge | inject =>
    rw [hk] at h
    cases hq : q.state <;> simp_all [LineState.hasStage]

theorem purposeFits_grout {q : Sequencer} {p : Purpose} (h : purposeFits q p = true) (hp : p.isGrout = true) :
    q.state.hasStage = true := by
  cases p with
  | none | test | flush => cases hp
  | charge | inject => cases hq : q.state <;> simp_all [purposeFits, LineState.hasStage]

theorem State.LineInv.sound {s : State} {l : LineId} (h : s.LineInv l) : s.Sound l := by
  refine ⟨h.record, fun hw => ?_⟩
  obtain hp | hk := Bool.or_eq_true_iff.mp hw
  · exact purposeFits_grout h.purpose hp
  · cases hs : (s.drive.get l).stroke with
    | none => simp [hs] at hk
    | some k =>
      rw [hs] at hk
      exact strokeFits_grout (h.stroke k hs) hk

/-- A line that carries grout has a record to put it to. -/
theorem State.Sound.record_of_grout {s : State} {l : LineId} (h : s.Sound l) (hg : (s.drive.get l).grout ≠ 0) :
    (s.openRec.get l).isSome = true :=
  h.record.trans (h.work (Drive.worksGrout_of_grout hg))

/-! ### Books: the ledger with every line sound -/

/-- The books kept since `s`: the ledger, and every line sound, so that each operation puts its grout to a record. -/
structure Books (spare : Nat) (s u : State) : Prop where
  ledger : Ledger spare s u
  sound : ∀ l, u.Sound l

theorem Books.mono {s u : State} {n m : Nat} (h : Books n s u) (hm : m ≤ n) : Books m s u :=
  ⟨h.ledger.mono hm, h.sound⟩

section Books

variable {n : Nat} {s u : State} {l : LineId}

/-! #### Primitive changes -/

theorem Books.shifts {v : State} (h : Books n s u) (hs : Shifts l u v)
    (hst : (v.lineState l).hasStage = (u.lineState l).hasStage)
    (hw : (v.drive.get l).worksGrout = true → (u.drive.get l).worksGrout = true ∨ (u.lineState l).hasStage = true) :
    Books n s v := by
  refine ⟨h.ledger.shifts hs, fun k => ?_⟩
  by_cases hk : k = l
  · subst hk
    refine ⟨by rw [hs.isSome, hst, (h.sound k).record], fun hv => ?_⟩
    rw [hst]
    exact (hw hv).elim (h.sound k).work id
  · obtain ⟨hq, hd, _, hr, _⟩ := hs.only.lines k hk
    have state : v.lineState k = u.lineState k := congrArg Sequencer.state hq
    exact ⟨by rw [hr, state, (h.sound k).record], by rw [hd, state]; exact (h.sound k).work⟩

theorem updSeq_lineState (u : State) (l : LineId) (f : Sequencer → Sequencer) :
    (u.updSeq l f).lineState l = (f (u.seq.get l)).state := by
  simp [State.lineState]

theorem Books.updSeq (h : Books n s u) {f : Sequencer → Sequencer}
    (hf : (f (u.seq.get l)).state.hasStage = (u.lineState l).hasStage) : Books n s (u.updSeq l f) :=
  h.shifts (shifts_updSeq f) (by simpa [State.lineState] using hf) .inl

/-- A line moved from a state with a stage to another. -/
theorem Books.moveInStage (h : Books n s u) (hs : (u.lineState l).hasStage = true) {f : Sequencer → Sequencer}
    (hf : ∀ q, (f q).state.hasStage = true) : Books n s (u.updSeq l f) :=
  h.updSeq (by rw [hf, hs])

theorem Books.updReg (h : Books n s u) (f : Regulator → Regulator) : Books n s (u.updReg l f) :=
  h.shifts (shifts_updReg f) rfl .inl

theorem Books.latchAll (h : Books n s u) (e : Event) : Books n s (u.latchAll e) :=
  h.shifts (l := .l1) (shifts_latchAll e) rfl .inl

theorem Books.setDemand (h : Books n s u) (q : List DemandEntry) : Books n s (u.setDemand q) :=
  h.shifts (l := .l1) (shifts_setDemand q) rfl .inl

theorem Books.updRec (h : Books n s u) {f : Record → Record} (hf : ∀ r, (f r).placed = r.placed) :
    Books n s (u.updRec l f) :=
  h.shifts (shifts_updRec hf) rfl .inl

/-- A drive changed, its stroke and its purpose kept. -/
theorem Books.updDrive (h : Books n s u) {f : Drive → Drive} (hs : ∀ d, (f d).stroke = d.stroke)
    (hp : ∀ d, (f d).purpose = d.purpose) : Books n s (u.updDrive l f) := by
  refine h.shifts (shifts_updDrive (Drive.grout_of_stroke (hs _))) rfl fun hw => .inl ?_
  simpa [Drive.worksGrout, hs, hp] using hw

/-- What a stroke carries and what for. -/
def Stroke.load (k : Stroke) : StrokePurpose × Nat := (k.purpose, k.volume)

/-- A stroke paused, or restarted: it carries what it carried. -/
theorem Books.updStroke (h : Books n s u) {g : Drive → Drive} (hp : ∀ d, (g d).purpose = d.purpose)
    (hk : ∀ d, (g d).stroke.map Stroke.load = d.stroke.map Stroke.load) : Books n s (u.updDrive l g) := by
  have grout (d : Drive) : d.grout =
      ((d.stroke.map Stroke.load).map fun x => if x.1.isGrout then x.2 else 0).getD 0 := by
    rw [Option.map_map]
    rfl
  have works (d : Drive) : d.worksGrout = (d.purpose.isGrout || (d.stroke.map Stroke.load).any (·.1.isGrout)) := by
    rw [Option.any_map]
    rfl
  refine h.shifts (shifts_updDrive (by rw [grout, hk, ← grout])) rfl fun hw => .inl ?_
  rwa [State.updDrive_drive, PerLine.get_upd_self, works, hk, hp, ← works] at hw

theorem Books.writeZero (h : Books n s u) : Books n s (u.updDrive l Drive.writeZero) := by
  refine h.updStroke (fun d => ?_) fun d => ?_
  · unfold Drive.writeZero
    split <;> rfl
  · unfold Drive.writeZero
    split
    · rfl
    · rw [Option.map_map]
      rfl

theorem dropSlot_lineState (u : State) (l : LineId) (quiet : Bool) :
    (u.dropSlot l quiet).lineState l = u.lineState l := by
  unfold State.dropSlot State.lineState
  split <;> simp

theorem Books.dropSlot (h : Books n s u) (quiet : Bool) : Books n s (u.dropSlot l quiet) :=
  h.shifts (shifts_dropSlot quiet) (by rw [dropSlot_lineState]) fun hw => .inl (by rwa [dropSlot_drive] at hw)

theorem addHeld_lineState (u : State) (l : LineId) : (u.addHeld l).lineState l = u.lineState l := by
  unfold State.addHeld State.lineState
  split <;> simp

theorem Books.addHeld (h : Books n s u) : Books n s (u.addHeld l) :=
  h.shifts shifts_addHeld (by rw [addHeld_lineState]) fun hw => .inl (by rwa [addHeld_drive] at hw)

/-! #### Strokes given up and stages ended (R24, R26, R37) -/

theorem abandonStroke_seq (u : State) (l : LineId) : (u.abandonStroke l).seq = u.seq := by
  unfold State.abandonStroke
  split
  · rfl
  · split <;> rfl

theorem abandonStroke_purpose (u : State) (l : LineId) :
    ((u.abandonStroke l).drive.get l).purpose = (u.drive.get l).purpose := by
  unfold State.abandonStroke
  split
  · rfl
  · split <;> simp

theorem stopDrive_lineState (u : State) (l : LineId) : (u.stopDrive l).lineState l = u.lineState l := by
  simp [State.stopDrive, State.lineState, abandonStroke_seq]

theorem Books.abandonStroke (h : Books n s u) : Books n s (u.abandonStroke l) := by
  refine h.shifts (shifts_abandonStroke (h.sound l).record_of_grout) (by simp [State.lineState, abandonStroke_seq])
    fun hw => .inl ?_
  rw [Drive.worksGrout, abandonStroke_stroke, abandonStroke_purpose] at hw
  rw [Drive.worksGrout, (Bool.or_eq_true_iff.mp hw).resolve_right nofun, Bool.true_or]

theorem Books.stopDrive (h : Books n s u) : Books n s (u.stopDrive l) := by
  refine h.shifts (shifts_stopDrive (h.sound l).record_of_grout) (by rw [stopDrive_lineState]) fun hw => ?_
  rw [stopDrive_drive] at hw
  cases hw

theorem closeRecord_openRec (u : State) (l : LineId) (fin : FinalValues) (reason : EndReason) (origin : Option Port)
    (quiet : Bool) : (u.closeRecord l fin reason origin quiet).openRec.get l = none := by
  unfold State.closeRecord
  split
  · assumption
  · simp

/-- The end of a stage, with the move of its line to a state without one (R24, R26). -/
theorem Books.endStage (h : Books n s u) (reason : EndReason) (origin : Option Port) (quiet : Bool)
    {f : Sequencer → Sequencer} (hf : ∀ q, (f q).state.hasStage = false) :
    Books n s ((u.endStage l reason origin quiet).updSeq l f) := by
  have ended := h.ledger.endStage (h.sound l).record_of_grout reason origin quiet
  have only := (LineOnly.refl l u).endStage reason origin quiet
  refine ⟨ended.shifts (shifts_updSeq f), fun k => ?_⟩
  by_cases hk : k = l
  · subst hk
    have closed : ((u.endStage k reason origin quiet).openRec.get k) = none := by
      rw [State.endStage, closeRecord_openRec]
    refine ⟨?_, ?_⟩
    · rw [State.updSeq_openRec, closed, State.lineState, State.updSeq_seq, PerLine.get_upd_self, hf]
      rfl
    · rw [State.updSeq_drive, endStage_drive]
      exact nofun
  · obtain ⟨hq, hd, _, hr, _⟩ := (only.updSeq f).lines k hk
    have state : ((u.endStage l reason origin quiet).updSeq l f).lineState k = u.lineState k :=
      congrArg Sequencer.state hq
    exact ⟨by rw [hr, state, (h.sound k).record], by rw [hd, state]; exact (h.sound k).work⟩

theorem Books.lineFault (h : Books n s u) (cause : FaultCause) : Books n s (u.lineFault l cause) := by
  have faulted {v : State} (hv : Books n s v) (hs : (v.lineState l).hasStage = false) :
      Books n s (v.enterFault l cause) :=
    Books.latchAll (hv.updSeq (by rw [hs]; rfl)) _
  unfold State.lineFault
  split
  iterate 6 exact (h.endStage _ _ _ fun _ => rfl).latchAll _
  · next hf =>
    have stopped : (u.stopDrive l).lineState l = .flushing := (stopDrive_lineState u l).trans hf
    have cleared : Books n s ((u.stopDrive l).updSeq l fun q => { q with flushCount := 0, nf := 0 }) :=
      h.stopDrive.updSeq rfl
    refine faulted (cleared.dropSlot _) ?_
    rw [dropSlot_lineState, updSeq_lineState]
    change ((u.stopDrive l).lineState l).hasStage = false
    rw [stopped]
    rfl
  · next hi =>
    have stopped : (u.stopDrive l).lineState l = .idle := (stopDrive_lineState u l).trans hi
    refine faulted (h.stopDrive.updSeq rfl) ?_
    rw [updSeq_lineState]
    change ((u.stopDrive l).lineState l).hasStage = false
    rw [stopped]
    rfl
  · exact h.updSeq rfl
  · exact h

/-! #### Strokes started, and the tanks that pay for them (R33, R101, R102) -/

/-- A stroke of no grout starts on a drive that has none in flight. -/
theorem Books.startWater (h : Books n s u) (hn : (u.drive.get l).stroke = none) {g : Drive → Drive}
    (hp : (g (u.drive.get l)).purpose = (u.drive.get l).purpose) {k : Stroke}
    (hk : (g (u.drive.get l)).stroke = some k) (hw : k.purpose.isGrout = false) : Books n s (u.updDrive l g) := by
  refine h.shifts (shifts_updDrive ?_) rfl fun hv => .inl ?_
  · simp [Drive.grout, hn, hk, Stroke.grout, hw]
  · simpa [Drive.worksGrout, hk, hw, hp, hn] using hv

theorem Books.runWater (h : Books n s u) (hn : (u.drive.get l).stroke = none) {purpose : StrokePurpose}
    (hw : purpose.isGrout = false) (source : Source) : Books n s (u.runStroke l purpose source) := by
  refine Books.updSeq (h.startWater hn rfl rfl hw) rfl

theorem older_mem {ls : List TankId} {a : Option TankId} {t : TankId} (h : ls.foldl u.older a = some t) :
    t ∈ ls ∨ a = some t := by
  induction ls generalizing a with
  | nil => exact .inr h
  | cons b ls ih =>
    obtain hm | hb := ih h
    · exact .inl (List.mem_cons_of_mem b hm)
    · unfold State.older at hb
      split at hb
      · exact .inl (by cases hb; exact List.mem_cons_self)
      · split at hb
        · exact .inl (by cases hb; exact List.mem_cons_self)
        · exact .inr hb

/-- A tank selected qualifies (R101). -/
theorem selectTank_qualifies {mix e : Nat} {t : TankId} (h : u.selectTank l mix e = some t) :
    (u.tanks.get t).qualifies mix e = true := by
  have oldest (ho : u.oldestTank mix e = some t) : (u.tanks.get t).qualifies mix e = true :=
    (List.mem_filter.mp ((older_mem ho).resolve_right nofun)).2
  unfold State.selectTank at h
  split at h
  · split at h
    · next hq =>
      cases h
      exact hq
    · exact oldest h
  · exact oldest h

theorem debit_level (t : Tank) (e : Nat) : (t.debit e).level = t.level - e := by
  unfold Tank.debit
  split
  · next h => exact h.symm
  · rfl

/-- A grout stroke starts, and the tank selected pays what it carries (R101, R102). -/
theorem shifts_runGrout (hn : (u.drive.get l).stroke = none) {purpose : StrokePurpose} (hp : purpose.isGrout = true)
    {t : TankId} (hle : u.strokeVolume l ≤ (u.tanks.get t).level) :
    Shifts l u ((u.payFrom l t (u.strokeVolume l)).runGrout l purpose t) := by
  have only := ((LineOnly.refl l u).payFrom t (u.strokeVolume l)).runGrout purpose t
  have paid := tankGrout_changed (s := u) (t := u.payFrom l t (u.strokeVolume l)) t fun j hj =>
    PerTank.get_upd_of_ne _ hj _
  have level : ((u.payFrom l t (u.strokeVolume l)).tanks.get t).level = (u.tanks.get t).level - u.strokeVolume l := by
    simp [State.payFrom, debit_level]
  have before : (u.drive.get l).grout = 0 := by simp [Drive.grout, hn]
  have after : (((u.payFrom l t (u.strokeVolume l)).runGrout l purpose t).drive.get l).grout = u.strokeVolume l := by
    simp [State.runGrout, State.runStroke, Drive.grout, Stroke.grout, hp]
    rfl
  refine ⟨only, rfl, rfl, rfl, ?_⟩
  rw [State.lineGrout, State.lineGrout, after, before]
  change (u.payFrom l t (u.strokeVolume l)).tankGrout + (_ + ((u.openRec.get l).map Record.placed).getD 0) = _
  omega

theorem Books.runGrout (h : Books n s u) (hn : (u.drive.get l).stroke = none)
    (hs : (u.lineState l).hasStage = true) {purpose : StrokePurpose} (hp : purpose.isGrout = true) {t : TankId}
    (hle : u.strokeVolume l ≤ (u.tanks.get t).level) :
    Books n s ((u.payFrom l t (u.strokeVolume l)).runGrout l purpose t) := by
  refine h.shifts (shifts_runGrout hn hp hle) ?_ fun _ => .inr hs
  simp [State.runGrout, State.runStroke, State.lineState, State.payFrom]

theorem Books.enterHeld (h : Books n s u) (hs : (u.lineState l).hasStage = true) (r : Resume) :
    Books n s (u.enterHeld l r) :=
  Books.updReg (Books.updDrive (h.moveInStage hs fun _ => rfl) (fun _ => by rfl) fun _ => by rfl) _

theorem asResume_hasStage {q : LineState} {r : Resume} (h : q.asResume = some r) : q.hasStage = true := by
  cases q with
  | charging | injecting => rfl
  | _ => cases h

theorem Books.supplyWait (h : Books n s u) (mix : Nat) : Books n s (u.supplyWait l mix) := by
  have queued : Books n s (((u.setDemand (joinDemand u.demand mix l u.stamp)).latchAll .supplyWait).updDrive l
      fun d => { d with rate := 0, pendingRate := 0 }) :=
    ((h.setDemand _).latchAll _).updDrive (fun _ => rfl) fun _ => rfl
  unfold State.supplyWait
  dsimp only
  split
  · exact queued
  · next r hr =>
    have held : Books n s _ := queued.enterHeld (l := l) (asResume_hasStage hr) r
    exact (held.updSeq rfl).updRec fun _ => rfl

theorem shifts_supplyWait (mix : Nat) : Shifts l u (u.supplyWait l mix) := by
  have queued : Shifts l u (((u.setDemand (joinDemand u.demand mix l u.stamp)).latchAll .supplyWait).updDrive l
      fun d => { d with rate := 0, pendingRate := 0 }) :=
    ((shifts_setDemand _).trans (shifts_latchAll _)).trans (shifts_updDrive rfl)
  unfold State.supplyWait
  dsimp only
  split
  · exact queued
  · exact ((((queued.trans (shifts_updSeq _)).trans (shifts_updDrive (by rfl))).trans (shifts_updReg _)).trans
      (shifts_updSeq _)).trans (shifts_updRec fun _ => by rfl)

theorem selectTank_level {mix e : Nat} {t : TankId} (h : u.selectTank l mix e = some t) :
    e ≤ (u.tanks.get t).level := by
  have hq := selectTank_qualifies h
  rw [Tank.qualifies, Bool.and_eq_true, decide_eq_true_iff] at hq
  exact hq.2

/-- A grout stroke start, paid by the tank selected or answered with supply wait, moves grout but makes none. -/
theorem shifts_startGrout (hn : (u.drive.get l).stroke = none) {purpose : StrokePurpose}
    (hp : purpose.isGrout = true) : Shifts l u (u.startGrout l purpose none) := by
  unfold State.startGrout
  dsimp only
  split
  · exact Shifts.refl l u
  · split
    · next ht => exact shifts_runGrout hn hp (selectTank_level ht)
    · exact shifts_supplyWait _

/-- A stroke start without a tank given in advance. -/
theorem Books.startStroke (h : Books n s u) (hn : (u.drive.get l).stroke = none) :
    Books n s (u.startStroke l none) := by
  have grout {purpose : StrokePurpose} (hp : purpose.isGrout = true) (hw : (u.drive.get l).purpose.isGrout = true) :
      Books n s (u.startGrout l purpose none) := by
    have hs : (u.lineState l).hasStage = true := (h.sound l).work (by rw [Drive.worksGrout, hw, Bool.true_or])
    unfold State.startGrout
    dsimp only
    split
    · exact h
    · split
      · next ht => exact h.runGrout hn hs hp (selectTank_level ht)
      · exact h.supplyWait _
  unfold State.startStroke
  split
  · exact h
  · exact h.runWater hn rfl _
  · exact h.runWater hn rfl _
  · next hp => exact grout rfl (by rw [hp]; rfl)
  · next hp => exact grout rfl (by rw [hp]; rfl)

theorem Books.strokeFailure (h : Books n s u) : Books n s (u.strokeFailure l) :=
  Books.lineFault (h.abandonStroke.updDrive (fun _ => by rfl) fun _ => by rfl) _

theorem Books.restartStroke (h : Books n s u) : Books n s (u.restartStroke l) := by
  have restarted : Books n s (u.updDrive l (·.restarted (u.lineTable.get l).tmin)) :=
    h.updStroke (fun _ => rfl) fun _ => Option.map_map ..
  unfold State.restartStroke
  dsimp only
  split
  · exact restarted.strokeFailure
  · exact restarted

/-- A write of the rate step, whatever it starts, pauses or restarts (R31, R36). -/
theorem Books.writeRate (h : Books n s u) (r : Nat) : Books n s (u.writeRate l r none) := by
  have stored : Books n s (u.updDrive l fun d => { d with pendingRate := r }) :=
    h.updDrive (fun _ => rfl) fun _ => rfl
  unfold State.writeRate
  dsimp only
  split
  · exact stored
  · split
    · exact h.writeZero
    · split
      · exact stored
      · split
        · exact stored.restartStroke
        · next hk => exact stored.startStroke (by simpa using hk)

theorem Books.setPurpose (h : Books n s u) {purpose : Purpose}
    (hp : purpose.isGrout = true → (u.lineState l).hasStage = true) (r : Nat) :
    Books n s (u.setPurpose l purpose r) := by
  refine Books.writeRate (h.shifts (shifts_updDrive rfl) rfl fun hw => ?_) r
  rw [State.updDrive_drive, PerLine.get_upd_self, Drive.worksGrout, Bool.or_eq_true_iff] at hw
  refine hw.symm.imp (fun hk => ?_) hp
  rw [Drive.worksGrout, hk, Bool.or_true]

end Books

end Sys2Proof.Machine


/-! SUPPORT. The books through the sequencer and the coverage of lines. -/

namespace Sys2Proof.Machine

section Books

variable {n : Nat} {s u : State} {l : LineId}

/-! #### The sequencer (R9 to R25) -/

theorem Books.stageEnd (h : Books n s u) (reason : EndReason) (origin : Option Port) :
    Books n s (u.stageEnd l reason origin) := by
  have flushing : Books n s ((u.endStage l reason origin false).enterFlushing l) :=
    Books.setPurpose (h.endStage reason origin false fun _ => rfl) (by nofun) _
  unfold State.stageEnd
  split
  iterate 4 exact flushing
  iterate 2 exact h.endStage reason origin false fun _ => rfl
  iterate 4 exact h

theorem Books.leaveHeld (h : Books n s u) (hs : (u.lineState l).hasStage = true) :
    Books n s (u.leaveHeld l none) := by
  unfold State.leaveHeld
  split
  · exact h
  · next r _ =>
    have resumed : Books n s ((u.addHeld l).updSeq l (·.resumed r)) :=
      h.addHeld.moveInStage (by rw [addHeld_lineState, hs]) fun _ => by cases r <;> rfl
    exact Books.writeRate (Books.updReg (resumed.updDrive (fun _ => by rfl) fun _ => by rfl) _) _

theorem Books.causeRemoved (h : Books n s u) (hs : (u.lineState l).hasStage = true) :
    Books n s (u.causeRemoved l none) := by
  unfold State.causeRemoved
  split
  · exact h
  · split
    · exact h.updSeq rfl
    · exact h.leaveHeld hs

/-- A record opened on a line that has none, with the move of its line to a state with a stage. -/
theorem Books.openRecord (h : Books (n + 1) s u) (hs : (u.lineState l).hasStage = false) (q : SeatParams)
    (pmax : Nat) (clamped : Bool) {f : Sequencer → Sequencer} (hf : ∀ q, (f q).state.hasStage = true) :
    Books n s ((u.openRecord l q pmax clamped).updSeq l f) := by
  have closed : u.openRec.get l = none := by
    rw [← Option.not_isSome_iff_eq_none, (h.sound l).record, hs]
    nofun
  have only := ((LineOnly.refl l u).openRecord q pmax clamped).updSeq f
  have opened : ((u.openRecord l q pmax clamped).updSeq l f).openRec.get l =
      some (u.newRecord l q pmax clamped) :=
    PerLine.get_set_self ..
  have stage : (((u.openRecord l q pmax clamped).updSeq l f).lineState l).hasStage = true := by
    rw [updSeq_lineState, hf]
  have lines := lineSum_changed l fun k hk => (only.lines k hk).lineGrout
  have counts := lineSum_changed (f := fun k => (u.openRec.get k).isSome.toNat)
    (g := fun k => (((u.openRecord l q pmax clamped).updSeq l f).openRec.get k).isSome.toNat) l fun k hk => by
      obtain ⟨_, _, _, hr, _⟩ := only.lines k hk
      rw [hr]
  have line : ((u.openRecord l q pmax clamped).updSeq l f).lineGrout l = u.lineGrout l := by
    rw [State.lineGrout, State.lineGrout, opened, closed]
    rfl
  have grout : ((u.openRecord l q pmax clamped).updSeq l f).grout = u.grout := by
    rw [grout_eq, grout_eq]
    change u.tankGrout + _ = _
    omega
  have count : ((u.openRecord l q pmax clamped).updSeq l f).openCount = u.openCount + 1 := by
    simp only [opened, closed, Option.isSome_some, Option.isSome_none, Bool.toNat_true, Bool.toNat_false] at counts
    exact counts
  obtain ⟨⟨⟨news, hg, hp, hc⟩, hsize⟩, sound⟩ := h
  refine ⟨⟨⟨news, hg, grout ▸ hp, by omega⟩, hsize⟩, fun k => ?_⟩
  by_cases hk : k = l
  · subst hk
    exact ⟨by rw [opened, stage]; rfl, fun _ => stage⟩
  · obtain ⟨hq, hd, _, hr, _⟩ := only.lines k hk
    have state : ((u.openRecord l q pmax clamped).updSeq l f).lineState k = u.lineState k :=
      congrArg Sequencer.state hq
    exact ⟨by rw [hr, state, (sound k).record], by rw [hd, state]; exact (sound k).work⟩

/-- A SEAT opens a record on a line that has none. -/
theorem Books.takeSeat (h : Books (n + 1) s u) (hs : (u.lineState l).hasStage = false) (q : SeatParams) :
    Books n s (u.takeSeat l q) := by
  unfold State.takeSeat
  dsimp only
  split
  · exact Books.updReg (Books.openRecord (h.latchAll .clamped) hs q _ _ fun _ => rfl) _
  · exact Books.updReg (Books.openRecord h hs q _ _ fun _ => rfl) _

theorem Books.takeTest (h : Books n s u) (hs : (u.lineState l).hasStage = true) (target duration : Nat) :
    Books n s (u.takeTest l target duration) :=
  Books.setPurpose (Books.moveInStage (h.updReg _) hs fun _ => rfl) (by nofun) 1

theorem Books.takeCharge (h : Books n s u) (hs : (u.lineState l).hasStage = true) : Books n s (u.takeCharge l) := by
  have charging {v : State} (hv : Books n s v) (hvs : (v.lineState l).hasStage = true) (mix : Nat)
      (f : Sequencer → Sequencer) (hf : ∀ q, (f q).state = .charging) (g : Record → Record)
      (hg : ∀ r, (g r).placed = r.placed) : Books n s ((((v.updRec l g).appendMixStep l mix).updSeq l f).updReg l
        Regulator.disarm) := by
    refine Books.updReg (Books.moveInStage (Books.updRec (hv.updRec hg) fun _ => by rfl) hvs fun q => ?_) _
    rw [hf]
    rfl
  unfold State.takeCharge
  dsimp only
  have clamped : Books n s (if (u.chargeMix l).2 = .clamped then u.latchAll .clamped else u) ∧
      ((if (u.chargeMix l).2 = .clamped then u.latchAll .clamped else u).lineState l).hasStage = true := by
    split
    · exact ⟨h.latchAll _, hs⟩
    · exact ⟨h, hs⟩
  generalize (if (u.chargeMix l).2 = .clamped then u.latchAll .clamped else u) = v at clamped ⊢
  refine Books.setPurpose (charging clamped.1 clamped.2 _ _ (fun _ => by rfl) _ fun _ => by rfl) (fun _ => ?_) _
  simp [State.lineState, LineState.hasStage]

theorem Books.takeInject (h : Books n s u) (hs : (u.lineState l).hasStage = true) : Books n s (u.takeInject l) := by
  have injecting : Books n s (((u.updSeq l fun q =>
      { q with state := .injecting, returnOpen := false, standingTimer := .stopped }).updDrive l fun d =>
      { d with staticTimer := .stopped }).updReg l Regulator.disarm) :=
    Books.updReg (Books.updDrive (h.moveInStage hs fun _ => by rfl) (fun _ => by rfl) fun _ => by rfl) _
  refine Books.setPurpose injecting (fun _ => ?_) 1
  simp [State.lineState, LineState.hasStage]

theorem Books.takeDeferred (h : Books n s u) (hs : (u.lineState l).hasStage = true) {req : PendingReq}
    (hr : ∀ q, req ≠ .seat q) : Books n s (u.takeDeferred l req) := by
  cases req with
  | seat q => exact absurd rfl (hr q)
  | test target duration => exact h.takeTest hs target duration
  | charge => exact h.takeCharge hs
  | inject => exact h.takeInject hs

/-- A run point within a stage (R18, R19): no SEAT runs there. -/
theorem Books.runSlot (h : Books n s u) (hs : (u.lineState l).hasStage = true) {point : RunPoint}
    (hp : point ≠ .flushCompletion) : Books n s (u.runSlot l point) := by
  unfold State.runSlot
  split
  · exact h
  · next req _ =>
    split
    · next hruns =>
      have emptied : Books n s (u.updSeq l fun q => { q with slot := none }) := h.updSeq rfl
      dsimp only
      split
      · exact emptied.latchAll _
      · refine emptied.takeDeferred (by rw [updSeq_lineState]; exact hs) fun q hq => ?_
        rw [hq] at hruns
        cases point with
        | flushCompletion => exact hp rfl
        | _ => cases hruns
    · exact h

/-- The run point at the end of a flush: a SEAT alone runs there. -/
theorem Books.runSlot_flush (h : Books (n + 1) s u) (hs : (u.lineState l).hasStage = false) :
    Books n s (u.runSlot l .flushCompletion) := by
  unfold State.runSlot
  split
  · exact h.mono (Nat.le_succ n)
  · next req _ =>
    split
    · next hruns =>
      have emptied : Books (n + 1) s (u.updSeq l fun q => { q with slot := none }) := h.updSeq rfl
      dsimp only
      split
      · exact (emptied.latchAll _).mono (Nat.le_succ n)
      · cases req with
        | seat q => exact emptied.takeSeat (by rw [updSeq_lineState]; exact hs) q
        | _ => cases hruns
    · exact h.mono (Nat.le_succ n)

theorem Books.endTest (h : Books n s u) (hs : (u.lineState l).hasStage = true) (ending : TestEnd) :
    Books n s (u.endTest l ending) := by
  have seated (f : Regulator → Regulator) : Books n s (((u.stopDrive l).updSeq l fun q =>
      { q with state := .seated, settled := true, testTimer := none, testDuration := none }).updReg l f) := by
    exact Books.updReg (h.stopDrive.moveInStage (by rw [stopDrive_lineState, hs]) fun _ => rfl) f
  unfold State.endTest
  dsimp only
  split
  · exact (seated _).runSlot (by simp [State.lineState, LineState.hasStage]) (by nofun)
  · refine Books.runSlot ((seated _).updRec fun _ => by rfl) ?_ (by nofun)
    simp [State.lineState, LineState.hasStage]

/-! #### Coverage (R21, R23) -/

theorem Books.holdLine (h : Books n s u) (hs : (u.lineState l).hasStage = true) (r : Resume) :
    Books n s (u.holdLine l r) :=
  Books.writeRate (Books.updRec ((h.enterHeld hs r).updSeq rfl) fun _ => by rfl) 0

theorem Books.addHold (h : Books n s u) : Books n s (u.addHold l) :=
  Books.updRec (h.updSeq (by rfl)) fun _ => by rfl

theorem Books.becomeCovered (h : Books n s u) : Books n s (u.becomeCovered l) := by
  unfold State.becomeCovered
  split
  · next hs => exact h.holdLine (by rw [hs]; rfl) _
  · next hs => exact h.holdLine (by rw [hs]; rfl) _
  · split
    · exact h
    · exact h.addHold
  · next hs => exact h.endTest (by rw [hs]; rfl) _
  iterate 6 exact h

theorem Books.becomeUncovered (h : Books n s u) : Books n s (u.becomeUncovered l) := by
  unfold State.becomeUncovered
  split
  · next hs =>
    split
    · refine Books.causeRemoved (h.updSeq rfl) ?_
      rw [updSeq_lineState]
      exact (congrArg LineState.hasStage hs).trans rfl
    · exact h
  iterate 9 exact h

theorem Books.tellLine (h : Books n s u) : Books n s (u.tellLine l) := by
  unfold State.tellLine
  split
  · exact h.becomeCovered
  · exact h.becomeUncovered

theorem Books.tellLines (h : Books n s u) (ls : List LineId) : Books n s (u.tellLines ls) := by
  induction ls generalizing u with
  | nil => exact h
  | cons l ls ih => exact ih h.tellLine

end Books

end Sys2Proof.Machine


/-! SUPPORT. The books through the hold map, bursts, completions and samples. -/

namespace Sys2Proof.Machine

section Books

variable {n : Nat} {s u : State} {l : LineId}

/-! #### The hold map (R116) -/

theorem Aside.grout_eq {v : State} (h : Aside u v) : v.grout = u.grout := by
  have lines : v.lineGrout = u.lineGrout := funext fun l => by
    rw [State.lineGrout, State.lineGrout, h.drive, h.openRec]
  rw [Machine.grout_eq, Machine.grout_eq, lines]
  simp only [State.tankGrout, h.level]

theorem Books.aside {v : State} (h : Books n s u) (ha : Aside u v) : Books n s v := by
  have count : v.openCount = u.openCount := by rw [State.openCount, State.openCount, ha.openRec]
  refine ⟨h.ledger.of_eq ha.log ha.nextEntry ha.grout_eq count, fun l => ?_⟩
  obtain ⟨record, work⟩ := h.sound l
  exact ⟨by rw [ha.openRec, ha.stage, record], by rwa [ha.drive, ha.stage]⟩

theorem Books.holdOperation (h : Books n s u) (m : HoldMap) : Books n s (u.holdOperation m) := by
  have mapped : Aside u { u with holds := m, tellCount := u.tellCount + 1 } :=
    ⟨⟨rfl, fun _ => rfl⟩, fun _ => rfl, rfl, rfl, fun _ => rfl, rfl, rfl⟩
  unfold State.holdOperation
  split
  · exact h
  · exact ((h.aside mapped).tellLines _).latchAll _

/-! #### Bursts (R15, R40, R41) -/

theorem Books.startCirculate (h : Books n s u) (hn : (u.drive.get l).stroke = none) :
    Books n s (u.startCirculate l) :=
  h.startWater hn rfl rfl rfl

theorem Books.startBurst (h : Books n s u) : Books n s (u.startBurst l) := by
  have bursting : Books n s ((u.abandonStroke l).updDrive l fun d =>
      { d with
        staticTimer := .stopped
        burst := some u.timing.circStrokes
        rate := u.timing.chargeStep
        pendingRate := u.timing.chargeStep }) :=
    h.abandonStroke.updDrive (fun _ => rfl) fun _ => rfl
  refine Books.updReg (Books.updSeq (bursting.startCirculate ?_) rfl) _
  rw [State.updDrive_drive, PerLine.get_upd_self]
  exact abandonStroke_stroke u l

theorem Books.endBurst (h : Books n s u) (hs : (u.lineState l).hasStage = true) : Books n s (u.endBurst l) := by
  have ended : Books n s (((u.updDrive l fun d =>
      { d with burst := none, rate := 0, pendingRate := 0, staticTimer := u.staticStart l }).updSeq l fun q =>
      { q with returnOpen := q.returnAtRest }).updReg l Regulator.arm) :=
    Books.updReg (Books.updSeq (h.updDrive (fun _ => by rfl) fun _ => by rfl) (by rfl)) _
  unfold State.endBurst
  dsimp only
  split
  · exact ended.leaveHeld (by rw [← hs]; simp [State.lineState])
  · exact ended

theorem Books.circulateDone (h : Books n s u) (hn : (u.drive.get l).stroke = none)
    (hs : (u.lineState l).hasStage = true) : Books n s (u.circulateDone l) := by
  unfold State.circulateDone
  split
  · exact h
  · split
    · exact h.endBurst hs
    · exact Books.startCirculate (h.updDrive (fun _ => rfl) fun _ => rfl) (by simpa using hn)

/-! #### Completions (R13, R25, R34, R35, R83 to R86) -/

theorem writeRate_zero_lineState (u : State) (l : LineId) : (u.writeRate l 0 none).lineState l = u.lineState l := by
  unfold State.writeRate
  dsimp only
  split <;> rfl

theorem Books.chargeComplete (h : Books n s u) (hs : (u.lineState l).hasStage = true) :
    Books n s (u.chargeComplete l) := by
  have ran : Books n s ((u.writeRate l 0 none).runSlot l .chargeCompletion) :=
    (h.writeRate 0).runSlot (by rw [writeRate_zero_lineState, hs]) (by nofun)
  unfold State.chargeComplete
  dsimp only
  generalize (u.writeRate l 0 none).runSlot l .chargeCompletion = v at ran ⊢
  split
  · next hc =>
    exact Books.updReg (Books.updDrive (ran.moveInStage (by rw [hc]; rfl) fun _ => by rfl) (fun _ => by rfl) fun _ =>
      by rfl) _
  · exact ran

theorem Books.chargeDone (h : Books n s u) (hs : (u.lineState l).hasStage = true) : Books n s (u.chargeDone l) := by
  have counted : Books n s (u.updSeq l fun q => { q with chargeCount := q.chargeCount + 1 }) := h.updSeq rfl
  unfold State.chargeDone
  dsimp only
  split
  · exact counted.chargeComplete (by rw [updSeq_lineState]; exact hs)
  · exact counted

/-- A flush completes on a line without a record, and a SEAT that waits may open one (R25). -/
theorem Books.flushDone (h : Books (n + 1) s u) (hs : (u.lineState l).hasStage = false) :
    Books n s (u.flushDone l) := by
  have counted : Books (n + 1) s (u.updSeq l fun q => { q with flushCount := q.flushCount + 1 }) := h.updSeq rfl
  unfold State.flushDone
  dsimp only
  split
  · have still : (((u.updSeq l fun q => { q with flushCount := q.flushCount + 1 }).writeRate l 0 none).lineState
        l).hasStage = false := by
      rw [writeRate_zero_lineState, updSeq_lineState]
      exact hs
    refine Books.runSlot_flush ((counted.writeRate 0).updSeq ?_) ?_
    · rw [still]
      rfl
    · rw [updSeq_lineState]
      rfl
  · exact counted.mono (Nat.le_succ n)

theorem Books.tryThicken (h : Books n s u) (r : Record) : Books n s (u.tryThicken l r) := by
  unfold State.tryThicken
  split
  · exact h
  · split
    · split
      · exact Books.latchAll (Books.updRec (h.updSeq (by rfl)) fun _ => by rfl) _
      · exact h
    · exact h

theorem Books.evaluateInject (h : Books n s u) : Books n s (u.evaluateInject l) := by
  unfold State.evaluateInject
  split
  · exact h
  · split
    · exact h.stageEnd _ _
    · exact h.tryThicken _

/-- A completed stroke credited to its record, and gone from its drive (R34, R35 steps 1 to 3). -/
theorem Books.credit (h : Books n s u) {k : Stroke} (hk : (u.drive.get l).stroke = some k) :
    Books n s ((u.creditStroke l k).updDrive l fun d => { d with stroke := none, watch := none }) := by
  have carried : (u.drive.get l).grout = k.grout := by simp [Drive.grout, hk]
  have placed {f : Record → Record} (hf : ∀ r, (f r).placed = r.placed + k.grout) :
      Books n s ((u.updRec l f).updDrive l fun d => { d with stroke := none, watch := none }) := by
    refine h.shifts (shifts_place (h.sound l).record_of_grout (fun r => by rw [hf, carried]) rfl) rfl fun hw => .inl ?_
    simp only [Drive.worksGrout, State.updDrive_drive, State.updRec_drive, PerLine.get_upd_self, Option.any_none,
      Bool.or_false] at hw
    rw [Drive.worksGrout, hw, Bool.true_or]
  have gone {v : State} (hv : Books n s v) (hg : (v.drive.get l).grout = 0) :
      Books n s (v.updDrive l fun d => { d with stroke := none, watch := none }) := by
    refine hv.shifts (shifts_updDrive hg.symm) rfl fun hw => .inl ?_
    simp only [Drive.worksGrout, State.updDrive_drive, PerLine.get_upd_self, Option.any_none, Bool.or_false] at hw
    rw [Drive.worksGrout, hw, Bool.true_or]
  unfold State.creditStroke
  cases hp : k.purpose with
  | test => exact gone (h.updReg _) (carried.trans (by simp [Stroke.grout, hp, StrokePurpose.isGrout]))
  | circulate => exact gone h (carried.trans (by simp [Stroke.grout, hp, StrokePurpose.isGrout]))
  | flush => exact gone h (carried.trans (by simp [Stroke.grout, hp, StrokePurpose.isGrout]))
  | charge =>
    refine placed fun r => ?_
    simp only [Record.placed, Stroke.grout, hp, StrokePurpose.isGrout, if_true]
    omega
  | inject =>
    refine placed fun r => ?_
    simp only [Record.placed, Stroke.grout, hp, StrokePurpose.isGrout, if_true]
    omega

theorem creditStroke_lineState (u : State) (l : LineId) (k : Stroke) :
    (u.creditStroke l k).lineState l = u.lineState l := by
  unfold State.creditStroke
  split <;> rfl

theorem Books.nextStroke (h : Books n s u) : Books n s (u.nextStroke l) := by
  unfold State.nextStroke
  dsimp only
  split
  · next hc =>
    simp only [Bool.and_eq_true, Option.isNone_iff_eq_none] at hc
    exact h.startStroke hc.1.1.2
  · exact h

theorem Books.successor {v : State} (h : Books n s v) (c : Bool) :
    Books n s (if c then v else v.nextStroke l) := by
  split
  · exact h
  · exact h.nextStroke

/-- A stroke within a stage completes (R35). -/
theorem Books.completeStroke (h : Books n s u) {k : Stroke} (hk : (u.drive.get l).stroke = some k)
    (hf : k.purpose ≠ .flush) (hc : k.purpose = .circulate → (u.lineState l).hasStage = true) :
    Books n s (u.completeStroke l k) := by
  have state : ((u.creditStroke l k).updDrive l fun d => { d with stroke := none, watch := none }).lineState l =
      u.lineState l := creditStroke_lineState u l k
  have gone : (((u.creditStroke l k).updDrive l fun d => { d with stroke := none, watch := none }).drive.get l).stroke =
      none := by simp
  refine Books.successor ?_ _
  have credited := h.credit hk
  cases hp : k.purpose with
  | test => exact credited
  | charge =>
    refine credited.chargeDone ?_
    rw [state]
    refine (h.sound l).work ?_
    simp [Drive.worksGrout, hk, hp, StrokePurpose.isGrout]
  | inject => exact credited.evaluateInject
  | circulate => exact credited.circulateDone gone (by rw [state, hc hp])
  | flush => exact absurd hp hf

theorem Books.completeStroke_flush (h : Books (n + 1) s u) {k : Stroke} (hk : (u.drive.get l).stroke = some k)
    (hf : k.purpose = .flush) (hs : (u.lineState l).hasStage = false) : Books n s (u.completeStroke l k) := by
  refine Books.successor ?_ _
  rw [hf]
  refine Books.flushDone (h.credit hk) ?_
  rw [← hs]
  exact congrArg LineState.hasStage (creditStroke_lineState u l k)

/-! #### Samples (R47, R57 to R64, R131) -/

theorem Books.excursion (h : Books n s u) : Books n s (u.excursion l) :=
  Books.updReg (Books.latchAll (Books.updRec (Books.updReg (h.writeRate 0) _) fun _ => by rfl) _) _

theorem excursion_lineState (u : State) (l : LineId) : (u.excursion l).lineState l = u.lineState l :=
  writeRate_zero_lineState u l

theorem Books.adjustRate (h : Books n s u) (p : Pressures) : Books n s (u.adjustRate l p) := by
  unfold State.adjustRate
  dsimp only
  split
  · exact h.writeRate _
  · split
    · exact h.writeRate _
    · exact h

theorem Books.refusalStep (h : Books n s u) (p : Pressures) : Books n s (u.refusalStep l p) := by
  unfold State.refusalStep
  split
  · split <;> exact h.updReg _
  · exact h

theorem Books.clearStop (h : Books n s u) (r : Nat) : Books n s (u.clearStop l r) := (h.updReg _).writeRate r

theorem Books.decideSample (h : Books n s u) (p : Pressures) (g : Gauge) : Books n s (u.decideSample l p g) := by
  unfold State.decideSample
  split
  · unfold State.decideInjecting
    split
    · split
      · exact (h.clearStop _).refusalStep _
      · exact h.refusalStep _
    · split
      · exact h.excursion
      · exact (h.adjustRate _).refusalStep _
  · next ht =>
    unfold State.decideTesting
    split
    · exact h.excursion.endTest (by rw [excursion_lineState, ht]; rfl) _
    · exact h.adjustRate _
  · unfold State.decideCharging
    split
    · split
      · exact h.clearStop _
      · exact h
    · split
      · exact h.excursion
      · exact h
  iterate 7 exact h

theorem Books.detectConnection (h : Books n s u) (pe base : Nat) (suspects : LineSet) :
    Books n s (u.detectConnection l pe base suspects) := by
  have captured (c : Option Capture) : Aside u { u with capture := u.capture.set l c } :=
    ⟨⟨rfl, fun _ => rfl⟩, fun _ => rfl, rfl, rfl, fun _ => rfl, rfl, rfl⟩
  unfold State.detectConnection
  dsimp only
  have held (c : Option Capture) (m : HoldMap) := (h.aside (captured c)).holdOperation m
  refine Books.updReg (Books.latchAll (Books.latchAll (Books.updRec (held _ _) fun r => ?_) _) _) _
  split <;> rfl

theorem Books.handToWatch (h : Books n s u) (pe : Option Nat) : Books n s (u.handToWatch l pe) := by
  cases pe with
  | none => exact h
  | some pe =>
    change Books n s (u.watchSample l pe)
    unfold State.watchSample
    split
    · split
      · exact h.updReg _
      · split
        · exact h.detectConnection _ _ _
        · exact h
    · exact h

theorem Books.takeSample (h : Books n s u) (r : Reading) : Books n s (u.takeSample l r) := by
  have started := h.updReg (l := l) fun g => { g with sampleTimer := .running 0 Config.samplePeriod }
  unfold State.takeSample
  dsimp only
  split
  · unfold State.validSample
    dsimp only
    split
    · exact (started.updReg _).handToWatch _
    · have recorded (f : Regulator → Regulator) (pn : Nat) :
          Books n s (((u.updReg l fun g =>
            { g with sampleTimer := .running 0 Config.samplePeriod }).updReg l f).recordSample l pn) :=
        (started.updReg f).updRec fun _ => rfl
      exact Books.decideSample (Books.updReg ((recorded _ _).handToWatch _) _) _ _
  · unfold State.invalidSample
    dsimp only
    split
    · exact (started.updReg _).lineFault _
    · exact started.updReg _

/-! #### Settling (R10, R51) -/

theorem Books.settle (h : Books n s u) (hs : (u.lineState l).hasStage = true) : Books n s (u.settle l) := by
  have captured : Books n s (((u.updSeq l fun q => { q with settled := true, settleTimer := .stopped }).captureFormation
      l).updReg l Regulator.arm) :=
    Books.updReg (Books.updRec (Books.updReg (h.updSeq (by rfl)) _) fun _ => by rfl) _
  refine captured.runSlot ?_ (by nofun)
  rw [← hs]
  simp [State.lineState, State.captureFormation]

end Books

end Sys2Proof.Machine


/-! PROOF of O59. Every command keeps the books, and an idle step keeps the grout. -/

namespace Sys2Proof.Machine

/-! ### Line requests and the hold map (R5, R6, R15 to R17, R27, R117 to R119) -/

section Books

variable {n : Nat} {s u : State} {l : LineId}

theorem Books.start (hi : s.LinesInv) (hs : s.log.length ≤ 32) : Books 0 s s :=
  ⟨Ledger.start hs (openCount_le s), fun l => (hi l).sound⟩

/-- A line without a stage leaves room for the record of its next one. -/
theorem Books.start_spare (hi : s.LinesInv) (hs : s.log.length ≤ 32) (hl : (s.lineState l).hasStage = false) :
    Books 1 s s := by
  have closed : s.openRec.get l = none := by
    rw [← Option.not_isSome_iff_eq_none, (hi l).sound.record, hl]
    nofun
  exact ⟨Ledger.start hs (openCount_lt closed), fun l => (hi l).sound⟩

theorem Books.request (h : Books n s u) {owner : State → State × Answer}
    (ho : ∀ v, Aside u v → Books n s (owner v).1) (p : Port) (code : Nat) (allowed : List Port) :
    Books n s (u.request p code allowed owner) := by
  obtain he | ⟨r, he | he⟩ := request_cases u p code allowed owner
  · exact he ▸ h.aside (Aside.latchOn u p _)
  · exact he ▸ h.aside ((Aside.restartSilence u p).trans (Aside.respond _ p r))
  · exact he ▸ (ho _ (Aside.restartSilence u p)).aside (Aside.respond _ p r)

theorem Books.lineRequest (h : Books n s u) {f : LineId → State → State × Answer}
    (hf : ∀ l v, Aside u v → Books n s (f l v).1) (p : Port) (line code : Nat) (allowed : List Port) :
    Books n s (u.request p code allowed (onLine line f)) := by
  refine h.request (fun v hv => ?_) p code allowed
  unfold onLine
  split
  · exact hf _ v hv
  · exact h.aside hv

theorem lineStatus_ok {req : PendingReq} (h : u.lineStatus l req = .ok) :
    taking (u.seq.get l) (u.drive.get l).burst.isSome req = .atOnce := by
  unfold State.lineStatus at h
  dsimp only at h
  split_ifs at h
  cases ht : taking (u.seq.get l) (u.drive.get l).burst.isSome req <;> simp_all

/-- A SEAT is taken at once on a line without a stage alone (R5). -/
theorem taking_seat {q : Sequencer} {burst : Bool} {w : SeatParams} (h : taking q burst (.seat w) = .atOnce) :
    q.state.hasStage = false := by
  unfold taking at h
  dsimp only at h
  cases hq : q.state with
  | off | idle | flushing | fault => rfl
  | _ =>
    rw [hq] at h
    cases h

/-- The other requests are taken at once in states with a stage (R5). -/
theorem taking_inStage {q : Sequencer} {burst : Bool} {req : PendingReq} (hr : ∀ w, req ≠ .seat w)
    (h : taking q burst req = .atOnce) : q.state.hasStage = true := by
  cases req with
  | seat w => exact absurd rfl (hr w)
  | test | charge | inject =>
    unfold taking at h
    dsimp only at h
    cases hq : q.state with
    | seated | testing | charging | ready | injecting | held => rfl
    | _ =>
      rw [hq] at h
      cases h

theorem Books.deferTo (h : Books n s u) (req : PendingReq) : Books n s (u.deferTo l req) := h.updSeq rfl

theorem Books.deferrable (h : Books n s u) {req : PendingReq} (hr : ∀ q, req ≠ .seat q) :
    Books n s (deferrable req l u).1 := by
  unfold Machine.deferrable
  split
  · next hok =>
    exact h.takeDeferred (taking_inStage hr (lineStatus_ok hok)) hr
  · exact h.deferTo req
  · exact h

theorem Books.seat (h : Books 0 s u) (hsp : (u.lineState l).hasStage = false → Books 1 s u) (q : SeatParams) :
    Books 0 s (Machine.deferrable (.seat q) l u).1 := by
  unfold Machine.deferrable
  split
  · next hok =>
    have free : (u.lineState l).hasStage = false := taking_seat (lineStatus_ok hok)
    exact (hsp free).takeSeat free q
  · exact h.deferTo _
  · exact h

theorem Books.finishAt (h : Books n s u) : Books n s (finishAt l u).1 := by
  unfold Machine.finishAt
  split
  iterate 6 exact h.stageEnd _ _
  iterate 4 exact h

theorem Books.abortAt (h : Books n s u) (p : Port) : Books n s (abortAt p l u).1 := by
  unfold Machine.abortAt
  split
  · exact h.stageEnd _ _
  · exact h

theorem Books.clearFaultAt (h : Books n s u) : Books n s (clearFaultAt l u).1 := by
  unfold Machine.clearFaultAt
  split
  · exact h
  · next hf =>
    have fault : (u.lineState l).hasStage = false := by rw [not_not.mp hf]; rfl
    have cleared : Books n s (u.updSeq l fun q => { q with faultCause := none }) := h.updSeq rfl
    split
    · exact h
    · dsimp only
      split
      · refine Books.setPurpose (cleared.updSeq ?_) (by nofun) _
        rw [updSeq_lineState]
        exact fault.symm
      · refine cleared.updSeq ?_
        rw [updSeq_lineState]
        exact fault.symm

theorem Books.circulateAt (h : Books n s u) : Books n s (circulateAt l u).1 := by
  unfold Machine.circulateAt
  split
  · exact h.startBurst
  · exact h

theorem Books.holdOwner (h : Books n s u) (p : Port) (lines : Byte) : Books n s (holdOwner p lines u).1 := by
  unfold Machine.holdOwner
  split
  · exact h
  · exact h.holdOperation _

theorem Books.releaseAt (h : Books n s u) (k : HoldKey) (lines : Byte) : Books n s (releaseAt k lines u).1 := by
  unfold Machine.releaseAt
  split
  · exact h
  · exact h.holdOperation _

theorem Books.releaseHoldOwner (h : Books n s u) (p : Port) (reason : Nat) (lines : Byte) :
    Books n s (releaseHoldOwner p reason lines u).1 := by
  unfold Machine.releaseHoldOwner
  split
  · exact h
  · split
    · exact h
    · exact h.releaseAt _ lines

theorem Books.releaseConnectionOwner (h : Books n s u) (lines : Byte) :
    Books n s (releaseConnectionOwner lines u).1 := by
  unfold Machine.releaseConnectionOwner
  split
  · exact h
  · exact h.releaseAt _ lines

end Books

/-- Every request but a delivery and a dump keeps the books. -/
theorem runRequest_books {i : Instr} {s t : State} (hi : s.LinesInv) (hs : s.log.length ≤ 32)
    (hd : ∀ p tank mix litres, i ≠ .deliver p tank mix litres) (hu : ∀ p tank, i ≠ .dump p tank)
    (h : runRequest i s = .next t) : Books 0 s t := by
  have start := Books.start hi hs
  by_cases hm : moves i = false
  · obtain ⟨v, hv, ha⟩ := runRequest_aside hm s
    cases hv.symm.trans h
    exact start.aside ha
  cases i with
  | seat p line q =>
    cases h
    refine start.lineRequest (fun l v hv => (start.aside hv).seat (fun hl => ?_) q) p line _ _
    exact (Books.start_spare hi hs ((hv.stage l).symm.trans hl)).aside hv
  | test p line target duration =>
    cases h
    exact start.lineRequest (fun l v hv => (start.aside hv).deferrable (by nofun)) p line _ _
  | charge p line =>
    cases h
    exact start.lineRequest (fun l v hv => (start.aside hv).deferrable (by nofun)) p line _ _
  | inject p line =>
    cases h
    exact start.lineRequest (fun l v hv => (start.aside hv).deferrable (by nofun)) p line _ _
  | finish p line =>
    cases h
    exact start.lineRequest (fun l v hv => (start.aside hv).finishAt) p line _ _
  | abort p line =>
    cases h
    exact start.lineRequest (fun l v hv => (start.aside hv).abortAt p) p line _ _
  | clearFault p line =>
    cases h
    exact start.lineRequest (fun l v hv => (start.aside hv).clearFaultAt) p line _ _
  | circulate p line =>
    cases h
    exact start.lineRequest (fun l v hv => (start.aside hv).circulateAt) p line _ _
  | hold p lines =>
    cases h
    exact start.request (fun v hv => (start.aside hv).holdOwner p lines) p _ _
  | releaseHold p reason lines =>
    cases h
    exact start.request (fun v hv => (start.aside hv).releaseHoldOwner p reason lines) p _ _
  | releaseConnection p lines =>
    cases h
    exact start.request (fun v hv => (start.aside hv).releaseConnectionOwner lines) p _ _
  | deliver p tank mix litres => exact absurd rfl (hd p tank mix litres)
  | dump p tank => exact absurd rfl (hu p tank)
  | _ => exact absurd rfl hm

/-! ### The cabinet reset (R28, R37, R149) -/

/-- A line that carries grout has a stage and a record, so that a cabinet reset puts the grout to it. -/
def State.Backed (s : State) (l : LineId) : Prop :=
  (s.drive.get l).grout ≠ 0 → (s.openRec.get l).isSome = true ∧ (s.lineState l).hasStage = true

theorem State.Sound.backed {s : State} {l : LineId} (h : s.Sound l) : s.Backed l := fun hg =>
  ⟨h.record_of_grout hg, h.work (Drive.worksGrout_of_grout hg)⟩

/-- A reset stage leaves its line nothing in flight. -/
theorem resetStage_grout {u : State} {l : LineId} (hb : u.Backed l) : ((u.resetStage l).drive.get l).grout = 0 := by
  unfold State.resetStage
  split
  · rw [endStage_drive]
    rfl
  · next hs =>
    by_contra hg
    exact hs (hb hg).2

theorem resetStage_same {u : State} {l k : LineId} (hk : k ≠ l) : SameLine k u (u.resetStage l) :=
  (resetStage_lineOnly u l).lines k hk

theorem resetStage_backed {u : State} (hb : ∀ k, u.Backed k) (l k : LineId) : (u.resetStage l).Backed k := by
  by_cases hk : k = l
  · subst hk
    exact fun hg => absurd (resetStage_grout (hb k)) hg
  · obtain ⟨hq, hd, _, hr, _⟩ := resetStage_same (u := u) hk
    have state : (u.resetStage l).lineState k = u.lineState k := congrArg Sequencer.state hq
    unfold State.Backed
    rw [hd, hr, state]
    exact hb k

theorem Ledger.resetStage {n : Nat} {s u : State} {l : LineId} (h : Ledger n s u) (hb : u.Backed l) :
    Ledger n s (u.resetStage l) := by
  unfold State.resetStage
  split
  · exact h.endStage (fun hg => (hb hg).1) _ _ _
  · exact h

theorem Ledger.resetStages {n : Nat} {s u : State} (h : Ledger n s u) (hb : ∀ k, u.Backed k) (ls : List LineId) :
    Ledger n s (ls.foldl State.resetStage u) ∧
      ∀ k, k ∈ ls ∨ (u.drive.get k).grout = 0 → ((ls.foldl State.resetStage u).drive.get k).grout = 0 := by
  induction ls generalizing u with
  | nil => exact ⟨h, fun k hk => hk.resolve_left (List.not_mem_nil)⟩
  | cons l ls ih =>
    obtain ⟨ledger, rest⟩ := ih (h.resetStage (hb l)) (resetStage_backed hb l)
    refine ⟨ledger, fun k hk => rest k ?_⟩
    by_cases hkl : k = l
    · subst hkl
      exact .inr (resetStage_grout (hb k))
    · refine hk.imp (fun hm => (List.mem_cons.mp hm).resolve_left hkl) fun hg => ?_
      obtain ⟨_, hd, _⟩ := resetStage_same (u := u) hkl
      rw [hd, hg]

/-- A cabinet reset closes the open stages with their grout, and gives up no other. -/
theorem Books.cabinetReset {n : Nat} {s u : State} (h : Books n s u) : Ledger n s u.cabinetReset := by
  obtain ⟨ledger, rest⟩ := h.ledger.resetStages (fun k => (h.sound k).backed) LineId.all
  have lines : u.cabinetReset.lineGrout = u.resetStages.lineGrout := funext fun l => by
    have still : (u.resetStages.drive.get l).grout = 0 := rest l (.inl (LineId.mem_all l))
    rw [State.lineGrout, State.lineGrout, still]
    simp [State.cabinetReset, State.resetBlocks, Drive.grout, Drive.powerOn]
  refine ledger.of_eq rfl rfl ?_ rfl
  rw [grout_eq, lines]
  exact (grout_eq u.resetStages).symm

/-! ### Events -/

theorem Books.onEvent {n : Nat} {s : State} (h : Books n s s) (e : Instr) {act : State → State}
    (ha : Books n s (act s)) : Books n s (s.onEvent e act) :=
  onEvent_induct h ha

theorem strokeFits_flush {q : Sequencer} {d : Drive} {k : Stroke} (h : strokeFits q d k = true)
    (hk : k.purpose = .flush) : q.state.hasStage = false := by
  unfold strokeFits at h
  rw [hk] at h
  cases hq : q.state <;> simp_all [LineState.hasStage]

theorem strokeFits_circulate {q : Sequencer} {d : Drive} {k : Stroke} (h : strokeFits q d k = true)
    (hk : k.purpose = .circulate) : q.state.hasStage = true := by
  unfold strokeFits at h
  rw [hk] at h
  cases hq : q.state <;> simp_all [LineState.hasStage, LineState.stands]

theorem Books.senseStroke {s : State} (hi : s.LinesInv) (hs : s.log.length ≤ 32) (l : LineId) :
    Books 0 s (s.senseStroke l) := by
  have start := Books.start hi hs
  unfold State.senseStroke
  split
  · next k hk =>
    have fits := (hi l).stroke k hk
    split
    · by_cases hf : k.purpose = .flush
      · have free := strokeFits_flush fits hf
        exact (Books.start_spare hi hs free).completeStroke_flush hk hf free
      · exact start.completeStroke hk hf (strokeFits_circulate fits)
    · exact start
  · exact start

theorem Books.lapse {n : Nat} {s u : State} (h : Books n s u) (p : Port) : Books n s (u.lapse p) :=
  Books.latchAll (Books.holdOperation (h.aside (Aside.updPort u p fun _ => by rfl)) _) _

/-- Every command but power-on, a delivery, a dump and a byte received keeps the ledger (R34, R37, R138). -/
theorem exec_ledger {i : Instr} {s t : State} (hi : s.LinesInv) (hs : s.log.length ≤ 32) (h : exec i s = .next t)
    (hp : i ≠ .powerOn) (hd : ∀ p tank mix litres, i ≠ .deliver p tank mix litres) (hu : ∀ p tank, i ≠ .dump p tank)
    (hb : ∀ p b, i ≠ .byteReceived p b) : Ledger 0 s t := by
  have start := Books.start hi hs
  by_cases hr : (requestPort i).isSome = true
  · rw [exec_request hr] at h
    exact (runRequest_books hi hs hd hu h).ledger
  cases i with
  | powerOn => exact absurd rfl hp
  | byteReceived p b => exact absurd rfl (hb p b)
  | cabinetReset =>
    cases h
    split
    · exact start.ledger
    · exact start.cabinetReset.of_eq rfl rfl rfl rfl
  | gapTimerExpiry p =>
    cases h
    refine onEvent_induct (P := Ledger 0 s) start.ledger ?_
    split
    · exact start.ledger
    · exact start.ledger.of_eq rfl rfl rfl rfl
  | responseSent p =>
    cases h
    have sent : Books 0 s (s.updPort p fun q => { q with response := none }) :=
      start.aside (Aside.updPort s p fun _ => rfl)
    split
    · exact start.ledger
    · split
      · exact sent.cabinetReset
      · exact sent.ledger
  | sample l r =>
    cases h
    split
    · exact start.ledger
    · exact (start.takeSample r).ledger
  | packerSettleExpiry l =>
    cases h
    refine (start.onEvent _ ?_).ledger
    dsimp only
    split
    · next hc =>
      simp only [Bool.and_eq_true, decide_eq_true_eq] at hc
      exact start.settle (by rw [State.lineState, hc.1.1]; rfl)
    · exact start
  | testTimerExpiry l =>
    cases h
    refine (start.onEvent _ ?_).ledger
    dsimp only
    split
    · next hc =>
      simp only [Bool.and_eq_true, decide_eq_true_eq] at hc
      exact start.endTest (by rw [State.lineState, hc.1]; rfl) _
    · exact start
  | strokeComplete l =>
    cases h
    exact (start.onEvent _ (Books.senseStroke hi hs l)).ledger
  | strokeWatchExpiry l =>
    cases h
    refine (start.onEvent _ ?_).ledger
    split
    · exact start.strokeFailure
    · exact start
  | circulationStaticExpiry l =>
    cases h
    refine (start.onEvent _ ?_).ledger
    split
    · exact start.startBurst
    · exact start
  | standingTimerExpiry l =>
    cases h
    refine (start.onEvent _ ?_).ledger
    split
    · exact start.stageEnd _ _
    · exact start
  | refusalTimerExpiry l =>
    cases h
    refine (start.onEvent _ ?_).ledger
    split
    · exact start.stageEnd _ _
    · exact start
  | silenceTimerExpiry p =>
    cases h
    refine (start.onEvent _ ?_).ledger
    dsimp only
    split
    · exact start.lapse p
    · exact start
  | ageExpiry k =>
    cases h
    split
    · exact (start.aside (makeStale_aside s k)).ledger
    · exact start.ledger
  | clockAdvance =>
    cases h
    exact onEvent_induct (P := Ledger 0 s) start.ledger (start.ledger.of_eq rfl rfl rfl rfl)
  | runSecondsAdvance =>
    cases h
    exact onEvent_induct (P := Ledger 0 s) start.ledger (start.ledger.of_eq rfl rfl rfl rfl)
  | resetInputDeasserted =>
    cases h
    exact start.ledger.of_eq rfl rfl rfl rfl
  | _ => exact absurd rfl hr

/-! ### The idle step (R35, R101, R102) -/

theorem tick_grout (s : State) : s.tick.grout = s.grout := by
  have lines : s.tick.lineGrout = s.lineGrout := funext fun l => by
    simp [State.lineGrout, State.tick, State.tickTimers, Drive.tick, Drive.grout]
  rw [grout_eq, grout_eq, lines]
  rfl

/-- The stroke a CHARGE completion left to start takes its grout from a tank, or waits (log 25). -/
theorem owed_grout {s : State} {l : LineId} (h : s.owesStroke l = true) : (s.nextStroke l).grout = s.grout := by
  simp only [State.owesStroke, Bool.and_eq_true, Option.isNone_iff_eq_none, beq_iff_eq] at h
  obtain ⟨⟨⟨⟨_, hp⟩, hn⟩, _⟩, _⟩ := h
  unfold State.nextStroke
  dsimp only
  split
  · unfold State.startStroke
    rw [hp]
    exact (shifts_startGrout hn rfl).grout_eq
  · rfl

theorem idle_grout (s : State) : s.idle.grout = s.grout := by
  unfold State.idle
  split
  · rfl
  · split
    · next hl => exact owed_grout (List.find?_some hl)
    · exact tick_grout s

/-- Settles O59: an idle step shifts grout between a tank and a line, and every command keeps the ledger, by its books
or, for a cabinet reset, stage by stage. -/
theorem groutIsAccountedFor : Obligations.GroutIsAccountedFor := by
  refine ⟨fun s t _ hp h => ?_, fun i s t hi hs h hpow hd hu hb => ?_⟩
  · unfold step at h
    rw [hp] at h
    cases h
    exact idle_grout s
  · obtain ⟨news, hg, hsum, -⟩ := (exec_ledger hi hs h hpow hd hu hb).account
    exact ⟨news, hg, hsum⟩

end Sys2Proof.Machine


/-! SUPPORT. What a valid sample computes and where it hands it on, and the part of a line's state in which it is held:
`State.sampleView`. -/

namespace Sys2Proof

theorem PerLine.upd_upd {α : Type} (m : PerLine α) (l : LineId) (f g : α → α) :
    (m.upd l f).upd l g = m.upd l fun a => g (f a) := by
  cases l <;> rfl

theorem PerLine.upd_id {α : Type} (m : PerLine α) (l : LineId) {f : α → α} (h : f (m.get l) = m.get l) :
    m.upd l f = m := by
  refine PerLine.ext_get fun k => ?_
  rw [PerLine.get_upd]
  split
  · next hk => rw [hk, h]
  · rfl

theorem PerLine.upd_congr {α : Type} (m : PerLine α) (l : LineId) {f g : α → α} (h : f (m.get l) = g (m.get l)) :
    m.upd l f = m.upd l g := by
  refine PerLine.ext_get fun k => ?_
  rw [PerLine.get_upd, PerLine.get_upd]
  split
  · next hk => rw [hk, h]
  · rfl

end Sys2Proof

namespace Sys2Proof.Machine

/-! ### Updates of one line in a row -/

theorem updReg_updReg (s : State) (l : LineId) (f g : Regulator → Regulator) :
    (s.updReg l f).updReg l g = s.updReg l fun x => g (f x) := by
  simp [State.updReg, PerLine.upd_upd]

theorem updReg_updRec (s : State) (l : LineId) (f : Record → Record) (g : Regulator → Regulator) :
    (s.updRec l f).updReg l g = (s.updReg l g).updRec l f := rfl

theorem updReg_congr {s : State} {l : LineId} {f g : Regulator → Regulator} (h : f (s.reg.get l) = g (s.reg.get l)) :
    s.updReg l f = s.updReg l g := by
  simp [State.updReg, PerLine.upd_congr _ _ h]

/-- An update that leaves a line's regulator as it is changes nothing. -/
theorem updReg_eq_self {s : State} {l : LineId} {f : Regulator → Regulator} (h : f (s.reg.get l) = s.reg.get l) :
    s.updReg l f = s := by
  simp [State.updReg, PerLine.upd_id _ _ h]

/-- A change of a record that is the identity changes nothing. -/
theorem updRec_id (s : State) (l : LineId) : s.updRec l (fun r => r) = s := by
  simp [State.updRec, PerLine.upd_id]

/-! ### What a valid sample computes (R47 to R56) -/

/-- The gauge value a line takes a reading as (R47). -/
def State.gaugeOf (s : State) (l : LineId) (kPa : Int) : Gauge := classify (s.lineTable.get l).fullScale kPa

/-- The pe of a reading (R50). -/
def State.peOf (s : State) (l : LineId) (kPa : Int) : Option Nat := s.effectivePressure l (s.gaugeOf l kPa).pg

/-- The pn of a reading and the record it goes on to, where pn is computed (R50, R58). -/
def State.stageOf (s : State) (l : LineId) (kPa : Int) : Option (Nat × Record) :=
  if s.computesPn l then
    (s.reg.get l).pf.bind fun pf => (s.openRec.get l).map fun r => ((s.peOf l kPa).getD 0 - pf, r)
  else none

/-- The limit of a line whose record is given (R53 to R55). -/
def State.limitOf (s : State) (l : LineId) (r : Record) : Nat :=
  underCeiling (s.baseLimit l r (perMetre r.injected r.ls)) (s.ceiling.get l)

/-- The pressures of a sample with a pn, under the limit of a record (R53 to R56). -/
def State.pressuresAt (s : State) (l : LineId) (pn : Nat) (r : Record) : Pressures where
  pn := pn
  v := perMetre r.injected r.ls
  plim := s.limitOf l r
  threshold := excursionThreshold (s.limitOf l r) s.envelope.tolerance
  lower := lowerBandOf (s.limitOf l r) s.envelope.band

/-- The pressures of a reading (R53 to R56). -/
def State.pressuresOf (s : State) (l : LineId) (kPa : Int) : Option Pressures :=
  (s.stageOf l kPa).map fun x => s.pressuresAt l x.1 x.2

/-- A regulator with a reading classified, the pressures stored and the sample timer started again (R46, R47, R57). -/
def Regulator.sampled (g : Regulator) (gauge : Gauge) (pe : Option Nat) (p : Option Pressures) : Regulator :=
  { (g.validReading gauge).storePressures pe p with sampleTimer := .running 0 500 }

/-- A record after a sample under a ceiling, whose pn goes on to it where there is one (R55, R58). -/
def Record.noting (r : Record) (ceiling : Nat) : Option Nat → Record
  | none => r
  | some pn => { r with peak := max r.peak pn, lowestCeiling := lowerCeiling r.lowestCeiling ceiling }

/-- The state with a sample's values stored in the regulator and gone on to the record, before the watch and the
decision (R57). -/
def State.measured (s : State) (l : LineId) (kPa : Int) : State :=
  (s.updReg l (·.sampled (s.gaugeOf l kPa) (s.peOf l kPa) (s.pressuresOf l kPa))).updRec l
    (·.noting (s.ceiling.get l) ((s.pressuresOf l kPa).map (·.pn)))

variable {s u : State} {l : LineId} {kPa : Int}

/-- The reading as R47 tables it. -/
theorem gaugeOf_eq (s : State) (l : LineId) (kPa : Int) :
    s.gaugeOf l kPa =
      ⟨if kPa < 0 then 0 else min (s.lineTable.get l).fullScale kPa.toNat,
        decide (((s.lineTable.get l).fullScale : Int) ≤ kPa)⟩ := by
  unfold State.gaugeOf classify
  split
  · next h => simp only [h, decide_true, Gauge.mk.injEq, and_true]; split <;> omega
  · next h => simp only [h, decide_false, Gauge.mk.injEq, and_true]; split <;> omega

theorem gaugeOf_saturated :
    (s.gaugeOf l kPa).saturated = decide (((s.lineTable.get l).fullScale : Int) ≤ kPa) := by
  rw [gaugeOf_eq]

theorem peOf_isSome (h : s.computesPn l = true) : (s.peOf l kPa).isSome = true := by
  cases hs : s.lineState l <;> simp_all [State.computesPn, State.peOf, State.effectivePressure, State.columnGradient]

/-- The lowest ceiling as R55 says it: the lesser of the two where both are there. -/
theorem lowerCeiling_eq (old : Option Nat) (ceiling : Nat) :
    lowerCeiling old ceiling = if ceiling = 0 then old else some (min ceiling (old.getD ceiling)) := by
  unfold lowerCeiling
  cases old <;> simp [Nat.min_comm]

/-- A line in FAULT computes no pn (R50). -/
theorem pressuresOf_fault (h : s.lineState l = .fault) : s.pressuresOf l kPa = none := by
  simp [State.pressuresOf, State.stageOf, State.computesPn, h]

/-- The model's pressures are those of the reading. -/
theorem bind_stagePressures (s : State) (l : LineId) (kPa : Int) :
    (s.peOf l kPa).bind (s.stagePressures l) = s.pressuresOf l kPa := by
  unfold State.pressuresOf State.stageOf
  split
  · next hc =>
    obtain ⟨pe, hpe⟩ := Option.isSome_iff_exists.mp (peOf_isSome (kPa := kPa) hc)
    rw [hpe, Option.bind_some, State.stagePressures, if_pos hc]
    cases (s.reg.get l).pf <;> cases s.openRec.get l <;> rfl
  · next hc =>
    cases s.peOf l kPa with
    | none => rfl
    | some pe => rw [Option.bind_some, State.stagePressures, if_neg hc]; rfl

/-- Restarting the sample timer changes nothing that a sample's pressures are computed from. -/
theorem peOf_restarted (s : State) (l : LineId) (x : Timer) (kPa : Int) :
    (s.updReg l fun g => { g with sampleTimer := x }).peOf l kPa = s.peOf l kPa := by
  cases l <;> rfl

theorem pressuresOf_restarted (s : State) (l : LineId) (x : Timer) (kPa : Int) :
    (s.updReg l fun g => { g with sampleTimer := x }).pressuresOf l kPa = s.pressuresOf l kPa := by
  cases l <;> rfl

/-- The steps of a sample before its decision, by whether it computes pn (R57). -/
theorem validSample_eq (s : State) (l : LineId) (kPa : Int) :
    let stored := s.updReg l fun g =>
      (g.validReading (s.gaugeOf l kPa)).storePressures (s.peOf l kPa) (s.pressuresOf l kPa)
    s.validSample l kPa =
      (s.pressuresOf l kPa).elim (stored.handToWatch l (s.peOf l kPa)) fun p =>
        (((stored.recordSample l p.pn).handToWatch l (s.peOf l kPa)).updReg l (·.accumulate p.pn)).decideSample l p
          (s.gaugeOf l kPa) := by
  dsimp only
  rw [← bind_stagePressures]
  unfold State.validSample State.peOf State.gaugeOf
  dsimp only
  cases (s.effectivePressure l (classify (s.lineTable.get l).fullScale kPa).pg).bind (s.stagePressures l) <;> rfl

/-- The sample before its decision, in the words of `measured` (R57). -/
theorem takeSample_eq (s : State) (l : LineId) (kPa : Int) :
    s.takeSample l (.value kPa) =
      (s.pressuresOf l kPa).elim ((s.measured l kPa).handToWatch l (s.peOf l kPa)) fun p =>
        (((s.measured l kPa).handToWatch l (s.peOf l kPa)).updReg l (·.accumulate p.pn)).decideSample l p
          (s.gaugeOf l kPa) := by
  have stored : (s.updReg l fun g => { g with sampleTimer := .running 0 Config.samplePeriod }).updReg l (fun g =>
      (g.validReading (s.gaugeOf l kPa)).storePressures (s.peOf l kPa) (s.pressuresOf l kPa)) =
      s.updReg l (·.sampled (s.gaugeOf l kPa) (s.peOf l kPa) (s.pressuresOf l kPa)) :=
    updReg_updReg s l _ _
  refine (validSample_eq (s.updReg l fun g => { g with sampleTimer := .running 0 Config.samplePeriod }) l kPa).trans ?_
  rw [peOf_restarted, pressuresOf_restarted]
  unfold State.measured
  rw [← stored]
  cases s.pressuresOf l kPa with
  | none => exact congrArg (State.handToWatch · l (s.peOf l kPa)) (updRec_id _ l).symm
  | some p => rfl

/-- A sample that computes no pn (R66). -/
theorem takeSample_of_none (h : s.pressuresOf l kPa = none) :
    s.takeSample l (.value kPa) = (s.measured l kPa).handToWatch l (s.peOf l kPa) := by
  rw [takeSample_eq, h]
  rfl

/-- A sample that computes pn (R57). -/
theorem takeSample_of_some {p : Pressures} (h : s.pressuresOf l kPa = some p) :
    s.takeSample l (.value kPa) =
      (((s.measured l kPa).handToWatch l (s.peOf l kPa)).updReg l (·.accumulate p.pn)).decideSample l p
        (s.gaugeOf l kPa) := by
  rw [takeSample_eq, h]
  rfl

theorem measured_reg (s : State) (l : LineId) (kPa : Int) :
    (s.measured l kPa).reg.get l =
      (s.reg.get l).sampled (s.gaugeOf l kPa) (s.peOf l kPa) (s.pressuresOf l kPa) := by
  simp [State.measured, State.updRec]

theorem measured_openRec (s : State) (l : LineId) (kPa : Int) :
    (s.measured l kPa).openRec.get l =
      (s.openRec.get l).map (·.noting (s.ceiling.get l) ((s.pressuresOf l kPa).map (·.pn))) := by
  simp [State.measured, State.updRec]

theorem pressuresOf_pn (s : State) (l : LineId) (kPa : Int) :
    (s.pressuresOf l kPa).map (·.pn) = (s.stageOf l kPa).map (·.1) := by
  rw [State.pressuresOf, Option.map_map]
  rfl

theorem openRec_of_stageOf {x : Nat × Record} (h : s.stageOf l kPa = some x) : s.openRec.get l = some x.2 := by
  unfold State.stageOf at h
  split at h
  · simp only [Option.bind_eq_some_iff, Option.map_eq_some_iff] at h
    obtain ⟨pf, -, r, hr, rfl⟩ := h
    exact hr
  · cases h

theorem exec_sample (h : s.lineState l ≠ .off) (r : Reading) : exec (.sample l r) s = .next (s.takeSample l r) := by
  change execSample l r s = _
  rw [execSample, if_neg h]

/-! ### What a sample hands on, to the watch and to the test (R57, R72, R128) -/

theorem Regulator.baseline_self {g : Regulator} {b : Option Nat} (h : b = g.baseline) :
    { g with baseline := b } = g := by
  rw [h]

/-- A watch that is not armed passes over the pe it is handed (R128). -/
theorem handToWatch_disarmed (h : (s.reg.get l).watchArmed = false) (pe : Option Nat) : s.handToWatch l pe = s := by
  cases pe with
  | none => rfl
  | some pe => rw [State.handToWatch, State.watchSample, h]; rfl

/-- A watch with no baseline takes the pe it is handed, if one has been computed (R128). -/
theorem handToWatch_first (hw : (s.reg.get l).watchArmed = true → (s.reg.get l).baseline = none) (pe : Option Nat) :
    s.handToWatch l pe = s.updReg l fun g => { g with baseline := if g.watchArmed then pe else g.baseline } := by
  cases ha : (s.reg.get l).watchArmed with
  | false => rw [handToWatch_disarmed ha, updReg_eq_self (Regulator.baseline_self (by simp [ha]))]
  | true =>
    have hb := hw ha
    cases pe with
    | none => rw [updReg_eq_self (Regulator.baseline_self (by simp [ha, hb]))]; rfl
    | some pe =>
      rw [State.handToWatch, State.watchSample, ha, if_pos rfl, hb]
      refine updReg_congr ?_
      rw [if_pos ha]

/-- No decision is taken but in TESTING, CHARGING and INJECTING (R66). -/
theorem decideSample_undecided (h1 : s.lineState l ≠ .testing) (h2 : s.lineState l ≠ .charging)
    (h3 : s.lineState l ≠ .injecting) (p : Pressures) (gauge : Gauge) : s.decideSample l p gauge = s := by
  unfold State.decideSample
  split
  · next h => exact absurd h h3
  · next h => exact absurd h h1
  · next h => exact absurd h h2
  iterate 7 rfl

theorem accumulate_of_not_running (h : (s.reg.get l).testRunning = false) (pn : Nat) :
    s.updReg l (·.accumulate pn) = s :=
  updReg_eq_self (by rw [Regulator.accumulate, h]; rfl)

/-! ### Where a sample's values are held -/

/-- The fields of a regulator that a valid sample computes, with the two that it computes them from (R45). -/
def Regulator.sampleView (g : Regulator) :=
  (g.sampleTimer, g.lastReading, g.gauge, g.invalidCount, g.geometry, g.pf, g.pe, g.pn, g.plim, g.lowerBand, g.v)

/-- What a line holds of its last valid sample, in the regulator and in the open record (R45, R55, R58). -/
def State.sampleView (s : State) (l : LineId) :=
  ((s.reg.get l).sampleView, (s.openRec.get l).map fun r => (r.peak, r.lowestCeiling))

section SampleView

@[simp] theorem updSeq_sampleView (f : Sequencer → Sequencer) : (u.updSeq l f).sampleView l = u.sampleView l := rfl
@[simp] theorem updDrive_sampleView (f : Drive → Drive) : (u.updDrive l f).sampleView l = u.sampleView l := rfl
@[simp] theorem latchAll_sampleView (e : Event) : (u.latchAll e).sampleView l = u.sampleView l := rfl
@[simp] theorem setDemand_sampleView (q : List DemandEntry) : (u.setDemand q).sampleView l = u.sampleView l := rfl
@[simp] theorem payFrom_sampleView (t : TankId) (e : Nat) : (u.payFrom l t e).sampleView l = u.sampleView l := rfl

theorem updReg_sampleView {f : Regulator → Regulator}
    (hf : ∀ g, (f g).sampleView = g.sampleView := by exact fun _ => rfl) :
    (u.updReg l f).sampleView l = u.sampleView l := by
  simp [State.sampleView, hf]

theorem updRec_sampleView {f : Record → Record}
    (hf : ∀ r, (f r).peak = r.peak ∧ (f r).lowestCeiling = r.lowestCeiling := by exact fun _ => ⟨rfl, rfl⟩) :
    (u.updRec l f).sampleView l = u.sampleView l := by
  simp [State.sampleView, State.updRec, Function.comp_def, hf]

theorem sampleView_of_sameLine {v : State} (h : SameLine l u v) : v.sampleView l = u.sampleView l := by
  obtain ⟨-, -, hreg, hrec, -⟩ := h
  simp only [State.sampleView, hreg, hrec]

/-! Strokes given up, started and waited for (R22, R33, R37). -/

@[simp] theorem abandonStroke_sampleView : (u.abandonStroke l).sampleView l = u.sampleView l := by
  unfold State.abandonStroke
  split
  · rfl
  · split
    · exact Eq.trans (updDrive_sampleView _) updRec_sampleView
    · rfl

@[simp] theorem stopDrive_sampleView : (u.stopDrive l).sampleView l = u.sampleView l := abandonStroke_sampleView

@[simp] theorem enterHeld_sampleView (r : Resume) : (u.enterHeld l r).sampleView l = u.sampleView l :=
  updReg_sampleView

@[simp] theorem supplyWait_sampleView (mix : Nat) : (u.supplyWait l mix).sampleView l = u.sampleView l := by
  unfold State.supplyWait
  dsimp only
  split
  · rfl
  · refine Eq.trans updRec_sampleView ?_
    simp

@[simp] theorem runGrout_sampleView (purpose : StrokePurpose) (t : TankId) :
    (u.runGrout l purpose t).sampleView l = u.sampleView l := rfl

@[simp] theorem startGrout_sampleView (purpose : StrokePurpose) (given : Option TankId) :
    (u.startGrout l purpose given).sampleView l = u.sampleView l := by
  unfold State.startGrout
  split
  · rfl
  · split
    · rfl
    · split <;> simp

@[simp] theorem startStroke_sampleView (given : Option TankId) :
    (u.startStroke l given).sampleView l = u.sampleView l := by
  unfold State.startStroke
  split
  · rfl
  · rfl
  · rfl
  · exact startGrout_sampleView _ _
  · exact startGrout_sampleView _ _

/-! A write of the rate step keeps the values, or restarts a stroke whose watch has run out: then the line is in FAULT
(R31, R36, R38). -/

theorem lineFault_lineState (h : u.lineState l ≠ .off) (cause : FaultCause) :
    (u.lineFault l cause).lineState l = .fault := by
  unfold State.lineFault
  split
  iterate 8 simp [State.lineState, State.enterFault]
  · next hf => simpa [State.lineState] using hf
  · next ho => exact absurd ho h

theorem restartStroke_sampleView (h : u.lineState l ≠ .off) :
    (u.restartStroke l).lineState l = .fault ∨ (u.restartStroke l).sampleView l = u.sampleView l := by
  unfold State.restartStroke
  dsimp only
  split
  · refine .inl (lineFault_lineState ?_ _)
    simpa [State.lineState, abandonStroke_seq] using h
  · exact .inr rfl

theorem writeRate_sampleView (h : u.lineState l ≠ .off) (r : Nat) (given : Option TankId) :
    (u.writeRate l r given).lineState l = .fault ∨ (u.writeRate l r given).sampleView l = u.sampleView l := by
  unfold State.writeRate
  dsimp only
  split
  · exact .inr rfl
  · split
    · exact .inr rfl
    · split
      · exact .inr rfl
      · split
        · exact restartStroke_sampleView h
        · exact .inr (startStroke_sampleView _)

theorem writeRate_zero_sampleView (given : Option TankId) :
    (u.writeRate l 0 given).sampleView l = u.sampleView l := by
  unfold State.writeRate
  dsimp only
  split <;> rfl

/-- A drive without a stroke has none to restart. -/
theorem writeRate_idle_sampleView (h : (u.drive.get l).stroke = none) (r : Nat) (given : Option TankId) :
    (u.writeRate l r given).sampleView l = u.sampleView l := by
  unfold State.writeRate
  dsimp only
  simp only [h, Option.isSome_none, Bool.false_eq_true, if_false]
  split
  · rfl
  · split
    · rfl
    · split
      · rfl
      · exact startStroke_sampleView _

/-! The end of a test and becoming covered (R11, R21, R75). -/

theorem setPurpose_idle_sampleView (h : (u.drive.get l).stroke = none) (purpose : Purpose) (r : Nat) :
    (u.setPurpose l purpose r).sampleView l = u.sampleView l :=
  writeRate_idle_sampleView (by simpa using h) r none

theorem takeCharge_sampleView (h : (u.drive.get l).stroke = none) :
    (u.takeCharge l).sampleView l = u.sampleView l := by
  unfold State.takeCharge
  refine Eq.trans (setPurpose_idle_sampleView ?_ _ _) ?_
  · split <;> exact h
  · refine Eq.trans updReg_sampleView (Eq.trans (updSeq_sampleView _) ?_)
    refine Eq.trans updRec_sampleView (Eq.trans updRec_sampleView ?_)
    split <;> rfl

theorem runSlot_testEnd_sampleView (h : (u.drive.get l).stroke = none) :
    (u.runSlot l .testEnd).sampleView l = u.sampleView l := by
  unfold State.runSlot
  split
  · rfl
  · next req _ =>
    split
    · next hrun =>
      dsimp only
      split
      · rfl
      · cases req with
        | charge => exact takeCharge_sampleView h
        | seat _ | test _ _ | inject => cases hrun
    · rfl

theorem endTest_sampleView (ending : TestEnd) : (u.endTest l ending).sampleView l = u.sampleView l := by
  have stopped : ((u.stopDrive l).drive.get l).stroke = none := congrArg Drive.stroke (stopDrive_drive u l)
  unfold State.endTest
  dsimp only
  split
  · refine Eq.trans (runSlot_testEnd_sampleView ?_) (Eq.trans updReg_sampleView stopDrive_sampleView)
    exact stopped
  · refine Eq.trans (runSlot_testEnd_sampleView ?_)
      (Eq.trans updRec_sampleView (Eq.trans updReg_sampleView stopDrive_sampleView))
    exact stopped

theorem holdLine_sampleView (r : Resume) : (u.holdLine l r).sampleView l = u.sampleView l :=
  (writeRate_zero_sampleView none).trans (Eq.trans updRec_sampleView (enterHeld_sampleView r))

theorem becomeCovered_sampleView : (u.becomeCovered l).sampleView l = u.sampleView l := by
  unfold State.becomeCovered
  split
  · exact holdLine_sampleView _
  · exact holdLine_sampleView _
  · split
    · rfl
    · exact Eq.trans updRec_sampleView (updSeq_sampleView _)
  · exact endTest_sampleView _
  iterate 6 rfl

/-! A merge into the hold map uncovers no line, so that the lines it tells become covered (R116, R117, R131). -/

theorem covers_iff {m : HoldMap} {k : LineId} :
    m.covers k = true ↔ ∃ key ∈ HoldKey.all, holdsLine (m.get key) k = true := by
  simp [HoldMap.covers]

theorem holdMap_get_set (m : HoldMap) (key j : HoldKey) (e : Option HoldEntry) :
    (m.set key e).get j = if j = key then e else m.get j := by
  cases key <;> cases j <;> rfl

theorem holdsLine_mergeEntry {e : Option HoldEntry} {k : LineId} (h : holdsLine e k = true) (lines : LineSet)
    (now : Stamp) : holdsLine (some (mergeEntry e lines now)) k = true := by
  cases e with
  | none => cases h
  | some e => simpa [mergeEntry, holdsLine, LineSet.union] using .inl h

theorem covers_merge {m : HoldMap} {k : LineId} (h : m.covers k = true) (key : HoldKey) (lines : LineSet)
    (now : Stamp) : (m.merge key lines now).covers k = true := by
  rw [covers_iff] at h ⊢
  obtain ⟨j, hj, hk⟩ := h
  refine ⟨j, hj, ?_⟩
  rw [HoldMap.merge, holdMap_get_set]
  split
  · next hkey => exact holdsLine_mergeEntry (hkey ▸ hk) _ _
  · exact hk

theorem mem_insertByRank {rank : LineId → Nat} {k j : LineId} {ls : List LineId} :
    j ∈ insertByRank rank k ls ↔ j = k ∨ j ∈ ls := by
  induction ls with
  | nil => simp [insertByRank]
  | cons a ls ih =>
    unfold insertByRank
    split
    · simp
    · simp [ih, or_left_comm]

theorem mem_tellOrder {n : Nat} {j : LineId} {ls : List LineId} : j ∈ tellOrder n ls ↔ j ∈ ls := by
  induction ls with
  | nil => rfl
  | cons a ls ih => rw [tellOrder, mem_insertByRank, ih, List.mem_cons]

theorem covers_of_mem_changedLines {before after : HoldMap} {j : LineId} (h : j ∈ changedLines before after)
    (hm : before.covers j = true → after.covers j = true) : after.covers j = true := by
  have hne : before.covers j ≠ after.covers j := by simpa [changedLines] using h
  cases ha : after.covers j with
  | true => rfl
  | false =>
    rw [ha, Bool.ne_false_iff] at hne
    exact absurd (hm hne) (by simp [ha])

theorem tellLine_sampleView {j : LineId} (h : u.covered j = true) : (u.tellLine j).sampleView l = u.sampleView l := by
  by_cases hj : l = j
  · subst hj
    rw [State.tellLine, if_pos h]
    exact becomeCovered_sampleView
  · exact sampleView_of_sameLine ((LineOnly.refl j u).tellLine.lines l hj)

theorem tellLines_sampleView (ls : List LineId) (h : ∀ j ∈ ls, u.covered j = true) :
    (u.tellLines ls).sampleView l = u.sampleView l := by
  induction ls generalizing u with
  | nil => rfl
  | cons j ls ih =>
    have kept : (u.tellLine j).holds = u.holds := (LineOnly.refl j u).tellLine.holds
    refine (ih (u := u.tellLine j) fun k hk => ?_).trans (tellLine_sampleView (h j List.mem_cons_self))
    rw [State.covered, kept]
    exact h k (List.mem_cons_of_mem _ hk)

theorem holdOperation_merge_sampleView (key : HoldKey) (lines : LineSet) (now : Stamp) :
    (u.holdOperation (u.holds.merge key lines now)).sampleView l = u.sampleView l := by
  unfold State.holdOperation
  split
  · rfl
  · refine Eq.trans (latchAll_sampleView _) (tellLines_sampleView _ fun j hj => ?_)
    exact covers_of_mem_changedLines (mem_tellOrder.mp hj) fun hc => covers_merge hc _ _ _

/-! The connection watch and the decision keep what the sample has computed (R57, R66, R131). -/

theorem detectConnection_sampleView (pe base : Nat) (suspects : LineSet) :
    (u.detectConnection l pe base suspects).sampleView l = u.sampleView l := by
  unfold State.detectConnection
  refine Eq.trans updReg_sampleView <| Eq.trans (latchAll_sampleView _) <| Eq.trans (latchAll_sampleView _) <|
    Eq.trans (updRec_sampleView fun r => ?_) ?_
  · split <;> exact ⟨rfl, rfl⟩
  · exact holdOperation_merge_sampleView _ _ _

theorem handToWatch_sampleView (pe : Option Nat) : (u.handToWatch l pe).sampleView l = u.sampleView l := by
  cases pe with
  | none => rfl
  | some pe =>
    change (u.watchSample l pe).sampleView l = _
    unfold State.watchSample
    split
    · split
      · exact updReg_sampleView
      · split
        · exact detectConnection_sampleView _ _ _
        · rfl
    · rfl

theorem excursion_sampleView : (u.excursion l).sampleView l = u.sampleView l :=
  Eq.trans updReg_sampleView <| Eq.trans (latchAll_sampleView _) <| Eq.trans updRec_sampleView <|
    Eq.trans updReg_sampleView (writeRate_zero_sampleView none)

theorem refusalStep_sampleView (p : Pressures) : (u.refusalStep l p).sampleView l = u.sampleView l := by
  unfold State.refusalStep
  split
  · split <;> exact updReg_sampleView
  · rfl

theorem refusalStep_lineState (p : Pressures) : (u.refusalStep l p).lineState l = u.lineState l := by
  unfold State.refusalStep
  split
  · split <;> rfl
  · rfl

theorem clearStop_sampleView (h : u.lineState l ≠ .off) (r : Nat) :
    (u.clearStop l r).lineState l = .fault ∨ (u.clearStop l r).sampleView l = u.sampleView l :=
  (writeRate_sampleView (u := u.updReg l fun g => { g with excursionStop := false }) h r none).imp_right
    fun hv => hv.trans updReg_sampleView

theorem adjustRate_sampleView (h : u.lineState l ≠ .off) (p : Pressures) :
    (u.adjustRate l p).lineState l = .fault ∨ (u.adjustRate l p).sampleView l = u.sampleView l := by
  unfold State.adjustRate
  dsimp only
  split
  · exact writeRate_sampleView h _ _
  · split
    · exact writeRate_sampleView h _ _
    · exact .inr rfl

theorem refusalStep_after {v : State} (h : v.lineState l = .fault ∨ v.sampleView l = u.sampleView l) (p : Pressures) :
    (v.refusalStep l p).lineState l = .fault ∨ (v.refusalStep l p).sampleView l = u.sampleView l :=
  h.imp (refusalStep_lineState p).trans (refusalStep_sampleView p).trans

theorem decideInjecting_sampleView (h : u.lineState l ≠ .off) (p : Pressures) (g : Gauge) :
    (u.decideInjecting l p g).lineState l = .fault ∨ (u.decideInjecting l p g).sampleView l = u.sampleView l := by
  unfold State.decideInjecting
  split
  · split
    · exact refusalStep_after (clearStop_sampleView h 1) p
    · exact refusalStep_after (.inr rfl) p
  · split
    · exact .inr excursion_sampleView
    · exact refusalStep_after (adjustRate_sampleView h p) p

theorem decideTesting_sampleView (h : u.lineState l ≠ .off) (p : Pressures) (g : Gauge) :
    (u.decideTesting l p g).lineState l = .fault ∨ (u.decideTesting l p g).sampleView l = u.sampleView l := by
  unfold State.decideTesting
  split
  · exact .inr ((endTest_sampleView _).trans excursion_sampleView)
  · exact adjustRate_sampleView h p

theorem decideCharging_sampleView (h : u.lineState l ≠ .off) (p : Pressures) (g : Gauge) :
    (u.decideCharging l p g).lineState l = .fault ∨ (u.decideCharging l p g).sampleView l = u.sampleView l := by
  unfold State.decideCharging
  split
  · split
    · exact clearStop_sampleView h _
    · exact .inr rfl
  · split
    · exact .inr excursion_sampleView
    · exact .inr rfl

/-- A decision keeps the sample's values, or leaves the line in FAULT (R38, log 9). -/
theorem decideSample_sampleView (p : Pressures) (g : Gauge) :
    (u.decideSample l p g).lineState l = .fault ∨ (u.decideSample l p g).sampleView l = u.sampleView l := by
  unfold State.decideSample
  split
  · next h => exact decideInjecting_sampleView (by simp [h]) p g
  · next h => exact decideTesting_sampleView (by simp [h]) p g
  · next h => exact decideCharging_sampleView (by simp [h]) p g
  iterate 7 exact .inr rfl

theorem accumulate_sampleView (g : Regulator) (pn : Nat) : (g.accumulate pn).sampleView = g.sampleView := by
  unfold Regulator.accumulate
  split <;> rfl

end SampleView

theorem Regulator.eq_sampled_of_sampleView {g h : Regulator} {gauge : Gauge} {pe : Option Nat} {p : Option Pressures}
    (hv : h.sampleView = (g.sampled gauge pe p).sampleView) :
    h = { h.sampled gauge pe p with geometry := g.geometry, pf := g.pf } := by
  simp only [Regulator.sampleView, Prod.mk.injEq] at hv
  obtain ⟨htimer, hlast, hgauge, hcount, hgeo, hpf, hpe, hpn, hplim, hlow, hv⟩ := hv
  cases h
  cases htimer; cases hlast; cases hgauge; cases hcount; cases hgeo; cases hpf; cases hpe; cases hpn; cases hplim
  cases hlow; cases hv
  rfl

/-- A valid sample that does not put its line into FAULT leaves the values it computed (R57, R66). -/
theorem takeSample_sampleView
    (hf : (s.takeSample l (.value kPa)).lineState l = .fault → s.lineState l = .fault) :
    (s.takeSample l (.value kPa)).sampleView l = (s.measured l kPa).sampleView l := by
  cases hp : s.pressuresOf l kPa with
  | none => rw [takeSample_of_none hp, handToWatch_sampleView]
  | some p =>
    rw [takeSample_of_some hp] at hf ⊢
    obtain hfault | hkept := decideSample_sampleView
      (u := ((s.measured l kPa).handToWatch l (s.peOf l kPa)).updReg l (·.accumulate p.pn)) p (s.gaugeOf l kPa)
    · rw [pressuresOf_fault (hf hfault)] at hp
      cases hp
    · rw [hkept, updReg_sampleView fun g => accumulate_sampleView g p.pn, handToWatch_sampleView]

end Sys2Proof.Machine


/-! PROOF of O47. The values of a sample are those of `measured`, which neither the watch nor the decision changes
while the line stays out of FAULT; without a decision the sample ends there. -/

namespace Sys2Proof.Machine

/-- Without a decision the sample ends with the watch, which takes pe as its first baseline (R66, R128). -/
theorem takeSample_undecided {s : State} {l : LineId} {kPa : Int} (h1 : s.lineState l ≠ .testing)
    (h2 : s.lineState l ≠ .charging) (h3 : s.lineState l ≠ .injecting) (ht : (s.reg.get l).testRunning = false)
    (hw : (s.reg.get l).watchArmed = true → (s.reg.get l).baseline = none) :
    s.takeSample l (.value kPa) =
      (s.measured l kPa).updReg l fun g =>
        { g with baseline := if g.watchArmed then s.peOf l kPa else g.baseline } := by
  have watched := handToWatch_first (s := s.measured l kPa) (l := l) (by rw [measured_reg]; exact hw) (s.peOf l kPa)
  cases hp : s.pressuresOf l kPa with
  | none => rw [takeSample_of_none hp, watched]
  | some p =>
    rw [takeSample_of_some hp, watched, accumulate_of_not_running]
    · refine decideSample_undecided ?_ ?_ ?_ _ _
      exacts [h1, h2, h3]
    · rw [State.updReg_reg, PerLine.get_upd_self, measured_reg]
      exact ht

/-- Settles O47: each value the statement recomputes from the tables is that of `measured`, which the line holds after
the sample unless it is in FAULT; and without a decision the sample is `measured` with the watch's first baseline. -/
theorem sampleComputesThePressures : Obligations.SampleComputesThePressures := by
  intro s l kPa hoff g st full pg gauge e flow loss mid mixGradient under pe settled stage perMetre byGin base ceiling
    limit peak held
  have hgauge : gauge = s.gaugeOf l kPa := (gaugeOf_eq s l kPa).symm
  have hunder (gradient : Nat) :
      under gradient = (s.gaugeOf l kPa).pg + s.columnPressure l gradient - s.lineLoss l := by
    have hmid : (gradient * mid + 500) / 1000 = s.columnPressure l gradient := by
      simp only [mid, State.columnPressure, roundThousandth, g]
      cases (s.reg.get l).geometry <;> simp
    rw [← hmid, ← hgauge]
    rfl
  have hmix : mixGradient = ((s.seq.get l).currentMix.map s.mixGradient).getD 0 := by
    simp only [mixGradient]
    cases (s.seq.get l).currentMix <;> rfl
  have hpe : pe = s.peOf l kPa := by
    simp only [pe, hunder, hmix, State.peOf, State.effectivePressure, State.columnGradient, st]
    cases s.lineState l <;> rfl
  have hstage : stage = s.stageOf l kPa := by
    rw [State.stageOf, ← hpe]
    rfl
  have hbase (r : Record) : base r = s.baseLimit l r (Machine.perMetre r.injected r.ls) := by
    simp only [base, State.baseLimit, st]
    cases s.lineState l <;> rfl
  have hlimit (r : Record) : limit r = s.limitOf l r := by
    simp only [limit, hbase]
    rfl
  have hheld (x : Regulator) : held x = x.sampled (s.gaugeOf l kPa) (s.peOf l kPa) (s.pressuresOf l kPa) := by
    rw [← hgauge, ← hpe, State.pressuresOf, ← hstage]
    simp only [held, hlimit, Regulator.sampled, Regulator.validReading, Regulator.storePressures, Option.map_map]
    rfl
  have hpeak (r : Record) (pn : Nat) : peak r pn = r.noting (s.ceiling.get l) (some pn) := by
    simp only [Record.noting, lowerCeiling_eq]
    rfl
  refine ⟨s.takeSample l (.value kPa), exec_sample hoff _, fun hf => ?_, fun h1 h2 h3 ht hw => ?_⟩
  · have hview := takeSample_sampleView hf
    simp only [State.sampleView, Prod.mk.injEq, measured_reg, measured_openRec] at hview
    obtain ⟨hreg, hrec⟩ := hview
    refine ⟨?_, fun x hx => ?_⟩
    · rw [hheld]
      exact Regulator.eq_sampled_of_sampleView hreg
    · rw [hstage, Option.mem_def] at hx
      rw [hrec, openRec_of_stageOf hx, pressuresOf_pn, hx, hpeak]
      rfl
  · rw [takeSample_undecided h1 h2 h3 ht hw, State.measured, updReg_updRec, updReg_updReg, pressuresOf_pn, ← hstage]
    refine congrArg₂ (fun f h => (s.updReg l f).updRec l h) (funext fun x => ?_) (funext fun y => ?_)
    · rw [hheld, hpe]
      rfl
    · cases stage with
      | none => rfl
      | some x => exact (hpeak y x.1).symm

end Sys2Proof.Machine


/-! REFUTATION of O48. `LineInv` allows a paused stroke on a drive whose rate step is not 0. Without an excursion stop
the decision then writes a rate step above 1, the stroke restarts at a period shorter than the one the statement
bounds its watch by, and the watch expires at the restart (R38, log 9): the line is in FAULT. -/

namespace Sys2Proof.Machine

/-! ### The decision in INJECTING, refuted (R36, R38, R61) -/

/-- The stage of the line: 5 m long, Pmax 2500 kPa, rate cap 10. -/
def longPausedSeat : SeatParams where
  hole := 214
  stage := 3
  order := 1
  top := 400
  bottom := 450
  pmax := 2500
  gin := 150000
  vmax := 3000
  thickest := 1
  start := 1
  rateCap := 10

/-- Line 1 INJECTING at rate step 5 with its stroke PAUSED after 10 s of running, under no excursion stop. -/
def longPaused : State :=
  { State.reset with
    seq := State.reset.seq.set .l1
      { Sequencer.powerOn with state := .injecting, currentMix := some 1, packerInflated := true, returnOpen := false }
    drive := State.reset.drive.set .l1
      ⟨.inject, 5, 5, some ⟨.inject, .tank .t1, 1900, false, 3000⟩, some 10000, none, .stopped⟩
    reg := State.reset.reg.set .l1 { Regulator.powerOn with geometry := some ⟨425, 50⟩, pf := some 537 }
    openRec := State.reset.openRec.set .l1 (some (State.reset.newRecord .l1 longPausedSeat 2500 false)) }

theorem longPaused_lineInv : longPaused.LineInv .l1 where
  record := rfl
  resume := rfl
  mix := rfl
  uncovered := by decide
  hold := rfl
  supply := rfl
  cause := by decide
  waits := by decide
  afterBurst := by decide
  purpose := rfl
  stroke := fun _ hk => by cases hk; rfl
  burst := by decide
  running := fun _ hk hr => by cases hk; cases hr
  zero := by decide
  still := fun _ _ _ hi => absurd rfl hi

/-- The watch stands below three periods of rate step 1, as the statement asks. -/
theorem longPaused_watch :
    ∀ w ∈ (longPaused.drive.get .l1).watch, w < 3 * ((longPaused.lineTable.get .l1).tmin * 15) := by
  decide

/-- A reading of 0 kPa lies below the band: rate step 6 is written, the stroke restarts with a period of 2500 ms, and
three of them have already passed. -/
theorem sample_longPaused_fault :
    ∃ t, exec (.sample .l1 (.value 0)) longPaused = .next t ∧ t.lineState .l1 = .fault :=
  ⟨_, rfl, by decide⟩

/-- Refutes O48: at a reading below the band the paused stroke of `longPaused` restarts with its watch run out, so the
sample leaves its line in FAULT and not as it was. -/
theorem not_sampleDecidesInInjecting : ¬ Obligations.SampleDecidesInInjecting := by
  intro h
  obtain ⟨t, ht, hfault⟩ := sample_longPaused_fault
  obtain ⟨u, hu, -, -, -, -, -, -, hseq, -⟩ := h longPaused .l1 0 longPaused_lineInv rfl rfl rfl
    (State.reset.newRecord .l1 longPausedSeat 2500 false) rfl (by decide) (by decide)
    ⟨.inject, .tank .t1, 1900, false, 3000⟩ rfl longPaused_watch
  cases ht.symm.trans hu
  have still : t.lineState .l1 = .injecting := congrArg Sequencer.state hseq
  exact absurd (hfault.symm.trans still) (by decide)

end Sys2Proof.Machine


/-! SUPPORT. The decision of a sample in closed form: the writes of the rate step, the excursion and the end of the test
it cuts short, each as changes of the one line's blocks; and what such changes leave alone, `Beside`. -/

namespace Sys2Proof.Machine

section Decision

variable {s t u : State} {l : LineId} {kPa : Int}

/-! ### Changes of one line's blocks -/

/-- What a change of a line's blocks leaves alone: the other lines, the settings, the clock, the supply, the log, and
the line's current tank. -/
structure Beside (l : LineId) (s t : State) : Prop where
  line : LineOnly l s t
  tanks : t.tanks = s.tanks
  demand : t.demand = s.demand
  log : SameLog s t
  currentTank : t.currentTank = s.currentTank

theorem Beside.refl (l : LineId) (s : State) : Beside l s s :=
  ⟨LineOnly.refl l s, rfl, rfl, ⟨rfl, rfl, rfl⟩, rfl⟩

theorem Beside.updSeq (h : Beside l s u) (f : Sequencer → Sequencer) : Beside l s (u.updSeq l f) :=
  ⟨h.line.updSeq f, h.tanks, h.demand, h.log, h.currentTank⟩

theorem Beside.updDrive (h : Beside l s u) (f : Drive → Drive) : Beside l s (u.updDrive l f) :=
  ⟨h.line.updDrive f, h.tanks, h.demand, h.log, h.currentTank⟩

theorem Beside.updReg (h : Beside l s u) (f : Regulator → Regulator) : Beside l s (u.updReg l f) :=
  ⟨h.line.updReg f, h.tanks, h.demand, h.log, h.currentTank⟩

theorem Beside.updRec (h : Beside l s u) (f : Record → Record) : Beside l s (u.updRec l f) :=
  ⟨h.line.updRec f, h.tanks, h.demand, h.log, h.currentTank⟩

theorem Beside.latchAll (h : Beside l s u) (e : Event) : Beside l s (u.latchAll e) :=
  ⟨h.line.latchAll e, h.tanks, h.demand, h.log, h.currentTank⟩

theorem Beside.onlyLine (h : Beside l s t) : OnlyLine l s t :=
  ⟨h.line.steady.settings, h.line.steady.clock, h.line.lines, h.line.holds, h.line.capture⟩

theorem Beside.sameSupply (h : Beside l s t) : SameSupply s t := ⟨h.tanks, h.demand⟩

theorem latched_nothing (h : t.port = s.port) : Latched s t 0 := fun p => by simp [h]

theorem latched_event {e : Event} (h : t.port = (s.latchAll e).port) : Latched s t e.bit := fun p => by
  simp [h, PortState.latch]

theorem updDrive_eq_self {f : Drive → Drive} (h : f (s.drive.get l) = s.drive.get l) : s.updDrive l f = s := by
  simp [State.updDrive, PerLine.upd_id _ _ h]

theorem updDrive_congr {f g : Drive → Drive} (h : f (s.drive.get l) = g (s.drive.get l)) :
    s.updDrive l f = s.updDrive l g := by
  simp [State.updDrive, PerLine.upd_congr _ _ h]

theorem updDrive_updDrive (s : State) (l : LineId) (f g : Drive → Drive) :
    (s.updDrive l f).updDrive l g = s.updDrive l fun d => g (f d) := by
  simp [State.updDrive, PerLine.upd_upd]

/-! ### Writes of the rate step outside a burst (R31, R36) -/

theorem writeRate_zero (hb : (u.drive.get l).burst = none) : u.writeRate l 0 none = u.updDrive l Drive.writeZero := by
  simp [State.writeRate, hb]

/-- A write while a stroke runs is only stored (R31). -/
theorem writeRate_running {k : Stroke} (hb : (u.drive.get l).burst = none) (hk : (u.drive.get l).stroke = some k)
    (hrun : k.running = true) {r : Nat} (hr : 1 ≤ r) :
    u.writeRate l r none = u.updDrive l fun d => { d with pendingRate := r } := by
  have hr0 : r ≠ 0 := by omega
  simp [State.writeRate, hb, hr0, Drive.isRunning, hk, hrun]

/-- A write restarts a paused stroke whose watch has time left at the new period (R36, R38). -/
theorem writeRate_paused {k : Stroke} (hb : (u.drive.get l).burst = none) (hp : (u.drive.get l).purpose ≠ .none)
    (hk : (u.drive.get l).stroke = some k) (hrun : k.running = false) {r : Nat} (hr : 1 ≤ r)
    (hw : ∀ w ∈ (u.drive.get l).watch, w < 3 * strokePeriod (u.lineTable.get l).tmin r) :
    u.writeRate l r none = u.updDrive l fun d =>
      { d with
        rate := r
        pendingRate := r
        stroke := some { k with running := true, period := strokePeriod (u.lineTable.get l).tmin r } } := by
  have hr0 : r ≠ 0 := by omega
  have restarted : (u.updDrive l fun d => { d with pendingRate := r }).updDrive l
      (·.restarted (u.lineTable.get l).tmin) = u.updDrive l fun d =>
        { d with
          rate := r
          pendingRate := r
          stroke := some { k with running := true, period := strokePeriod (u.lineTable.get l).tmin r } } := by
    rw [updDrive_updDrive]
    refine updDrive_congr ?_
    simp only [Drive.restarted, hk, Option.map_some]
  have inTime : ((u.updDrive l fun d =>
      { d with
        rate := r
        pendingRate := r
        stroke := some { k with running := true, period := strokePeriod (u.lineTable.get l).tmin r } }).drive.get
          l).watchExpired = false := by
    rw [State.updDrive_drive, PerLine.get_upd_self, Drive.watchExpired]
    cases hwatch : (u.drive.get l).watch with
    | none => rfl
    | some w => exact decide_eq_false (Nat.not_le.mpr (hw w hwatch))
  have written : u.writeRate l r none = (u.updDrive l fun d => { d with pendingRate := r }).restartStroke l := by
    simp [State.writeRate, hb, hr0, Drive.isRunning, hk, hrun, hp]
  rw [written, State.restartStroke, State.updDrive_lineTable, restarted, inTime]
  rfl

/-- One step slower above the limit, one faster below the band, stored for the next stroke (R61). -/
theorem adjustRate_running {k : Stroke} (hb : (u.drive.get l).burst = none) (hk : (u.drive.get l).stroke = some k)
    (hrun : k.running = true) (hcap : 1 ≤ u.rateCap l) (p : Pressures) :
    u.adjustRate l p = u.updDrive l fun d =>
      { d with
        pendingRate :=
          if p.plim < p.pn then max 1 (d.rate - 1)
          else if p.pn < p.lower then min (u.rateCap l) (d.rate + 1) else d.pendingRate } := by
  unfold State.adjustRate
  dsimp only
  split
  · exact (writeRate_running hb hk hrun (Nat.le_max_left _ _)).trans (updDrive_congr rfl)
  · split
    · exact (writeRate_running hb hk hrun (Nat.le_min.mpr ⟨hcap, by omega⟩)).trans (updDrive_congr rfl)
    · exact (updDrive_eq_self rfl).symm

/-! ### The excursion and the test it cuts short (R59, R62, R75, R77) -/

theorem isExcursion_iff {p : Pressures} {gauge : Gauge} :
    isExcursion p gauge = true ↔ p.threshold < p.pn ∨ gauge.saturated = true := by
  simp [isExcursion]

theorem excursion_eq (hb : (u.drive.get l).burst = none) :
    u.excursion l =
      ((((u.updDrive l Drive.writeZero).updReg l fun g => { g with excursionStop := true }).updRec l fun r =>
        { r with excursions := satSucc r.excursions }).latchAll .excursion).updReg l fun g =>
        { g with refusalTimer := .stopped } := by
  rw [State.excursion, writeRate_zero hb]

/-! What an excursion makes of each block (R59). -/

theorem excursion_seq (hb : (u.drive.get l).burst = none) : (u.excursion l).seq = u.seq := by
  rw [excursion_eq hb]
  rfl

theorem excursion_drive (hb : (u.drive.get l).burst = none) :
    (u.excursion l).drive.get l = (u.drive.get l).writeZero := by
  simp [excursion_eq hb]

theorem excursion_reg (hb : (u.drive.get l).burst = none) :
    (u.excursion l).reg.get l = { u.reg.get l with excursionStop := true, refusalTimer := .stopped } := by
  simp [excursion_eq hb]

theorem excursion_openRec (hb : (u.drive.get l).burst = none) :
    (u.excursion l).openRec.get l =
      (u.openRec.get l).map fun r => { r with excursions := min 65535 (r.excursions + 1) } := by
  rw [excursion_eq hb, State.updReg_openRec, State.latchAll_openRec, State.updRec, PerLine.get_upd_self]
  rfl

theorem excursion_port (hb : (u.drive.get l).burst = none) :
    (u.excursion l).port = (u.latchAll .excursion).port := by
  rw [excursion_eq hb]
  rfl

theorem Beside.excursion (h : Beside l s u) (hb : (u.drive.get l).burst = none) : Beside l s (u.excursion l) := by
  rw [excursion_eq hb]
  exact ((((h.updDrive _).updReg _).updRec _).latchAll _).updReg _

/-- A write of 0 pauses the stroke in progress, if the rate step is not 0 already (R31, R36). -/
theorem Drive.writeZero_eq {d : Drive} {k : Stroke} (hk : d.stroke = some k) :
    d.writeZero =
      if d.rate = 0 then d
      else { d with rate := 0, pendingRate := 0, stroke := some { k with running := false } } := by
  rw [Drive.writeZero, hk]
  rfl

/-- A write of 0 keeps the purpose of the stroke in progress (R36). -/
theorem Drive.writeZero_stroke {d : Drive} (h : ∀ k ∈ d.stroke, k.purpose.isGrout = false) :
    ∀ k ∈ d.writeZero.stroke, k.purpose.isGrout = false := by
  unfold Drive.writeZero
  split
  · exact h
  · intro k hk
    obtain ⟨j, hj, rfl⟩ := Option.map_eq_some_iff.mp hk
    exact h j hj

/-- A stop of a drive whose stroke is not grout (R32, R37). -/
theorem stopDrive_of_not_grout (h : ∀ k ∈ (u.drive.get l).stroke, k.purpose.isGrout = false) :
    u.stopDrive l = u.updDrive l fun _ => .powerOn := by
  unfold State.stopDrive State.abandonStroke
  split
  · rfl
  · next k hk =>
    rw [h k hk, if_neg Bool.false_ne_true, updDrive_updDrive]

/-- A test that ends with no stroke of grout and no request waiting (R11, R70, R129). -/
theorem endTest_eq (h : ∀ k ∈ (u.drive.get l).stroke, k.purpose.isGrout = false) (hs : (u.seq.get l).slot = none)
    (ending : TestEnd) :
    u.endTest l ending =
      (((u.updDrive l fun _ => .powerOn).updSeq l fun q =>
        { q with state := .seated, settled := true, testTimer := none, testDuration := none }).updReg l fun g =>
        { g.clearTest.arm with excursionStop := false }).updRec l fun r =>
        { r with test := (u.testOutcome l ending).or r.test } := by
  unfold State.endTest
  rw [stopDrive_of_not_grout h]
  dsimp only
  have noSlot (v : State) (hv : v.seq = (u.updSeq l fun q =>
      { q with state := .seated, settled := true, testTimer := none, testDuration := none }).seq) (point : RunPoint) :
      v.runSlot l point = v := by
    have hslot : (v.seq.get l).slot = none := by rw [hv]; simpa using hs
    rw [State.runSlot, hslot]
  cases u.testOutcome l ending with
  | none =>
    refine (noSlot _ ?_ _).trans (updRec_id _ l).symm
    rfl
  | some t =>
    refine noSlot _ ?_ _
    rfl

/-! What the end of such a test makes of each block (R11, R70, R129). -/

section EndTest

variable (h : ∀ k ∈ (u.drive.get l).stroke, k.purpose.isGrout = false) (hs : (u.seq.get l).slot = none)
  (ending : TestEnd)
include h hs

theorem endTest_seq :
    (u.endTest l ending).seq.get l =
      { u.seq.get l with state := .seated, settled := true, testTimer := none, testDuration := none } := by
  simp [endTest_eq h hs]

theorem endTest_drive : (u.endTest l ending).drive.get l = restDrive := by
  rw [endTest_eq h hs, State.updRec_drive, State.updReg_drive, State.updSeq_drive, State.updDrive_drive,
    PerLine.get_upd_self]
  rfl

theorem endTest_reg :
    (u.endTest l ending).reg.get l = { (u.reg.get l).clearTest.arm with excursionStop := false } := by
  simp [endTest_eq h hs]

theorem endTest_openRec :
    (u.endTest l ending).openRec.get l =
      (u.openRec.get l).map fun r => { r with test := (u.testOutcome l ending).or r.test } := by
  rw [endTest_eq h hs, State.updRec, PerLine.get_upd_self]
  rfl

theorem endTest_test :
    ((u.endTest l ending).openRec.get l).map (·.test) =
      (u.openRec.get l).map fun r => (u.testOutcome l ending).or r.test := by
  rw [endTest_openRec h hs, Option.map_map]
  rfl

theorem endTest_port : (u.endTest l ending).port = u.port := by
  rw [endTest_eq h hs]
  rfl

theorem Beside.endTest (hu : Beside l s u) : Beside l s (u.endTest l ending) := by
  rw [endTest_eq h hs]
  exact (((hu.updDrive _).updSeq _).updReg _).updRec _

end EndTest

/-- The result of a test cut short after `ms` milliseconds with at least one sample (R75, R77). -/
theorem testOutcome_cutShort {target duration ms n : Nat} {geo : Geometry}
    (htarget : (u.reg.get l).testTarget = some target) (hcount : (u.reg.get l).sampleCount = n + 1)
    (hgeo : (u.reg.get l).geometry = some geo) (hduration : (u.seq.get l).testDuration = some duration)
    (hms : (u.seq.get l).testTimer = some ms) :
    u.testOutcome l .cutShort =
      if ms / 1000 < 60 ∨ (u.reg.get l).pressureSum / (n + 1) = 0 then none
      else some
        { target := target
          duration := duration
          elapsed := ms / 1000
          samples := n + 1
          mean := (u.reg.get l).pressureSum / (n + 1)
          volume := (u.reg.get l).testVolume
          tLu := min 9999
            ((u.reg.get l).testVolume * 6000 / (ms / 1000 * geo.ls * ((u.reg.get l).pressureSum / (n + 1))))
          cutShort := true
          lowPressure := decide ((u.reg.get l).pressureSum / (n + 1) < target * 50 / 100) } := by
  simp only [State.testOutcome, testResult, htarget, hcount, hgeo, hduration, hms, Option.getD_some, Option.map_some,
    Config.minTestSeconds, Config.maxTLu, Nat.add_one_ne_zero, if_false]
  by_cases helapsed : ms / 1000 < 60
  · rw [if_pos helapsed, if_pos (.inl helapsed)]
  · by_cases hmean : (u.reg.get l).pressureSum / (n + 1) = 0
    · rw [if_neg helapsed, if_pos hmean, if_pos (.inr hmean)]
    · rw [if_neg helapsed, if_neg hmean, if_neg (not_or.mpr ⟨helapsed, hmean⟩)]

end Decision

end Sys2Proof.Machine


/-! PROOF of O49. A sample in TESTING or CHARGING, from the state it measures (`weighed`) to each of the decisions. -/

namespace Sys2Proof.Machine

section Outcomes

variable {s t : State} {l : LineId} {kPa : Int} {p : Pressures} {r : Record} {k : Stroke}

/-! ### The state a decision is taken in (R57, R72) -/

/-- The state in which the decision on a sample is taken, where the watch is not armed (R57). -/
def State.weighed (s : State) (l : LineId) (kPa : Int) (p : Pressures) : State :=
  (s.measured l kPa).updReg l (·.accumulate p.pn)

theorem takeSample_unarmed (hw : (s.reg.get l).watchArmed = false) (hp : s.pressuresOf l kPa = some p) :
    s.takeSample l (.value kPa) = (s.weighed l kPa p).decideSample l p (s.gaugeOf l kPa) := by
  rw [takeSample_of_some hp, handToWatch_disarmed]
  · rfl
  · rw [measured_reg]
    exact hw

theorem pressuresOf_eq_some (hc : s.computesPn l = true) {pf : Nat} (hpf : (s.reg.get l).pf = some pf)
    (hr : s.openRec.get l = some r) :
    s.pressuresOf l kPa = some (s.pressuresAt l ((s.peOf l kPa).getD 0 - pf) r) := by
  simp [State.pressuresOf, State.stageOf, hc, hpf, hr]

/-- The threshold and the lower band are derived from the limit (R56). -/
theorem pressuresOf_bounds (hp : s.pressuresOf l kPa = some p) :
    p.threshold = p.plim + p.plim * s.envelope.tolerance / 100 := by
  obtain ⟨x, -, rfl⟩ := Option.map_eq_some_iff.mp hp
  rfl

theorem weighed_beside (s : State) (l : LineId) (kPa : Int) (p : Pressures) : Beside l s (s.weighed l kPa p) :=
  (((Beside.refl l s).updReg _).updRec _).updReg _

theorem weighed_reg (hp : s.pressuresOf l kPa = some p) :
    (s.weighed l kPa p).reg.get l =
      ((s.reg.get l).sampled (s.gaugeOf l kPa) (s.peOf l kPa) (some p)).accumulate p.pn := by
  rw [State.weighed, State.updReg_reg, PerLine.get_upd_self, measured_reg, hp]

/-- While a test runs the sample is counted (R72). -/
theorem Regulator.accumulate_of_running {g : Regulator} (h : g.testRunning = true) {gauge : Gauge} {pe : Option Nat}
    {q : Option Pressures} (pn : Nat) :
    (g.sampled gauge pe q).accumulate pn =
      { g.sampled gauge pe q with pressureSum := g.pressureSum + pn, sampleCount := g.sampleCount + 1 } := by
  have hq : (g.sampled gauge pe q).testRunning = true := h
  exact if_pos hq

theorem weighed_excursionStop (hp : s.pressuresOf l kPa = some p) :
    ((s.weighed l kPa p).reg.get l).excursionStop = (s.reg.get l).excursionStop := by
  rw [weighed_reg hp, Regulator.accumulate]
  split <;> rfl

theorem weighed_openRec (hp : s.pressuresOf l kPa = some p) (hr : s.openRec.get l = some r) :
    (s.weighed l kPa p).openRec.get l = some (r.noting (s.ceiling.get l) (some p.pn)) := by
  rw [State.weighed, State.updReg_openRec, measured_openRec, hp, hr]
  rfl

theorem weighed_rateCap (hp : s.pressuresOf l kPa = some p) (hr : s.openRec.get l = some r) :
    (s.weighed l kPa p).rateCap l = r.rateCap := by
  rw [State.rateCap, weighed_openRec hp hr]
  rfl

/-- A regulator holds the pressures of a sample (R50, R53 to R56). -/
structure Regulator.Holds (g : Regulator) (p : Pressures) : Prop where
  pn : g.pn = some p.pn
  plim : g.plim = some p.plim
  lower : g.lowerBand = some p.lower

/-- A sample that does not put its line into FAULT leaves its pressures in the regulator. -/
theorem takeSample_holds (hp : s.pressuresOf l kPa = some p)
    (hf : (s.takeSample l (.value kPa)).lineState l ≠ .fault) :
    ((s.takeSample l (.value kPa)).reg.get l).Holds p := by
  have hview := congrArg Prod.fst (takeSample_sampleView (s := s) (kPa := kPa) fun h => absurd h hf)
  have hreg : ((s.takeSample l (.value kPa)).reg.get l).sampleView = ((s.measured l kPa).reg.get l).sampleView := hview
  rw [measured_reg, hp] at hreg
  rw [Regulator.eq_sampled_of_sampleView hreg]
  exact ⟨rfl, rfl, rfl⟩

theorem Regulator.Holds.forall_pressures {g : Regulator} (h : g.Holds p) {Q : Nat → Nat → Nat → Prop}
    (hq : Q p.pn p.plim p.lower) :
    g.pn ≠ none ∧ g.plim ≠ none ∧ g.lowerBand ≠ none ∧
      ∀ pn ∈ g.pn, ∀ limit ∈ g.plim, ∀ low ∈ g.lowerBand, Q pn limit low := by
  obtain ⟨hpn, hplim, hlow⟩ := h
  rw [hpn, hplim, hlow]
  refine ⟨nofun, nofun, nofun, ?_⟩
  rintro _ ⟨⟩ _ ⟨⟩ _ ⟨⟩
  exact hq

/-! ### What the drive of a line works on (R32, R33) -/

/-- A burst runs only while the line stands (R40, R41). -/
theorem State.LineInv.burst_none (h : s.LineInv l) (hs : (s.lineState l).stands = false) :
    (s.drive.get l).burst = none := by
  rw [← Option.not_isSome_iff_eq_none]
  intro hb
  have hstands : (s.lineState l).stands = true := h.burst hb
  rw [hs] at hstands
  cases hstands

theorem State.LineInv.test_stroke (h : s.LineInv l) (hs : s.lineState l = .testing)
    (hk : (s.drive.get l).stroke = some k) : k.purpose = .test := by
  have hq : (s.seq.get l).state = .testing := hs
  have hfit := h.stroke k hk
  unfold strokeFits at hfit
  rw [hq] at hfit
  cases hp : k.purpose <;> simp_all [LineState.stands]

theorem State.LineInv.charge_purpose (h : s.LineInv l) (hs : s.lineState l = .charging) :
    (s.drive.get l).purpose = .charge := by
  have hq : (s.seq.get l).state = .charging := hs
  have hfit := h.purpose
  unfold purposeFits at hfit
  rw [hq] at hfit
  cases hp : (s.drive.get l).purpose <;> simp_all

/-! ### The decision in TESTING (R59, R61, R62, R72, R75, R77) -/

theorem takeSample_testing (hs : s.lineState l = .testing) (hw : (s.reg.get l).watchArmed = false)
    (hp : s.pressuresOf l kPa = some p) :
    s.takeSample l (.value kPa) = (s.weighed l kPa p).decideTesting l p (s.gaugeOf l kPa) := by
  have hu : (s.weighed l kPa p).lineState l = .testing := hs
  rw [takeSample_unarmed hw hp, State.decideSample, hu]

/-- Without an excursion a test goes on, with the rate step of its next stroke adjusted. -/
theorem takeSample_testing_goesOn (hi : s.LineInv l) (hs : s.lineState l = .testing)
    (hw : (s.reg.get l).watchArmed = false) (hp : s.pressuresOf l kPa = some p) (hr : s.openRec.get l = some r)
    (hcap : 1 ≤ r.rateCap) (hk : (s.drive.get l).stroke = some k) (hrun : k.running = true)
    (he : ¬isExcursion p (s.gaugeOf l kPa) = true) :
    s.takeSample l (.value kPa) = (s.weighed l kPa p).updDrive l fun d =>
      { d with
        pendingRate :=
          if p.plim < p.pn then max 1 (d.rate - 1)
          else if p.pn < p.lower then min r.rateCap (d.rate + 1) else d.pendingRate } := by
  have hcap' : (s.weighed l kPa p).rateCap l = r.rateCap := weighed_rateCap hp hr
  have hb := hi.burst_none (by rw [hs]; rfl)
  have adjusted := adjustRate_running (u := s.weighed l kPa p) hb hk hrun (by rwa [hcap']) p
  rw [takeSample_testing hs hw hp, State.decideTesting, if_neg he, adjusted, hcap']

/-- An excursion ends the test (R62, R75). -/
theorem takeSample_testing_cutShort (hs : s.lineState l = .testing) (hw : (s.reg.get l).watchArmed = false)
    (hp : s.pressuresOf l kPa = some p) (he : isExcursion p (s.gaugeOf l kPa) = true) :
    s.takeSample l (.value kPa) = ((s.weighed l kPa p).excursion l).endTest l .cutShort := by
  rw [takeSample_testing hs hw hp, State.decideTesting, if_pos he]

/-- The stroke that a test's excursion has paused is not grout. -/
theorem excursion_stroke_not_grout (hi : s.LineInv l) (hs : s.lineState l = .testing)
    (hk : (s.drive.get l).stroke = some k) :
    ∀ j ∈ (((s.weighed l kPa p).excursion l).drive.get l).stroke, j.purpose.isGrout = false := by
  rw [excursion_drive (u := s.weighed l kPa p) (hi.burst_none (by rw [hs]; rfl))]
  refine Drive.writeZero_stroke fun j hj => ?_
  cases hk.symm.trans hj
  rw [hi.test_stroke hs hk]
  rfl

theorem excursion_slot (hb : (s.drive.get l).burst = none) (hslot : (s.seq.get l).slot = none) :
    (((s.weighed l kPa p).excursion l).seq.get l).slot = none := by
  rw [excursion_seq (u := s.weighed l kPa p) hb]
  exact hslot

/-! ### The decision in CHARGING (R59, R63) -/

theorem takeSample_charging (hs : s.lineState l = .charging) (hw : (s.reg.get l).watchArmed = false)
    (hp : s.pressuresOf l kPa = some p) :
    s.takeSample l (.value kPa) = (s.weighed l kPa p).decideCharging l p (s.gaugeOf l kPa) := by
  have hu : (s.weighed l kPa p).lineState l = .charging := hs
  rw [takeSample_unarmed hw hp, State.decideSample, hu]

/-- Without an excursion stop a sample in CHARGING is an excursion or nothing. -/
theorem takeSample_charging_free (hs : s.lineState l = .charging) (hw : (s.reg.get l).watchArmed = false)
    (hp : s.pressuresOf l kPa = some p) (hstop : (s.reg.get l).excursionStop = false) :
    s.takeSample l (.value kPa) =
      if isExcursion p (s.gaugeOf l kPa) then (s.weighed l kPa p).excursion l else s.weighed l kPa p := by
  have hu : ((s.weighed l kPa p).reg.get l).excursionStop = false := by rw [weighed_excursionStop hp, hstop]
  rw [takeSample_charging hs hw hp, State.decideCharging, hu]
  rfl

/-- Under an excursion stop a sample in CHARGING clears the stop at or below the band. -/
theorem takeSample_charging_stopped (hs : s.lineState l = .charging) (hw : (s.reg.get l).watchArmed = false)
    (hp : s.pressuresOf l kPa = some p) (hstop : (s.reg.get l).excursionStop = true) :
    s.takeSample l (.value kPa) =
      if p.pn ≤ p.lower then (s.weighed l kPa p).clearStop l s.timing.chargeStep else s.weighed l kPa p := by
  have hu : ((s.weighed l kPa p).reg.get l).excursionStop = true := by rw [weighed_excursionStop hp, hstop]
  rw [takeSample_charging hs hw hp, State.decideCharging, if_pos hu]
  rfl

/-- The charge step written at a clearing restarts a paused stroke, and is stored where one runs (R31, R36). -/
theorem clearStop_charging (hi : s.LineInv l) (hs : s.lineState l = .charging)
    (hk : (s.drive.get l).stroke = some k) (hstep : 0 < s.timing.chargeStep)
    (hwatch : ∀ w ∈ (s.drive.get l).watch, w < 3 * strokePeriod (s.lineTable.get l).tmin s.timing.chargeStep) :
    (s.weighed l kPa p).clearStop l s.timing.chargeStep =
      ((s.weighed l kPa p).updReg l fun g => { g with excursionStop := false }).updDrive l fun d =>
        if k.running then { d with pendingRate := s.timing.chargeStep }
        else
          { d with
            rate := s.timing.chargeStep
            pendingRate := s.timing.chargeStep
            stroke := some
              { k with running := true, period := strokePeriod (s.lineTable.get l).tmin s.timing.chargeStep } } := by
  have hb := hi.burst_none (by rw [hs]; rfl)
  have hpurpose : (s.drive.get l).purpose ≠ .none := by rw [hi.charge_purpose hs]; nofun
  let u := (s.weighed l kPa p).updReg l fun g => { g with excursionStop := false }
  cases hrun : k.running with
  | true => exact writeRate_running (u := u) hb hk hrun hstep
  | false => exact writeRate_paused (u := u) hb hpurpose hk hrun hstep hwatch

/-- A decision in CHARGING touches no other line, and of its own neither the sequencer nor the supply. -/
theorem takeSample_charging_beside (hi : s.LineInv l) (hs : s.lineState l = .charging)
    (hw : (s.reg.get l).watchArmed = false) (hp : s.pressuresOf l kPa = some p)
    (hk : (s.drive.get l).stroke = some k) (hstep : 0 < s.timing.chargeStep)
    (hwatch : ∀ w ∈ (s.drive.get l).watch, w < 3 * strokePeriod (s.lineTable.get l).tmin s.timing.chargeStep) :
    Beside l s (s.takeSample l (.value kPa)) ∧ (s.takeSample l (.value kPa)).seq = s.seq := by
  have weighed := weighed_beside s l kPa p
  cases hstop : (s.reg.get l).excursionStop with
  | false =>
    rw [takeSample_charging_free hs hw hp hstop]
    split
    · have hb := hi.burst_none (by rw [hs]; rfl)
      exact ⟨weighed.excursion hb, excursion_seq (u := s.weighed l kPa p) hb⟩
    · exact ⟨weighed, rfl⟩
  | true =>
    rw [takeSample_charging_stopped hs hw hp hstop]
    split
    · rw [clearStop_charging hi hs hk hstep hwatch]
      exact ⟨(weighed.updReg _).updDrive _, rfl⟩
    · exact ⟨weighed, rfl⟩

/-- A decision in TESTING touches no other line and no supply, and leaves its line out of FAULT. -/
theorem takeSample_testing_beside (hi : s.LineInv l) (hs : s.lineState l = .testing)
    (hw : (s.reg.get l).watchArmed = false) (hp : s.pressuresOf l kPa = some p) (hr : s.openRec.get l = some r)
    (hcap : 1 ≤ r.rateCap) (hk : (s.drive.get l).stroke = some k) (hrun : k.running = true)
    (hslot : (s.seq.get l).slot = none) :
    Beside l s (s.takeSample l (.value kPa)) ∧ (s.takeSample l (.value kPa)).lineState l ≠ .fault := by
  have weighed := weighed_beside s l kPa p
  by_cases he : isExcursion p (s.gaugeOf l kPa) = true
  · rw [takeSample_testing_cutShort hs hw hp he]
    have hb := hi.burst_none (by rw [hs]; rfl)
    have hg := excursion_stroke_not_grout (kPa := kPa) (p := p) hi hs hk
    have hn := excursion_slot (kPa := kPa) (p := p) hb hslot
    refine ⟨(weighed.excursion hb).endTest hg hn _, ?_⟩
    rw [State.lineState, endTest_seq hg hn]
    nofun
  · rw [takeSample_testing_goesOn hi hs hw hp hr hcap hk hrun he]
    exact ⟨weighed.updDrive _, fun hf => by cases hs.symm.trans hf⟩

/-- The record of a line after an excursion: noted and counted (R58, R59). -/
theorem excursion_weighed_openRec (hp : s.pressuresOf l kPa = some p) (hr : s.openRec.get l = some r)
    (hb : (s.drive.get l).burst = none) :
    ((s.weighed l kPa p).excursion l).openRec.get l =
      some { r.noting (s.ceiling.get l) (some p.pn) with excursions := min 65535 (r.excursions + 1) } := by
  rw [excursion_openRec (u := s.weighed l kPa p) hb, weighed_openRec hp hr]
  rfl

end Outcomes

/-- Settles O49: in each clause the sample's decision has a closed form, whose effect on each block is read off; the
pressures in the regulator are those the decision was taken on (`takeSample_holds`). -/
theorem sampleDecidesInTestingAndCharging : Obligations.SampleDecidesInTestingAndCharging := by
  intro s l kPa hi hw r hr hcap pf hpf k hk d g saturated paused excursionOn
  rw [Option.mem_def] at hr hpf hk
  have hexc (p : Pressures) (hp : s.pressuresOf l kPa = some p) :
      isExcursion p (s.gaugeOf l kPa) = true ↔ excursionOn p.plim p.pn := by
    rw [isExcursion_iff, pressuresOf_bounds hp, gaugeOf_saturated, decide_eq_true_eq]
  constructor
  · intro hs hrun hslot hkrun target htarget duration hduration geo hgeo ms hms
    have hp := pressuresOf_eq_some (s := s) (l := l) (kPa := kPa) (by simp [State.computesPn, hs]) hpf hr
    generalize s.pressuresAt l ((s.peOf l kPa).getD 0 - pf) r = p at hp
    obtain ⟨hbeside, hsound⟩ := takeSample_testing_beside hi hs hw hp hr hcap hk hkrun hslot
    refine ⟨_, exec_sample (by simp [hs]) _, hbeside.onlyLine, hbeside.sameSupply, hbeside.log,
      congrArg (PerLine.get · l) hbeside.currentTank,
      (takeSample_holds hp hsound).forall_pressures ⟨fun he => ?_, fun he => ?_⟩⟩
    · rw [takeSample_testing_goesOn hi hs hw hp hr hcap hk hkrun (mt (hexc p hp).mp he)]
      have hreg := weighed_reg hp
      rw [Regulator.accumulate_of_running hrun] at hreg
      have hrec := weighed_openRec hp hr
      refine ⟨?_, ?_, ?_, ?_, rfl, latched_nothing rfl, ?_, by rw [State.updDrive_drive, PerLine.get_upd_self]; rfl⟩
      · rw [State.updDrive_reg, hreg]
      · rw [State.updDrive_reg, hreg]
      · rw [State.updDrive_reg, hreg]; rfl
      · rw [State.updDrive_reg, hreg]; exact hrun
      · rw [State.updDrive_openRec, hrec]; rfl
    · rw [takeSample_testing_cutShort hs hw hp ((hexc p hp).mpr he)]
      have hb := hi.burst_none (by rw [hs]; rfl)
      have hg := excursion_stroke_not_grout (kPa := kPa) (p := p) hi hs hk
      have hn := excursion_slot (kPa := kPa) (p := p) hb hslot
      have hseq := excursion_seq (u := s.weighed l kPa p) hb
      have hreg := excursion_reg (u := s.weighed l kPa p) hb
      rw [weighed_reg hp, Regulator.accumulate_of_running hrun] at hreg
      refine ⟨?_, endTest_drive hg hn _, latched_event ?_, ?_, ?_, ?_⟩
      · rw [endTest_seq hg hn, hseq]
        rfl
      · rw [endTest_port hg hn, excursion_port (u := s.weighed l kPa p) hb]
        rfl
      · rw [endTest_reg hg hn, hreg]
        rfl
      · rw [endTest_openRec hg hn, excursion_weighed_openRec hp hr hb]
        rfl
      · rw [endTest_test hg hn, excursion_weighed_openRec hp hr hb]
        have outcome := testOutcome_cutShort (u := (s.weighed l kPa p).excursion l) (l := l) (target := target)
          (duration := duration) (ms := ms) (n := g.sampleCount) (geo := geo) (by rw [hreg]; exact htarget)
          (by rw [hreg]) (by rw [hreg]; exact hgeo) (by rw [hseq]; exact hduration) (by rw [hseq]; exact hms)
        simp only [hreg] at outcome
        rw [outcome]
        split
        · rfl
        · rfl
  · intro hs hrun hstep period hwatch
    have hp := pressuresOf_eq_some (s := s) (l := l) (kPa := kPa) (by simp [State.computesPn, hs]) hpf hr
    generalize s.pressuresAt l ((s.peOf l kPa).getD 0 - pf) r = p at hp
    obtain ⟨hbeside, hseq⟩ := takeSample_charging_beside hi hs hw hp hk hstep hwatch
    have hsound : (s.takeSample l (.value kPa)).lineState l ≠ .fault := by
      rw [State.lineState, hseq]
      intro hf
      cases hs.symm.trans hf
    refine ⟨_, exec_sample (by simp [hs]) _, hbeside.onlyLine, hbeside.sameSupply, hbeside.log,
      congrArg (PerLine.get · l) hseq, congrArg (PerLine.get · l) hbeside.currentTank,
      (takeSample_holds hp hsound).forall_pressures
        ⟨fun hstop he => ?_, fun hstop he => ?_, fun hstop hlow hkrun => ?_, fun hstop hlow => ?_⟩⟩
    · rw [takeSample_charging_free hs hw hp hstop, if_pos ((hexc p hp).mpr he)]
      have hb := hi.burst_none (by rw [hs]; rfl)
      refine ⟨(excursion_drive (u := s.weighed l kPa p) hb).trans (Drive.writeZero_eq hk), ?_, ?_,
        latched_event (excursion_port (u := s.weighed l kPa p) hb), by rw [excursion_weighed_openRec hp hr hb]; rfl⟩
      · rw [excursion_reg (u := s.weighed l kPa p) hb]
      · rw [excursion_reg (u := s.weighed l kPa p) hb]
    · rw [takeSample_charging_free hs hw hp hstop, if_neg (mt (hexc p hp).mp he)]
      exact ⟨rfl, (weighed_excursionStop hp).trans hstop, latched_nothing rfl, by rw [weighed_openRec hp hr]; rfl⟩
    · rw [takeSample_charging_stopped hs hw hp hstop, if_pos hlow, clearStop_charging hi hs hk hstep hwatch]
      refine ⟨?_, ?_, latched_nothing rfl⟩
      · rw [State.updDrive_drive, PerLine.get_upd_self, hkrun]
        rfl
      · rw [State.updDrive_reg, State.updReg_reg, PerLine.get_upd_self]
    · rw [takeSample_charging_stopped hs hw hp hstop, if_neg (Nat.not_le.mpr hlow)]
      exact ⟨rfl, (weighed_excursionStop hp).trans hstop, latched_nothing rfl⟩

end Sys2Proof.Machine


/-! SUPPORT. Requests that only read, requests at a line or tank that there is not, requests of the plant port at a tank,
and the ports after an answer. -/

namespace Sys2Proof

theorem LineId.ofNat?_eq_none {n : Nat} (h : n = 0 ∨ 6 < n) : LineId.ofNat? n = none := by
  cases hl : LineId.ofNat? n with
  | none => rfl
  | some l =>
    have hn := LineId.num_of_ofNat? hl
    cases l <;> simp [LineId.num] at hn <;> omega

theorem TankId.ofNat?_eq_none {n : Nat} (h : n = 0 ∨ 3 < n) : TankId.ofNat? n = none := by
  cases hk : TankId.ofNat? n with
  | none => rfl
  | some k =>
    have hn := TankId.num_of_ofNat? hk
    cases k <;> simp [TankId.num] at hn <;> omega

theorem PerTank.upd_eq_set {α : Type} (m : PerTank α) (k : TankId) (f : α → α) :
    m.upd k f = m.set k (f (m.get k)) := by
  cases k <;> rfl

theorem PerTank.set_get_self {α : Type} (m : PerTank α) (k : TankId) : m.set k (m.get k) = m := by
  cases k <;> rfl

namespace Machine

/-! ### Requests (R142, R154 to R156) -/

section Requests

variable {s t : State} {p : Port} {k : TankId}

/-- A request that only reads is answered with the bytes it reads. -/
theorem reading_answers (h : s.free p) (code : Nat) {f : State → List Byte} {bytes : List Byte}
    (hb : f (s.restartSilence p) = bytes) :
    (.next (s.request p code anyPort (reading fun u => ⟨.ok, f u⟩)) : Result) =
      .next (s.answered p code .ok bytes) := by
  rw [request_unchanged h code (mem_anyPort p) (a := ⟨.ok, bytes⟩) (by rw [reading, hb])]

/-- A request at a line that only reads (R132, R142). -/
theorem request_readAt (h : s.free p) (code : Nat) {f : LineId → State → State × Answer} {l : LineId} {a : Answer}
    (hf : f l (s.restartSilence p) = (s.restartSilence p, a)) :
    s.request p code anyPort (onLine l.num f) = s.answered p code a.status a.payload :=
  request_unchanged h code (mem_anyPort p) ((onLine_num l f _).trans hf)

theorem request_noLine (h : s.free p) (code : Nat) {allowed : List Port} (hp : p ∈ allowed)
    (f : LineId → State → State × Answer) {n : Nat} (hn : n = 0 ∨ 6 < n) :
    s.request p code allowed (onLine n f) = s.answered p code .range [] :=
  request_unchanged h code hp (onLine_none (LineId.ofNat?_eq_none hn) f _)

theorem request_noTank (h : s.free p) (code : Nat) {allowed : List Port} (hp : p ∈ allowed)
    (f : TankId → State → State × Answer) {n : Nat} (hn : n = 0 ∨ 3 < n) :
    s.request p code allowed (onTank n f) = s.answered p code .range [] :=
  request_unchanged h code hp (onTank_none (TankId.ofNat?_eq_none hn) f _)

theorem respond_latchAll (u : State) (e : Event) (p : Port) (r : Response) :
    (u.latchAll e).respond p r = (u.respond p r).latchAll e := by
  cases p <;> rfl

/-- A request of the plant port at a tank: the answer is begun in the state the owner leaves. -/
theorem plant_request (h : s.free .plant) (code : Nat) {f : TankId → State → State × Answer} {st : Status}
    {bytes : List Byte} (hf : f k (s.restartSilence .plant) = (t, ⟨st, bytes⟩)) :
    (.next (s.request .plant code [.plant] (onTank k.num f)) : Result) =
      .next (t.respond .plant ⟨code, st, bytes⟩) := by
  rw [request_taken h code (by decide), onTank_num, hf]

/-- One whose owner changes nothing. -/
theorem plant_request_unchanged (h : s.free .plant) (code : Nat) {f : TankId → State → State × Answer} {st : Status}
    (hf : f k (s.restartSilence .plant) = (s.restartSilence .plant, plain st)) :
    (.next (s.request .plant code [.plant] (onTank k.num f)) : Result) = .next (s.answered .plant code st []) := by
  rw [plant_request h code hf, respond_restartSilence]

theorem answered_latches (s : State) (p : Port) (code : Nat) (st : Status) (bytes : List Byte) (q : Port) :
    ((s.answered p code st bytes).port.get q).latches = (s.port.get q).latches := by
  rw [State.answered, PerPort.get_upd]
  split <;> simp [*]

theorem answeredWith_nothing {p : Port} {code : Nat} {st : Status} {bytes : List Byte}
    (h : t.port = (s.answered p code st bytes).port) : AnsweredWith s t p code st bytes 0 := by
  intro q
  simp [h, ← answered_latches s p code st bytes q]

theorem answeredWith_event {p : Port} {code : Nat} {st : Status} {bytes : List Byte} {e : Event}
    (h : t.port = ((s.answered p code st bytes).latchAll e).port) : AnsweredWith s t p code st bytes e.bit := by
  intro q
  simp [h, PortState.latch, ← answered_latches s p code st bytes q]

end Requests

/-! ### A tank changed -/

theorem updTank_eq_set (u : State) (k : TankId) (f : Tank → Tank) :
    u.updTank k f = { u with tanks := u.tanks.set k (f (u.tanks.get k)) } := by
  rw [State.updTank, PerTank.upd_eq_set]

theorem updTank_eq_self {u : State} {k : TankId} {f : Tank → Tank} (h : f (u.tanks.get k) = u.tanks.get k) :
    u.updTank k f = u := by
  rw [updTank_eq_set, h, PerTank.set_get_self]

/-- A tank that holds grout (R98). -/
abbrev Tank.HasGrout (x : Tank) : Prop := x.state = .stocked ∨ x.state = .stale

end Machine

end Sys2Proof


/-! PROOF of O32. The fold over the qualifying tanks ends at the one that comes before all others. -/

namespace Sys2Proof.Machine

section Selection

variable {s : State} {l : LineId} {mix e : Nat}

theorem Tank.qualifies_iff {t : Tank} :
    t.qualifies mix e = true ↔ t.state = .stocked ∧ t.mix = some mix ∧ e ≤ t.level := by
  simp [Tank.qualifies, and_assoc]

theorem selectTank_of_current {k : TankId} (hk : s.currentTank.get l = some k)
    (hq : (s.tanks.get k).qualifies mix e = true) : s.selectTank l mix e = some k := by
  simp [State.selectTank, hk, hq]

theorem selectTank_eq_oldestTank
    (h : ∀ k, s.currentTank.get l = some k → ¬ (s.tanks.get k).qualifies mix e = true) :
    s.selectTank l mix e = s.oldestTank mix e := by
  unfold State.selectTank
  split
  · next k hk => exact if_neg (h k hk)
  · rfl

/-- The birth by which tanks are compared (R101). -/
def State.birthOf (s : State) (k : TankId) : Nat := (s.tanks.get k).birth.getD 0

/-- A tank comes before another in the selection: an earlier birth, or of equal births a number not above (R101). -/
def State.Precedes (s : State) (k j : TankId) : Prop :=
  s.birthOf k < s.birthOf j ∨ s.birthOf k = s.birthOf j ∧ k.num ≤ j.num

theorem older_of_lt {a : Option TankId} {k : TankId} (h : ∀ b ∈ a, s.birthOf k < s.birthOf b) :
    s.older a k = some k := by
  cases a with
  | none => rfl
  | some b => exact if_pos (h b rfl)

theorem older_of_le {k j : TankId} (h : s.birthOf k ≤ s.birthOf j) : s.older (some k) j = some k :=
  if_neg (Nat.not_lt.mpr h)

theorem older_eq_or (a : Option TankId) (b : TankId) : s.older a b = some b ∨ s.older a b = a := by
  cases a with
  | none => exact .inl rfl
  | some c => exact ite_eq_or_eq _ _ _

theorem foldl_older_of_le {ls : List TankId} {k : TankId} (h : ∀ j ∈ ls, s.birthOf k ≤ s.birthOf j) :
    ls.foldl s.older (some k) = some k := by
  induction ls with
  | nil => rfl
  | cons j ls ih =>
    rw [List.foldl_cons, older_of_le (h j List.mem_cons_self)]
    exact ih fun i hi => h i (List.mem_cons_of_mem j hi)

/-- Over tanks in the order of their numbers the fold ends at the one that comes before all: until it is met every
tank held is younger, and no tank behind it is older. -/
theorem foldl_older_of_precedes {ls : List TankId} {k : TankId} (hs : ls.Pairwise fun i j => i.num < j.num)
    (hk : k ∈ ls) (hp : ∀ j ∈ ls, s.Precedes k j) {a : Option TankId} (ha : ∀ b ∈ a, s.birthOf k < s.birthOf b) :
    ls.foldl s.older a = some k := by
  induction ls generalizing a with
  | nil => cases hk
  | cons j ls ih =>
    obtain ⟨hj, hs⟩ := List.pairwise_cons.mp hs
    have hp' : ∀ i ∈ ls, s.Precedes k i := fun i hi => hp i (List.mem_cons_of_mem j hi)
    rw [List.foldl_cons]
    rcases List.mem_cons.mp hk with rfl | hk
    · rw [older_of_lt ha]
      exact foldl_older_of_le fun i hi => (hp' i hi).elim Nat.le_of_lt fun h => h.1.le
    · have hlt : s.birthOf k < s.birthOf j :=
        (hp j List.mem_cons_self).resolve_right fun h => absurd (hj k hk) (Nat.not_lt.mpr h.2)
      refine ih hs hk hp' ?_
      obtain h | h := older_eq_or a j
      · rw [h]
        rintro b ⟨⟩
        exact hlt
      · rwa [h]

theorem oldestTank_of_precedes {k : TankId} (hk : (s.tanks.get k).qualifies mix e = true)
    (hp : ∀ j, (s.tanks.get j).qualifies mix e = true → s.Precedes k j) : s.oldestTank mix e = some k :=
  foldl_older_of_precedes (List.Pairwise.filter _ (by decide)) (List.mem_filter.mpr ⟨TankId.mem_all k, hk⟩)
    (fun j hj => hp j (List.mem_filter.mp hj).2) nofun

theorem oldestTank_eq_none (h : ∀ k, ¬ (s.tanks.get k).qualifies mix e = true) : s.oldestTank mix e = none := by
  rw [State.oldestTank, List.filter_eq_nil_iff.mpr fun k _ => h k]
  rfl

end Selection

/-- Settles O32: the current tank where it qualifies; else the fold of `oldestTank`, which ends at the tank that comes
before all others. -/
theorem tankSelection : Obligations.TankSelection := by
  intro s l mix e fit
  have hfit (k : TankId) : (s.tanks.get k).qualifies mix e = true ↔ fit k := Tank.qualifies_iff
  refine ⟨fun k hk hf => selectTank_of_current hk ((hfit k).mpr hf), fun hc => ?_⟩
  rw [selectTank_eq_oldestTank fun k hk => mt (hfit k).mp (hc k hk)]
  exact ⟨fun hn => oldestTank_eq_none fun k => mt (hfit k).mp (hn k),
    fun k hk hp => oldestTank_of_precedes ((hfit k).mpr hk) fun j hj => hp j ((hfit j).mp hj)⟩

end Sys2Proof.Machine


/-! PROOF of O51. The checks of a delivery, and an accepted one that nobody waits for. -/

namespace Sys2Proof.Machine

section Deliver

variable {s u : State} {k : TankId} {mix litres : Nat}

/-! ### DELIVER (R99) -/

/-- What R99 refuses with RANGE. -/
abbrev State.DeliveryBad (s : State) (k : TankId) (mix litres : Nat) : Prop :=
  litres = 0 ∨ 4000 < litres ∨ s.mixEnabled mix = false ∨ (s.tanks.get k).state = .unfitted

/-- What R99 refuses with CONFLICT: a STALE tank, or one STOCKED with another mix. -/
abbrev Tank.Clashes (x : Tank) (mix : Nat) : Prop := x.state = .stale ∨ x.state = .stocked ∧ x.mix ≠ some mix

/-- The checks of R99 in their order. -/
theorem deliverStatus_eq (s : State) (k : TankId) (mix litres : Nat) :
    s.deliverStatus k mix litres =
      if s.DeliveryBad k mix litres then .range else if (s.tanks.get k).Clashes mix then .conflict else .ok := by
  have hq : (!inRange 1 4000 litres || !s.mixEnabled mix) = true ↔
      litres = 0 ∨ 4000 < litres ∨ s.mixEnabled mix = false := by
    simp only [inRange, Bool.or_eq_true, Bool.not_eq_true', Bool.and_eq_false_iff, decide_eq_false_iff_not, ← or_assoc]
    refine or_congr_left ?_
    omega
  rw [State.deliverStatus, if_congr hq rfl rfl]
  simp only [State.DeliveryBad, Tank.Clashes, ite_or, Bool.and_eq_true, decide_eq_true_iff, bne_iff_ne]

theorem deliverAt_refused {st : Status} (h : u.deliverStatus k mix litres = st) (hst : st ≠ .ok) :
    deliverAt mix litres k u = (u, plain st) := by
  rw [deliverAt, h]
  cases st with
  | ok => exact absurd rfl hst
  | _ => rfl

theorem serve_nobody (hm : ∀ d ∈ u.demand, d.mix ≠ mix) (hw : ∀ d ∈ u.demand, d.waiting ≠ []) :
    u.serve mix = (u, 0) := by
  have hnone : u.demand.find? (·.mix == mix) = none := List.find?_eq_none.mpr fun d hd => by simpa using hm d hd
  have hkeep : dropEmptied u.demand = u.demand := List.filter_eq_self.mpr fun d hd => by simpa using hw d hd
  simp [State.serve, State.waitingFor, hnone, hkeep, State.setDemand]

/-- The level an accepted delivery gives: the sum, held at the capacity (R99). -/
def State.levelGiven (s : State) (k : TankId) (litres : Nat) : Nat :=
  min ((s.tanks.get k).level + litres * 1000) ((s.tankTable.get k).capacity * 1000)

/-- The part with the tank of an accepted delivery filled (R99). -/
def State.filled (s : State) (k : TankId) (mix litres : Nat) : State :=
  { s with tanks := s.tanks.set k ((s.tanks.get k).fill mix (s.levelGiven k litres) s.runSeconds) }

theorem filled_level (u : State) (k : TankId) (mix litres : Nat) :
    ((u.filled k mix litres).tanks.get k).level = u.levelGiven k litres := by
  rw [State.filled, PerTank.get_set_self, Tank.fill]
  split <;> rfl

/-- An accepted delivery of a mix that no line waits for (R99). -/
theorem deliverAt_nobody (hok : u.deliverStatus k mix litres = .ok) (hm : ∀ d ∈ u.demand, d.mix ≠ mix)
    (hw : ∀ d ∈ u.demand, d.waiting ≠ []) :
    deliverAt mix litres k u =
      (if (u.tankTable.get k).capacity * 1000 < (u.tanks.get k).level + litres * 1000
        then (u.filled k mix litres).latchAll .clamped else u.filled k mix litres,
        ⟨.ok, be 4 (u.levelGiven k litres) ++ be 1 0⟩) := by
  have hf : (u.updTank k fun x => x.fill mix
      (min ((u.tanks.get k).level + litres * 1000) ((u.tankTable.get k).capacity * 1000)) u.runSeconds) =
      u.filled k mix litres := updTank_eq_set u k _
  simp only [deliverAt, hok, hf]
  split
  all_goals
    rw [serve_nobody (by exact hm) (by exact hw), ← filled_level u k mix litres]
    rfl

/-- The part after an accepted delivery that nobody waits for, but for a latch of CLAMPED (R99, R156). -/
def State.delivered (s : State) (k : TankId) (mix litres : Nat) : State :=
  (s.filled k mix litres).answered .plant 0x20 .ok (be 4 (s.levelGiven k litres) ++ be 1 0)

theorem exec_deliver_nobody (h : s.free .plant) (hb : ¬ s.DeliveryBad k mix litres)
    (hc : ¬ (s.tanks.get k).Clashes mix) (hm : ∀ d ∈ s.demand, d.mix ≠ mix) (hw : ∀ d ∈ s.demand, d.waiting ≠ []) :
    exec (.deliver .plant k.num mix litres) s =
      .next (if (s.tankTable.get k).capacity * 1000 < (s.tanks.get k).level + litres * 1000
        then (s.delivered k mix litres).latchAll .clamped else s.delivered k mix litres) := by
  have hok : (s.restartSilence .plant).deliverStatus k mix litres = .ok :=
    (deliverStatus_eq _ k mix litres).trans ((if_neg hb).trans (if_neg hc))
  refine (plant_request h 0x20 (deliverAt_nobody hok hm hw)).trans (congrArg Host.Outcome.next ?_)
  rw [apply_ite (State.respond · _ _), respond_latchAll]
  rfl

theorem delivered_tank (s : State) (k : TankId) (mix litres : Nat) :
    (s.delivered k mix litres).tanks.get k = (s.tanks.get k).fill mix (s.levelGiven k litres) s.runSeconds :=
  PerTank.get_set_self _ k _

theorem delivered_other {j : TankId} (hj : j ≠ k) : (s.delivered k mix litres).tanks.get j = s.tanks.get j :=
  PerTank.get_set_of_ne _ hj _

end Deliver

/-- Settles O51: the checks in their order; then, with nobody to serve, the tank is filled and the answer begun. -/
theorem deliverFillsTheTank : Obligations.DeliverFillsTheTank := by
  intro s k mix litres hf tank bad clash
  refine ⟨fun n hn => congrArg Host.Outcome.next (request_noTank hf 0x20 (by decide) (deliverAt mix litres) hn),
    fun hb => ?_, fun hb hc => ?_, fun hb hc hm hw => ?_⟩
  · exact plant_request_unchanged hf 0x20
      (deliverAt_refused ((deliverStatus_eq _ k mix litres).trans (if_pos hb)) nofun)
  · exact plant_request_unchanged hf 0x20
      (deliverAt_refused ((deliverStatus_eq _ k mix litres).trans ((if_neg hb).trans (if_pos hc))) nofun)
  · have hexec := exec_deliver_nobody hf hb hc hm hw
    by_cases hfull : (s.tankTable.get k).capacity * 1000 < tank.level + litres * 1000
    · rw [if_pos hfull] at hexec
      refine ⟨_, hexec, rfl, delivered_tank s k mix litres, fun j hj => delivered_other hj, ?_⟩
      rw [if_pos hfull]
      exact answeredWith_event rfl
    · rw [if_neg hfull] at hexec
      refine ⟨_, hexec, rfl, delivered_tank s k mix litres, fun j hj => delivered_other hj, ?_⟩
      rw [if_neg hfull]
      exact answeredWith_nothing rfl

end Sys2Proof.Machine


/-! PROOF of O53. DUMP and WRITE_TANK as their owners' equations, and the age expiry. -/

namespace Sys2Proof.Machine

section Tanks

variable {s u t : State} {k : TankId} {capacity limit : Nat}

/-! ### DUMP (R100) -/

theorem dumpAt_unfitted (h : (u.tanks.get k).state = .unfitted) : dumpAt k u = (u, plain .range) := by
  simp [dumpAt, h]

theorem dumpAt_empty (h : (u.tanks.get k).state = .empty) : dumpAt k u = (u, plain .ok) := by
  simp [dumpAt, h]

theorem dumpAt_grout (h : (u.tanks.get k).HasGrout) :
    dumpAt k u = ({ u with tanks := u.tanks.set k ⟨.empty, none, 0, none⟩ }, plain .ok) := by
  rcases h with h | h <;> simp [dumpAt, h, updTank_eq_set]

theorem exec_dump (h : s.free .plant) (k : TankId) :
    exec (.dump .plant k.num) s =
      .next (if (s.tanks.get k).state = .unfitted then s.answered .plant 0x21 .range []
        else if (s.tanks.get k).state = .empty then s.answered .plant 0x21 .ok []
        else { s.answered .plant 0x21 .ok [] with tanks := s.tanks.set k ⟨.empty, none, 0, none⟩ }) := by
  cases hs : (s.tanks.get k).state with
  | unfitted => exact plant_request_unchanged h 0x21 (dumpAt_unfitted hs)
  | empty => exact plant_request_unchanged h 0x21 (dumpAt_empty hs)
  | stocked => exact plant_request h 0x21 (dumpAt_grout (.inl hs))
  | stale => exact plant_request h 0x21 (dumpAt_grout (.inr hs))

/-! ### WRITE_TANK (R113, R177) -/

theorem Tank.fitted_of_grout {x : Tank} (h : x.HasGrout) (capacity : Nat) : x.fitted capacity = x := by
  rcases h with h | h <;> simp [Tank.fitted, h]

theorem Tank.fitted_of_no_grout {x : Tank} (h : ¬ x.HasGrout) (capacity : Nat) :
    x.fitted capacity = { x with state := if capacity = 0 then .unfitted else .empty } := by
  cases hs : x.state with
  | unfitted => simp [Tank.fitted, hs]
  | empty => simp [Tank.fitted, hs]
  | stocked => exact absurd (.inl hs) h
  | stale => exact absurd (.inr hs) h

theorem makeStale_eq (u : State) (k : TankId) :
    u.makeStale k =
      ({ u with tanks := u.tanks.set k { u.tanks.get k with state := .stale } } : State).latchAll .tankStale := by
  rw [State.makeStale, updTank_eq_set]

/-- The checks of R113 and R177 in order: the ranges, then a change of capacity under grout. -/
theorem writeTankAt_eq (capacity limit : Nat) (k : TankId) (u : State) :
    writeTankAt capacity limit k u =
      if 4000 < capacity ∨ limit < 10 ∨ 240 < limit then (u, plain .range)
      else if capacity ≠ (u.tankTable.get k).capacity ∧ (u.tanks.get k).HasGrout then (u, plain .notQuiet)
      else
        let t := ({ u with tankTable := u.tankTable.set k ⟨capacity, limit⟩ } : State).updTank k (·.fitted capacity)
        (if t.pastLimit k then t.makeStale k else t, plain .ok) := by
  refine if_congr ?_ rfl (if_congr ?_ rfl rfl)
  · simp only [inRange, Bool.or_eq_true, Bool.not_eq_true', Bool.and_eq_false_iff, decide_eq_false_iff_not]
    omega
  · simp [Tank.HasGrout]

/-- A capacity written where there is no grout fits or unfits the tank, and nothing grows stale. -/
theorem writeTankAt_no_grout (hin : ¬ (4000 < capacity ∨ limit < 10 ∨ 240 < limit))
    (hg : ¬ (u.tanks.get k).HasGrout) :
    writeTankAt capacity limit k u =
      ({ u with
          tankTable := u.tankTable.set k ⟨capacity, limit⟩
          tanks := u.tanks.set k { u.tanks.get k with state := if capacity = 0 then .unfitted else .empty } },
        plain .ok) := by
  rw [writeTankAt_eq, if_neg hin, if_neg fun h => hg h.2, updTank_eq_set, Tank.fitted_of_no_grout hg]
  refine congrArg (·, plain .ok) (if_neg ?_)
  rw [State.pastLimit_iff]
  rintro ⟨hs, -⟩
  by_cases hc : capacity = 0 <;> simp [hc] at hs

/-- An age limit written over grout: the tank grows stale where it is STOCKED past the new limit. -/
theorem writeTankAt_grout (hin : ¬ (4000 < capacity ∨ limit < 10 ∨ 240 < limit)) (hg : (u.tanks.get k).HasGrout)
    (hc : capacity = (u.tankTable.get k).capacity)
    (ht : t = { u with tankTable := u.tankTable.set k ⟨capacity, limit⟩ }) :
    writeTankAt capacity limit k u = (if t.pastLimit k then t.makeStale k else t, plain .ok) := by
  rw [writeTankAt_eq, if_neg hin, if_neg fun h => h.1 hc, updTank_eq_self (Tank.fitted_of_grout hg capacity), ht]

theorem pastLimit_write {s : State} {k : TankId} {e : TankEntry} :
    ({ s with tankTable := s.tankTable.set k e } : State).pastLimit k = true ↔
      (s.tanks.get k).state = .stocked ∧ (s.tanks.get k).birth.getD 0 + e.ageLimit * 60 ≤ s.runSeconds := by
  rw [State.pastLimit_iff, State.IsDue, PerTank.get_set_self]

end Tanks

/-- Settles O53: each clause is the equation of its owner, between the silence timer restarted and the answer begun. -/
theorem tanksEmptyFitAndAge : Obligations.TanksEmptyFitAndAge := by
  intro s k capacity limit hf tank holds past stale
  refine ⟨fun n hn => ⟨?_, ?_⟩, exec_dump hf k, fun hr => ?_, fun hc hlo hhi => ⟨fun hg hne => ?_, fun hg he => ?_,
    fun hg => ?_⟩, ?_⟩
  · exact congrArg Host.Outcome.next (request_noTank hf 0x21 (by decide) dumpAt hn)
  · exact congrArg Host.Outcome.next (request_noTank hf 0x55 (by decide) (writeTankAt capacity limit) hn)
  · refine plant_request_unchanged hf 0x55 ?_
    rw [writeTankAt_eq, if_pos hr]
  · refine plant_request_unchanged hf 0x55 ?_
    rw [writeTankAt_eq, if_neg (by omega), if_pos ⟨hne, hg⟩]
  · refine (plant_request hf 0x55 (writeTankAt_grout (by omega) hg he rfl)).trans (congrArg Host.Outcome.next ?_)
    rw [apply_ite (State.respond · _ _)]
    refine if_congr pastLimit_write ?_ rfl
    rw [makeStale_eq, respond_latchAll]
    rfl
  · exact plant_request hf 0x55 (writeTankAt_no_grout (by omega) hg)
  · exact congrArg Host.Outcome.next (if_congr State.pastLimit_iff (makeStale_eq s k) rfl)

end Sys2Proof.Machine


/-! PROOF of O13. The bytes of each read, field by field. -/

namespace Sys2Proof.Machine

/-! ### What the reads carry (R110, R111, R132, R142, R162, R166, R181, R184, R185, R187) -/

theorem restartSilence_supervision (s : State) (p q : Port) :
    ((s.restartSilence p).port.get q).supervision = (s.port.get q).supervision := by
  rw [State.restartSilence, State.updPort_port, PerPort.get_upd]
  split <;> simp_all [PortState.restartSilence]

theorem restartSilence_note (s : State) (p : Port) :
    ((s.restartSilence p).port.get p).note = (s.port.get p).note := by
  rw [State.restartSilence, State.updPort_port, PerPort.get_upd_self, PortState.restartSilence]

theorem noteBytes_restartSilence (s : State) (p : Port) : (s.restartSilence p).noteBytes p = s.noteBytes p := by
  rw [State.noteBytes, restartSilence_note, State.noteBytes]

theorem statusBytes_restartSilence (s : State) (p : Port) : (s.restartSilence p).statusBytes = s.statusBytes := by
  simp only [State.statusBytes, restartSilence_supervision]
  rfl

theorem readOpenAt_restartSilence (s : State) (p : Port) (l : LineId) :
    readOpenAt l (s.restartSilence p) = (s.restartSilence p, orAbsent ((s.openRec.get l).map Record.bytes)) := rfl

theorem readCaptureAt_restartSilence (s : State) (p : Port) (l : LineId) :
    readCaptureAt l (s.restartSilence p) = (s.restartSilence p, orAbsent ((s.capture.get l).map Capture.bytes)) := rfl

/-- The age of a tank as it is sent: 0 where the tank holds no grout (R103, R182). -/
theorem orZero_tankAge (s : State) (k : TankId) :
    orZero (s.tankAge k) =
      if ((s.tanks.get k).state == .stocked || (s.tanks.get k).state == .stale) = true
      then s.runSeconds - (s.tanks.get k).birth.getD 0 else 0 := by
  unfold State.tankAge
  split <;> simp [orZero, *]

/-- The time to stale as it is sent: 0 where the tank is not STOCKED (R110, R182). -/
theorem orZero_timeToStale (s : State) (k : TankId) :
    orZero (s.timeToStale k) =
      if (s.tanks.get k).state = .stocked then s.expiryMoment k - s.runSeconds else 0 := by
  unfold State.timeToStale
  split <;> simp [orZero, *]

theorem MixStep.length_bytes (m : MixStep) : m.bytes.length = 10 := by
  simp [MixStep.bytes, ClockTime.bytes, u8, u16, u32]

theorem ConnEntry.length_bytes (c : ConnEntry) : c.bytes.length = 8 := by
  simp [ConnEntry.bytes, ClockTime.bytes, u16]

theorem length_testBytes (t : Option TestResult) : (testBytes t).length = 16 := by
  cases t <;> simp [testBytes, u16, u32]

theorem Record.length_headBytes (r : Record) : r.headBytes.length = 24 := by
  simp [Record.headBytes, u8, u16, u32]

theorem Record.length_midBytes (r : Record) : r.midBytes.length = 41 := by
  simp [Record.midBytes, length_testBytes, u8, u16, u32]

theorem Record.length_tailBytes (r : Record) : r.tailBytes.length = 29 := by
  simp [Record.tailBytes, ClockTime.bytes, u8, u16, u32]

theorem Record.length_bytes (r : Record) :
    r.bytes.length = 94 + 10 * r.steps.length + 8 * r.connections.length := by
  simp [Record.bytes, length_headBytes, length_midBytes, length_tailBytes, List.length_flatMap,
    MixStep.length_bytes, ConnEntry.length_bytes]
  omega

theorem Capture.length_bytes (c : Capture) : c.bytes.length = 16 := by
  simp [Capture.bytes, Stamp.bytes, ClockTime.bytes, yesNo, u8, u16]

theorem State.tankBytes_eq (s : State) (k : TankId) :
    s.tankBytes k =
      be 1 (s.tanks.get k).state.code ++ be 1 ((s.tanks.get k).mix.getD 0) ++ be 4 (s.tanks.get k).level ++
      be 2 (s.tankTable.get k).capacity ++ be 1 (s.tankTable.get k).ageLimit ++
      be 4 (if ((s.tanks.get k).state == .stocked || (s.tanks.get k).state == .stale) = true
        then s.runSeconds - (s.tanks.get k).birth.getD 0 else 0) ++
      be 4 (if (s.tanks.get k).state = .stocked then s.expiryMoment k - s.runSeconds else 0) := by
  rw [State.tankBytes, orZero_tankAge, orZero_timeToStale]
  rfl

theorem State.demandEntryBytes_eq (s : State) (e : DemandEntry) :
    s.demandEntryBytes e =
      be 1 e.mix ++ be 2 e.created.time.day ++ be 3 e.created.time.second ++ be 1 e.created.unset.toNat ++
      be 1 e.waiting.length ++ (e.waiting.flatMap fun l => be 1 l.num) ++ be 4 (s.leastVolume e) := by
  simp [State.demandEntryBytes, Stamp.bytes, ClockTime.bytes, yesNo, u8, u16, u32]

/-- What the record reports of a test that was not made: zeros (R185). -/
def noTest : TestResult := ⟨0, 0, 0, 0, 0, 0, 0, false, false⟩

theorem testBytes_eq (x : Option TestResult) :
    testBytes x =
      be 2 (x.getD noTest).target ++ be 2 (x.getD noTest).duration ++ be 2 (x.getD noTest).elapsed ++
      be 2 (x.getD noTest).samples ++ be 2 (x.getD noTest).mean ++ be 4 (x.getD noTest).volume ++
      be 2 (x.getD noTest).tLu := by
  cases x with
  | none => decide
  | some t => rfl

theorem Record.presence_eq (r : Record) :
    r.presence =
      r.lowestCeiling.isSome.toNat + 2 * r.pf.isSome.toNat + 4 * r.test.isSome.toNat + 8 * r.ending.isSome.toNat := by
  simp only [Record.presence, flagByte]
  omega

theorem Record.flags_eq (r : Record) :
    r.flags =
      r.clamped.toNat + 2 * r.noGauge.toNat + 4 * r.clockUnset.toNat + 8 * (r.test.getD noTest).cutShort.toNat +
      16 * (r.test.getD noTest).lowPressure.toNat := by
  cases h : r.test <;> simp only [Record.flags, flagByte, h, noTest, Option.map, Option.getD] <;> omega

theorem MixStep.bytes_eq : MixStep.bytes = fun m =>
    be 1 m.code ++ be 4 m.volume ++ be 2 m.entered.day ++ be 3 m.entered.second :=
  funext fun _ => (List.append_assoc _ _ _).symm

theorem ConnEntry.bytes_eq : ConnEntry.bytes = fun c =>
    [c.suspects.toByte] ++ be 2 c.rise ++ be 2 c.time.day ++ be 3 c.time.second :=
  funext fun _ => (List.append_assoc _ _ _).symm

/-- Settles O13: a reading request answers its owner's bytes, which are the statement's field by field. -/
theorem readsReportTheirValues : Obligations.ReadsReportTheirValues := by
  intro s p hf
  refine ⟨?_, ?_, ?_, ?_, ?_, fun l => ⟨?_, ?_⟩, fun n hn => ⟨?_, ?_⟩, fun r => ⟨?_, r.length_bytes⟩,
    fun c => ⟨?_, c.length_bytes⟩⟩
  · exact reading_answers hf 0x22 (congrArg (TankId.all.flatMap ·) (funext s.tankBytes_eq))
  · exact reading_answers hf 0x23
      (congrArg (be 1 s.demand.length ++ s.demand.flatMap ·) (funext s.demandEntryBytes_eq))
  · exact reading_answers hf 0x59 rfl
  · refine reading_answers hf 0x4C ((noteBytes_restartSilence s p).trans ?_)
    rw [State.noteBytes]
    cases (s.port.get p).note <;> rfl
  · exact reading_answers hf 0x40 (statusBytes_restartSilence s p)
  · refine congrArg Host.Outcome.next ((request_readAt hf 0x30 (readOpenAt_restartSilence s p l)).trans ?_)
    cases s.openRec.get l <;> rfl
  · refine congrArg Host.Outcome.next ((request_readAt hf 0x34 (readCaptureAt_restartSilence s p l)).trans ?_)
    cases s.capture.get l <;> rfl
  · exact congrArg Host.Outcome.next (request_noLine hf 0x30 (mem_anyPort p) readOpenAt hn)
  · exact congrArg Host.Outcome.next (request_noLine hf 0x34 (mem_anyPort p) readCaptureAt hn)
  · simp only [Record.bytes, Record.headBytes, Record.midBytes, Record.tailBytes, Record.endTime, Record.presence_eq,
      Record.flags_eq, testBytes_eq, MixStep.bytes_eq, ConnEntry.bytes_eq, ClockTime.bytes, u8, u16, u32,
      List.append_assoc]
    rcases r.ending with _ | ⟨_, _, _, _, reason, _ | origin⟩
    · rfl
    · cases reason <;> rfl
    · cases reason <;> cases origin <;> rfl
  · simp [Capture.bytes, Stamp.bytes, ClockTime.bytes, yesNo, u8, u16]

end Sys2Proof.Machine


/-! REFUTATION of O56. The state holds the run seconds as any number, and an advance brings a count above the
greatest one back to it (R180), so that a tank filled above it has a birth yet to come. -/

namespace Sys2Proof.Machine

/-! ### The tank invariant, refuted (R103, R180) -/

/-- Tank 1 stocked at a run-seconds count above the greatest, 4294967295, with an advance of the count in the queue. -/
def countedPast : State :=
  { State.reset with
    tanks := State.reset.tanks.set .t1 ⟨.stocked, some 1, 1000, some 4294967296⟩
    runSeconds := 4294967296
    pending := [.runSecondsAdvance] }

theorem countedPast_tankInv (k : TankId) : countedPast.TankInv k := by
  unfold State.TankInv
  cases k with
  | t1 => exact ⟨by decide, by decide, ⟨1, by decide⟩, by decide, 4294967296, by decide⟩
  | t2 => exact ⟨by decide, by decide, rfl, rfl, rfl⟩
  | t3 => exact ⟨by decide, by decide, rfl, rfl, rfl⟩

/-- The advance brings the count down to its greatest value, below the birth of the grout. -/
theorem step_countedPast :
    ∃ t, step countedPast = .next t ∧ t.tanks.get .t1 = countedPast.tanks.get .t1 ∧ t.runSeconds = 4294967295 :=
  ⟨_, rfl, by decide⟩

theorem State.TankInv.birth_le {s : State} {k : TankId} (h : s.TankInv k) (hs : (s.tanks.get k).state = .stocked) :
    ∀ b ∈ (s.tanks.get k).birth, b ≤ s.runSeconds := by
  obtain ⟨-, -, h⟩ := h
  rw [hs] at h
  obtain ⟨-, -, b, hb, hle⟩ := h
  intro c hc
  cases hb.symm.trans hc
  exact hle

/-- Refutes O56: `countedPast` meets the tank invariant, and the advance of its run seconds leaves tank 1 with a birth
above them. -/
theorem not_tankAndHoldInvariantsAreKept : ¬ Obligations.TankAndHoldInvariantsAreKept := by
  intro h
  obtain ⟨t, ht, htank, hrun⟩ := step_countedPast
  have hinv : t.TankInv .t1 := (h countedPast t ht).1 countedPast_tankInv .t1
  have hle := State.TankInv.birth_le hinv (by rw [htank]; rfl) 4294967296 (by rw [htank]; rfl)
  rw [hrun] at hle
  exact absurd hle (by decide)

end Sys2Proof.Machine


/-! SUPPORT. The hold map: what a merge and a release make of its entries and of coverage, what one operation of the map
latches, and what a merge leaves alone in lines, supply and log. -/

namespace Sys2Proof.Machine

/-! ### Line sets in a byte (R115, R182, R183) -/

theorem namesNoLine_iff {b : Byte} : namesNoLine b = true ↔ 64 ≤ b.toNat := by
  have hb := b.isLt
  simp only [namesNoLine, BitVec.getLsbD, Nat.testBit_eq_decide_div_mod_eq, Bool.or_eq_true, decide_eq_true_eq]
  omega

theorem ofByte_isEmpty_iff {b : Byte} (h : b.toNat ≤ 63) : (LineSet.ofByte b).isEmpty = true ↔ b.toNat = 0 := by
  simp only [LineSet.isEmpty, LineSet.ofByte, PerLine.toList, List.any_cons, List.any_nil, id, BitVec.getLsbD,
    Nat.testBit_eq_decide_div_mod_eq, Bool.not_eq_true', Bool.or_eq_false_iff, decide_eq_false_iff_not, and_true]
  omega

theorem LineSet.get_union (a b : LineSet) (l : LineId) : (a.union b).get l = (a.get l || b.get l) :=
  PerLine.get_mapIdx _ _ _

/-! ### Entries and coverage (R115 to R118) -/

theorem holdMap_set_get_self (m : HoldMap) (key : HoldKey) : m.set key (m.get key) = m := by
  cases key <;> rfl

theorem holdMap_get_set_self (m : HoldMap) (key : HoldKey) (e : Option HoldEntry) : (m.set key e).get key = e := by
  rw [holdMap_get_set, if_pos rfl]

theorem HoldKey.mem_all (key : HoldKey) : key ∈ HoldKey.all := by cases key <;> decide

theorem holdsLine_merged (e : Option HoldEntry) (lines : LineSet) (now : Stamp) (l : LineId) :
    holdsLine (some (mergeEntry e lines now)) l = (holdsLine e l || lines.get l) := by
  cases e with
  | none => simp [mergeEntry, holdsLine]
  | some e => simp [mergeEntry, holdsLine, LineSet.get_union]

/-- A merge covers the lines covered before and the lines merged in (R116, R117). -/
theorem covers_merge_eq (m : HoldMap) (key : HoldKey) (lines : LineSet) (now : Stamp) (l : LineId) :
    (m.merge key lines now).covers l = (m.covers l || lines.get l) := by
  rw [Bool.eq_iff_iff, Bool.or_eq_true]
  constructor
  · intro h
    obtain ⟨j, hj, hl⟩ := covers_iff.mp h
    rw [HoldMap.merge, holdMap_get_set] at hl
    split at hl
    · next hkey =>
      rw [holdsLine_merged, Bool.or_eq_true] at hl
      exact hl.imp_left fun hl => covers_iff.mpr ⟨key, HoldKey.mem_all key, hl⟩
    · exact .inl (covers_iff.mpr ⟨j, hj, hl⟩)
  · rintro (h | h)
    · exact covers_merge h key lines now
    · refine covers_iff.mpr ⟨key, HoldKey.mem_all key, ?_⟩
      rw [HoldMap.merge, holdMap_get_set_self, holdsLine_merged, h, Bool.or_true]

/-! ### One operation of the map (R116) -/

section Operation

variable {s u : State} {k l : LineId}

theorem holdOperation_holds (u : State) (m : HoldMap) : (u.holdOperation m).holds = m := by
  obtain ⟨-, h, -⟩ := holdOperation_steady u m
  exact h

theorem holdOperation_capture (u : State) (m : HoldMap) : (u.holdOperation m).capture = u.capture := by
  obtain ⟨-, -, h⟩ := holdOperation_steady u m
  exact h

/-- An operation that changes no entry changes nothing. -/
theorem holdOperation_self (u : State) : u.holdOperation u.holds = u := if_pos rfl

/-- A latch that stands stays when another is set. -/
theorem AllLatched.latchAll {events : EventSet} (h : AllLatched u events) (e : Event) :
    AllLatched (u.latchAll e) (events ||| e.bit) := by
  intro p
  rw [State.latchAll_port, PerPort.get_mapIdx, PortState.latch]
  refine BitVec.eq_of_getLsbD_eq fun i _ => ?_
  have hi := congrArg (BitVec.getLsbD · i) (h p)
  simp only [BitVec.getLsbD_and, BitVec.getLsbD_or] at hi ⊢
  rw [← Bool.or_and_distrib_right, hi]

theorem allLatched_latchAll (t : State) (e : Event) : AllLatched (t.latchAll e) e.bit := by
  have nothing : AllLatched t 0 := fun _ => BitVec.and_zero
  simpa using nothing.latchAll e

theorem holdOperation_latches {m : HoldMap} (h : m ≠ u.holds) :
    AllLatched (u.holdOperation m) Event.holdChange.bit := by
  rw [State.holdOperation, if_neg h]
  exact allLatched_latchAll _ _

theorem mem_changedLines {before after : HoldMap} {l : LineId} :
    l ∈ changedLines before after ↔ before.covers l ≠ after.covers l := by
  simp [changedLines]

/-- A line whose coverage the new map leaves as it was is not told, and stays as it is (R116). -/
theorem holdOperation_sameLine {m : HoldMap} (h : m.covers l = u.covered l) : SameLine l u (u.holdOperation m) := by
  unfold State.holdOperation
  split
  · exact ⟨rfl, rfl, rfl, rfl, rfl, rfl⟩
  · obtain ⟨-, -, -, same⟩ := tellLines_steady ({ u with holds := m, tellCount := u.tellCount + 1 } : State)
      (tellOrder u.tellCount (changedLines u.holds m))
    exact same l fun hl => mem_changedLines.mp (mem_tellOrder.mp hl) h.symm

/-! #### The lines that a merge covers (R21) -/

/-- What a merge leaves alone beside the lines: tanks, demand queue, log and the two counters (R97, R136). -/
def State.stores (s : State) := (s.tanks, s.demand, s.log, s.nextSeq, s.nextEntry)

theorem writeRate_zero_stores (u : State) (l : LineId) : (u.writeRate l 0 none).stores = u.stores := by
  unfold State.writeRate
  dsimp only
  split <;> rfl

theorem abandonStroke_stores (u : State) (l : LineId) : (u.abandonStroke l).stores = u.stores := by
  unfold State.abandonStroke
  split
  · rfl
  · split <;> rfl

/-- At the end of the test of a covered line no deferred request is taken (R19). -/
theorem runSlot_testEnd_stores (h : u.covered l = true) : (u.runSlot l .testEnd).stores = u.stores := by
  unfold State.runSlot
  split
  · rfl
  · next req _ =>
    split
    · next runs =>
      cases req with
      | charge =>
        have dropped : u.dropsAtRun l .charge = true := h
        dsimp only
        split
        · rfl
        · next taken => exact absurd dropped taken
      | seat _ | test _ _ | inject => cases runs
    · rfl

theorem endTest_stores (h : u.covered l = true) (ending : TestEnd) : (u.endTest l ending).stores = u.stores := by
  have kept : (u.stopDrive l).covered l = true := by
    rw [State.covered, (LineOnly.refl l u).stopDrive.holds]
    exact h
  unfold State.endTest
  dsimp only
  refine Eq.trans (runSlot_testEnd_stores ?_) ?_
  · split <;> exact kept
  · split <;> exact abandonStroke_stores u l

theorem becomeCovered_stores (h : u.covered l = true) : (u.becomeCovered l).stores = u.stores := by
  unfold State.becomeCovered
  split
  · exact writeRate_zero_stores _ l
  · exact writeRate_zero_stores _ l
  · split <;> rfl
  · exact endTest_stores h _
  iterate 6 rfl

theorem tellLine_covered (u : State) (j k : LineId) : (u.tellLine j).covered k = u.covered k := by
  rw [State.covered, (LineOnly.refl j u).tellLine.holds]
  rfl

theorem tellLine_of_covered (h : u.covered l = true) : u.tellLine l = u.becomeCovered l := if_pos h

theorem tellLines_stores {ls : List LineId} (h : ∀ j ∈ ls, u.covered j = true) :
    (u.tellLines ls).stores = u.stores := by
  induction ls generalizing u with
  | nil => rfl
  | cons j ls ih =>
    have told := becomeCovered_stores (h j List.mem_cons_self)
    rw [← tellLine_of_covered (h j List.mem_cons_self)] at told
    refine (ih (u := u.tellLine j) fun k hk => ?_).trans told
    rw [tellLine_covered]
    exact h k (List.mem_cons_of_mem _ hk)

/-- Every line that a merge tells becomes covered. -/
theorem covered_of_mem_told (u : State) (key : HoldKey) (lines : LineSet) (now : Stamp) :
    ∀ j ∈ tellOrder u.tellCount (changedLines u.holds (u.holds.merge key lines now)),
      (u.holds.merge key lines now).covers j = true :=
  fun _ hj => covers_of_mem_changedLines (mem_tellOrder.mp hj) fun hc => covers_merge hc _ _ _

theorem holdOperation_merge_stores (u : State) (key : HoldKey) (lines : LineSet) (now : Stamp) :
    (u.holdOperation (u.holds.merge key lines now)).stores = u.stores := by
  unfold State.holdOperation
  split
  · rfl
  · exact tellLines_stores (u := { u with holds := u.holds.merge key lines now, tellCount := u.tellCount + 1 })
      (covered_of_mem_told u key lines now)

theorem sameSupply_of_stores {t : State} (h : t.stores = s.stores) : SameSupply s t ∧ SameLog s t := by
  simp only [State.stores, Prod.mk.injEq] at h
  obtain ⟨htanks, hdemand, hlog, hseq, hentry⟩ := h
  exact ⟨⟨htanks, hdemand⟩, hlog, hseq, hentry⟩

/-! #### A line in INJECTING that a merge covers is held (R21, R131) -/

theorem writeRate_zero_seq (u : State) (l : LineId) : (u.writeRate l 0 none).seq = u.seq := by
  unfold State.writeRate
  dsimp only
  split <;> rfl

theorem holdLine_lineState (u : State) (l : LineId) (r : Resume) : (u.holdLine l r).lineState l = .held := by
  rw [State.holdLine, State.lineState, writeRate_zero_seq]
  simp [State.enterHeld]

theorem becomeCovered_held (h : u.lineState l = .injecting ∨ u.lineState l = .held) :
    (u.becomeCovered l).lineState l = .held := by
  unfold State.becomeCovered
  rcases h with h | h <;> rw [h]
  · exact holdLine_lineState u l _
  · dsimp only
    split
    · exact h
    · simpa [State.addHold, State.lineState] using h

theorem tellLine_held {j : LineId} (hc : u.covered j = true)
    (h : u.lineState l = .held ∨ j = l ∧ u.lineState l = .injecting) : (u.tellLine j).lineState l = .held := by
  rw [tellLine_of_covered hc]
  by_cases hj : l = j
  · subst hj
    exact becomeCovered_held (h.symm.imp_left And.right)
  · obtain ⟨hseq, -⟩ := (LineOnly.refl j u).becomeCovered.lines l hj
    rw [State.lineState, hseq]
    exact h.resolve_right fun hl => hj hl.1.symm

theorem tellLines_held {ls : List LineId} (hc : ∀ j ∈ ls, u.covered j = true)
    (h : u.lineState l = .held ∨ l ∈ ls ∧ u.lineState l = .injecting) : (u.tellLines ls).lineState l = .held := by
  induction ls generalizing u with
  | nil => exact h.resolve_right fun hl => List.not_mem_nil hl.1
  | cons j ls ih =>
    refine ih (u := u.tellLine j) (fun k hk => ?_) ?_
    · rw [tellLine_covered]
      exact hc k (List.mem_cons_of_mem _ hk)
    · by_cases hj : l = j
      · exact .inl (tellLine_held (hc j List.mem_cons_self) (h.imp_right fun hl => ⟨hj.symm, hl.2⟩))
      · refine h.imp (fun hl => tellLine_held (hc j List.mem_cons_self) (.inl hl)) fun ⟨hm, hl⟩ =>
          ⟨(List.mem_cons.mp hm).resolve_left hj, ?_⟩
        obtain ⟨hseq, -⟩ := (LineOnly.refl j u).tellLine.lines l hj
        rw [State.lineState, hseq]
        exact hl

/-- A line in INJECTING, not covered before, is in HELD after a merge that covers it. -/
theorem holdOperation_merge_held {key : HoldKey} {lines : LineSet} {now : Stamp} (hl : lines.get l = true)
    (hc : u.covered l = false) (hi : u.lineState l = .injecting) :
    (u.holdOperation (u.holds.merge key lines now)).lineState l = .held := by
  have changed : u.holds.covers l ≠ (u.holds.merge key lines now).covers l := by
    rw [covers_merge_eq, hl, Bool.or_true]
    exact fun h => Bool.false_ne_true (hc.symm.trans h)
  rw [State.holdOperation, if_neg fun h => changed (by rw [h])]
  exact tellLines_held (u := { u with holds := u.holds.merge key lines now, tellCount := u.tellCount + 1 })
    (covered_of_mem_told u key lines now) (.inr ⟨mem_tellOrder.mpr (mem_changedLines.mpr changed), hi⟩)

end Operation

end Sys2Proof.Machine


/-! PROOF of O24 and O26. A request of the hold map is the operation of its owner between the silence timer restarted and
the answer begun, `State.holdAnswered`; a map that is the same leaves the answer alone. -/

namespace Sys2Proof.Machine

/-- A request of the hold map answered OK: the operation, and the map as it then stands (R116, R120). -/
def State.holdAnswered (s : State) (p : Port) (code : Nat) (m : HoldMap) : State :=
  ((s.restartSilence p).holdOperation m).respond p ⟨code, .ok, m.bytes⟩

section HoldAnswered

variable {s : State} {p : Port} {code : Nat} {m : HoldMap} {key : HoldKey} {l : LineId}

theorem holdAnswered_holds (s : State) (p : Port) (code : Nat) (m : HoldMap) : (s.holdAnswered p code m).holds = m :=
  holdOperation_holds _ m

theorem holdAnswered_self (s : State) (p : Port) (code : Nat) :
    s.holdAnswered p code s.holds = s.answered p code .ok s.holds.bytes := by
  rw [State.holdAnswered, show s.holds = (s.restartSilence p).holds from rfl, holdOperation_self,
    respond_restartSilence]

theorem holdAnswered_response (s : State) (p : Port) (code : Nat) (m : HoldMap) :
    ((s.holdAnswered p code m).port.get p).response = some ⟨code, .ok, (s.holdAnswered p code m).holds.bytes⟩ := by
  rw [holdAnswered_holds, State.holdAnswered, State.respond, State.updPort_port, PerPort.get_upd_self]

theorem respond_latches (u : State) (p q : Port) (r : Response) :
    ((u.respond p r).port.get q).latches = (u.port.get q).latches := by
  rw [State.respond, State.updPort_port, PerPort.get_upd]
  split <;> rfl

theorem holdAnswered_latches (h : m ≠ s.holds) : AllLatched (s.holdAnswered p code m) Event.holdChange.bit := by
  intro q
  rw [State.holdAnswered, respond_latches]
  exact holdOperation_latches (u := s.restartSilence p) h q

theorem holdAnswered_sameLine (h : m.covers l = s.covered l) : SameLine l s (s.holdAnswered p code m) :=
  holdOperation_sameLine (u := s.restartSilence p) h

theorem holdAnswered_steady (s : State) (p : Port) (code : Nat) (m : HoldMap) :
    SameSettings s (s.holdAnswered p code m) ∧ SameClock s (s.holdAnswered p code m) := by
  obtain ⟨⟨settings, clock, -⟩, -⟩ := holdOperation_steady (s.restartSilence p) m
  exact ⟨settings, clock⟩

/-- An operation that sets one entry: the answer's map, and whether HOLD_CHANGE is latched (R116). -/
theorem holdAnswered_set (s : State) (p : Port) (code : Nat) (key : HoldKey) (e : Option HoldEntry) :
    let t := s.holdAnswered p code (s.holds.set key e)
    t.holds.get key = e ∧ (∀ k, k ≠ key → t.holds.get k = s.holds.get k) ∧
    (t.port.get p).response = some ⟨code, .ok, t.holds.bytes⟩ ∧
    (e ≠ s.holds.get key → AllLatched t Event.holdChange.bit) ∧
    (e = s.holds.get key → t = s.answered p code .ok s.holds.bytes) := by
  intro t
  have holds : t.holds = s.holds.set key e := holdAnswered_holds s p code _
  refine ⟨?_, fun k hk => ?_, holdAnswered_response s p code _, fun he => ?_, fun he => ?_⟩
  · rw [holds, holdMap_get_set_self]
  · rw [holds, holdMap_get_set, if_neg hk]
  · refine holdAnswered_latches fun h => he ?_
    rw [← holdMap_get_set_self s.holds key e, h]
  · have same : s.holds.set key e = s.holds := by rw [he, holdMap_set_get_self]
    change s.holdAnswered p code (s.holds.set key e) = _
    rw [same, holdAnswered_self]

/-! ### HOLD (R117) -/

theorem exec_hold_range (h : s.free p) {b : Byte} (hb : b.toNat = 0 ∨ 64 ≤ b.toNat) :
    exec (.hold p b) s = .next (s.answered p 0x10 .range []) := by
  have refused (u : State) : holdOwner p b u = (u, plain .range) := by
    refine if_pos ?_
    rw [Bool.or_eq_true, namesNoLine_iff]
    by_cases hn : 64 ≤ b.toNat
    · exact .inl hn
    · exact .inr ((ofByte_isEmpty_iff (by omega)).mpr (by omega))
  exact congrArg Host.Outcome.next (request_unchanged h 0x10 (mem_anyPort p) (refused _))

theorem exec_hold (h : s.free p) {b : Byte} (hlow : 1 ≤ b.toNat) (hhigh : b.toNat ≤ 63) :
    exec (.hold p b) s =
      .next (s.holdAnswered p 0x10 (s.holds.merge (requestKey p) (.ofByte b) s.stamp)) := by
  have accepted : ¬(namesNoLine b || (LineSet.ofByte b).isEmpty) = true := by
    rw [Bool.or_eq_true, namesNoLine_iff, ofByte_isEmpty_iff hhigh]
    omega
  change (.next (s.request p 0x10 anyPort (holdOwner p b)) : Result) = _
  rw [request_taken h 0x10 (mem_anyPort p), holdOwner, if_neg accepted]
  simp only [State.mapAnswer, holdOperation_holds]
  rfl

/-- Settles O24: an accepted HOLD is the merge answered; the map decides the latch and the answer, and a merge leaves
the lines whose coverage stays, the supply and the log as they are. -/
theorem holdMergesIntoItsEntry : Obligations.HoldMergesIntoItsEntry := by
  intro s p b h
  refine ⟨exec_hold_range h, fun hlow hhigh => ⟨_, exec_hold h hlow hhigh, ?_⟩⟩
  beta_reduce
  intro key entry
  have hentry : entry = mergeEntry (s.holds.get key) (.ofByte b) s.stamp := by
    simp only [entry]
    cases s.holds.get key <;> rfl
  rw [hentry]
  obtain ⟨hget, hothers, hresponse, hlatch, hsame⟩ :=
    holdAnswered_set s p 0x10 key (some (mergeEntry (s.holds.get key) (.ofByte b) s.stamp))
  have covered (l : LineId) := covers_merge_eq s.holds key (.ofByte b) s.stamp l
  obtain ⟨settings, clock⟩ := holdAnswered_steady s p 0x10 (s.holds.merge key (.ofByte b) s.stamp)
  obtain ⟨supply, log⟩ := sameSupply_of_stores
    (holdOperation_merge_stores (s.restartSilence p) key (.ofByte b) s.stamp)
  refine ⟨hget, hothers, hresponse, fun he => hlatch he.symm, fun he => hsame he.symm, fun l => ?_, fun l hl => ?_,
    settings, clock, supply, log⟩
  · rw [State.covered, holdAnswered_holds]
    exact covered l
  · rw [State.covered, holdAnswered_holds] at hl
    exact holdAnswered_sameLine hl

/-! ### RELEASE_HOLD and RELEASE_CONNECTION (R118, R119) -/

section Release

variable {allowed : List Port} {owner : State → State × Answer} {b : Byte}

/-- Without the entry the answer is ABSENT with the map, and nothing else is done (R118, R119). -/
theorem request_release_absent (h : s.free p) (hp : p ∈ allowed) (ho : ∀ u, owner u = releaseAt key b u)
    (absent : s.holds.get key = none) :
    (.next (s.request p code allowed owner) : Result) = .next (s.answered p code .absent s.holds.bytes) := by
  refine congrArg Host.Outcome.next (request_unchanged h code hp (a := ⟨.absent, s.holds.bytes⟩) ?_)
  rw [ho]
  exact if_pos (Option.isNone_iff_eq_none.mpr absent)

/-- With it the lines are removed and the map is answered (R118, R119). -/
theorem request_release (h : s.free p) (hp : p ∈ allowed) (ho : ∀ u, owner u = releaseAt key b u)
    (present : s.holds.get key ≠ none) :
    (.next (s.request p code allowed owner) : Result) =
      .next (s.holdAnswered p code (s.holds.release key (.ofByte b))) := by
  have there : ¬ ((s.restartSilence p).holds.get key).isNone = true :=
    fun hn => present (Option.isNone_iff_eq_none.mp hn)
  rw [request_taken h code hp, ho, releaseAt, if_neg there]
  simp only [State.mapAnswer, holdOperation_holds]
  rfl

end Release

/-- What the removal of lines from an entry leaves, given the entry it leaves (R116, R118, R120). -/
theorem released_of_entry {lines : LineSet} {e : Option HoldEntry} (he : releaseEntry (s.holds.get key) lines = e) :
    let t := s.holdAnswered p code (s.holds.release key lines)
    t.holds.get key = e ∧ (∀ k, k ≠ key → t.holds.get k = s.holds.get k) ∧
    (t.port.get p).response = some ⟨code, .ok, t.holds.bytes⟩ ∧
    (e ≠ s.holds.get key → AllLatched t Event.holdChange.bit) ∧
    (e = s.holds.get key → t = s.answered p code .ok s.holds.bytes) ∧
    (∀ l, t.covered l = s.covered l → t.lineState l = s.lineState l) ∧
    SameSettings s t ∧ SameClock s t := by
  subst he
  obtain ⟨hget, hothers, hresponse, hlatch, hsame⟩ :=
    holdAnswered_set s p code key (releaseEntry (s.holds.get key) lines)
  refine ⟨hget, hothers, hresponse, hlatch, hsame, fun l hl => ?_, holdAnswered_steady s p code _⟩
  rw [State.covered, holdAnswered_holds] at hl
  obtain ⟨hseq, -⟩ := holdAnswered_sameLine (p := p) (code := code) hl
  exact congrArg Sequencer.state hseq

theorem releaseHoldOwner_range {reason : Nat} {b : Byte} (hr : reason = 0 ∨ 5 < reason ∨ 64 ≤ b.toNat) (u : State) :
    releaseHoldOwner p reason b u = (u, plain .range) := by
  refine if_pos ?_
  simp only [Bool.or_eq_true, namesNoLine_iff, inRange, Bool.not_eq_true', Bool.and_eq_false_iff,
    decide_eq_false_iff_not]
  omega

theorem releaseHoldOwner_accepted {reason : Nat} {b : Byte} (hlow : 1 ≤ reason) (hhigh : reason ≤ 5)
    (hb : b.toNat ≤ 63) (u : State) :
    releaseHoldOwner p reason b u =
      match releaseKey p reason with
      | none => (u, plain .rights)
      | some k => releaseAt k b u := by
  refine if_neg ?_
  simp only [Bool.or_eq_true, namesNoLine_iff, inRange, Bool.not_eq_true', Bool.and_eq_false_iff,
    decide_eq_false_iff_not]
  omega

/-- The key a reason names, as the statement writes it (R118, R182). -/
theorem releaseKey_eq (p : Port) {reason : Nat} (hlow : 1 ≤ reason) (hhigh : reason ≤ 5) :
    releaseKey p reason =
      if reason = 4 then some (silenceKey p) else if reason = p.num then some (requestKey p) else none := by
  interval_cases reason <;> cases p <;> rfl

theorem exec_releaseConnection_range (h : s.free .gallery) {b : Byte} (hb : 64 ≤ b.toNat) :
    exec (.releaseConnection .gallery b) s = .next (s.answered .gallery 0x12 .range []) :=
  congrArg Host.Outcome.next <|
    request_unchanged h 0x12 (by decide) (a := plain .range) (if_pos (namesNoLine_iff.mpr hb))

theorem releaseConnectionOwner_accepted {b : Byte} (hb : b.toNat ≤ 63) (u : State) :
    releaseConnectionOwner b u = releaseAt .watch b u :=
  if_neg (by rw [namesNoLine_iff]; omega)

/-- Settles O26: the checks in their order; then the removal answered, with the entry it leaves. -/
theorem releaseRemovesTheLines : Obligations.ReleaseRemovesTheLines := by
  intro s p reason b h own left released
  have hleft (key : HoldKey) : releaseEntry (s.holds.get key) (.ofByte b) = left (s.holds.get key) := by
    cases s.holds.get key <;> rfl
  have hreleased (key : HoldKey) (code : Nat) :
      released key code (s.holdAnswered p code (s.holds.release key (.ofByte b))) := released_of_entry (hleft key)
  refine ⟨fun hr => ?_, fun hlow hhigh hb => ⟨fun hown => ?_, fun key hkey => ?_⟩, fun hp => ?_⟩
  · exact congrArg Host.Outcome.next (request_unchanged h 0x11 (mem_anyPort p) (releaseHoldOwner_range hr _))
  · have owner := releaseHoldOwner_accepted (p := p) hlow hhigh hb (s.restartSilence p)
    rw [(releaseKey_eq p hlow hhigh).trans hown] at owner
    exact congrArg Host.Outcome.next (request_unchanged h 0x11 (mem_anyPort p) owner)
  · have owner (u : State) : releaseHoldOwner p reason b u = releaseAt key b u := by
      rw [releaseHoldOwner_accepted hlow hhigh hb, (releaseKey_eq p hlow hhigh).trans hkey]
    exact ⟨request_release_absent h (mem_anyPort p) owner, fun present _ =>
      ⟨_, request_release h (mem_anyPort p) owner present, hreleased key 0x11⟩⟩
  · subst hp
    have owner {b : Byte} (hb : b.toNat ≤ 63) := releaseConnectionOwner_accepted hb
    exact ⟨exec_releaseConnection_range h,
      fun hb absent => request_release_absent h (by decide) (owner hb) absent,
      fun hb present _ => ⟨_, request_release h (by decide) (owner hb) present, hreleased .watch 0x12⟩⟩

end HoldAnswered

end Sys2Proof.Machine


/-! PROOF of O7 and O10. The parts of a complete frame, the checks it passes through, and every request command as the
request of its code on the ports allowed. -/

namespace Sys2Proof.Machine

/-! ### A complete frame (R152, R182) -/

/-- A frame with its check bytes (R152). -/
def wholeFrame (n code c1 c2 : Byte) (payload : List Byte) : List Byte :=
  0xA5 :: n :: code :: (payload ++ [c1, c2])

section Frame

variable {s : State} {p : Port} {n code c1 c2 : Byte} {payload : List Byte} {gap : Nat}

theorem statedLength_wholeFrame : statedLength (wholeFrame n code c1 c2 payload) = n.toNat := rfl

theorem length_wholeFrame (h : payload.length = n.toNat) :
    (wholeFrame n code c1 c2 payload).length = 5 + n.toNat := by
  simp only [wholeFrame, List.length_cons, List.length_append, List.length_nil, h]
  omega

theorem isComplete_wholeFrame (h : payload.length = n.toNat) : isComplete (wholeFrame n code c1 c2 payload) = true := by
  rw [isComplete, length_wholeFrame h, statedLength_wholeFrame, Bool.and_eq_true, decide_eq_true_eq, beq_iff_eq]
  omega

theorem framePayload_wholeFrame (h : payload.length = n.toNat) :
    framePayload (wholeFrame n code c1 c2 payload) = payload :=
  List.take_left' h

theorem frameBody_wholeFrame (h : payload.length = n.toNat) :
    frameBody (wholeFrame n code c1 c2 payload) = n :: code :: payload := by
  change (n :: code :: (payload ++ [c1, c2])).take (2 + n.toNat) = _
  rw [Nat.add_comm, List.take_succ_cons, List.take_succ_cons, List.take_left' h]

theorem checkGood_wholeFrame (h : payload.length = n.toNat) :
    checkGood (wholeFrame n code c1 c2 payload) = true ↔ [c1, c2] = be 2 (check (n :: code :: payload)).toNat := by
  have checkBytes : (wholeFrame n code c1 c2 payload).drop (3 + n.toNat) = [c1, c2] := by
    rw [Nat.add_comm]
    exact List.drop_left' h
  rw [checkGood, frameBody_wholeFrame h, statedLength_wholeFrame, checkBytes, beq_iff_eq]
  rfl

/-- The last check byte completes the frame, and the receiver hunts again (R153). -/
theorem exec_lastByte (h : payload.length = n.toNat)
    (hrx : (s.port.get p).rx = .receiving (0xA5 :: n :: code :: (payload ++ [c1])) gap) :
    exec (.byteReceived p c2) s = takeFrame p (wholeFrame n code c1 c2 payload) (s.setReceiver p .hunt) := by
  have whole : (0xA5 :: n :: code :: (payload ++ [c1])) ++ [c2] = wholeFrame n code c1 c2 payload := by
    simp [wholeFrame]
  have long : ¬((wholeFrame n code c1 c2 payload).length = 2 ∧
      Config.maxPayload < statedLength (wholeFrame n code c1 c2 payload)) := by
    rw [length_wholeFrame h]
    omega
  change execByteReceived p c2 s = _
  rw [execByteReceived, hrx]
  dsimp only
  rw [whole, keepByte, if_neg long, if_pos (isComplete_wholeFrame h)]

/-! ### The checks of a complete frame (R154, R155) -/

theorem takeFrame_discarded {frame : List Byte}
    (h : (s.port.get p).response.isSome = true ∨ ¬checkGood frame = true) :
    takeFrame p frame s = .next (s.latchOn p .frameError) := by
  refine if_pos ?_
  rw [Bool.or_eq_true, Bool.not_eq_true']
  exact h.imp_right Bool.eq_false_iff.mpr

theorem decodeRequest_of_length {code : Nat} {bytes : List Byte} (h : requestLength code ≠ some bytes.length) :
    decodeRequest p code bytes = none :=
  if_neg h

/-- A good frame that carries no request (R155 steps 1 and 2). -/
theorem takeFrame_rejected {frame : List Byte} (hs : s.free p) (hgood : checkGood frame = true)
    (h : requestLength (frameCode frame) ≠ some (framePayload frame).length) :
    takeFrame p frame s = .next (s.rejectFrame p (frameCode frame)) := by
  have passes : ¬((s.port.get p).response.isSome || !checkGood frame) = true := by
    rw [hgood, show (s.port.get p).response = none from hs]
    decide
  rw [takeFrame, if_neg passes, decodeRequest_of_length h]

theorem rejectFrame_unknown {code : Nat} (h : requestLength code = none) :
    s.rejectFrame p code = s.answered p code .unknown [] := by
  rw [State.rejectFrame, h]
  exact respond_restartSilence s p code .unknown []

theorem rejectFrame_length {code m : Nat} (h : requestLength code = some m) :
    s.rejectFrame p code = (s.restartSilence p).latchOn p .frameError := by
  rw [State.rejectFrame, h]

theorem setReceiver_response (s : State) (p : Port) (rx : Receiver) :
    ((s.setReceiver p rx).port.get p).response = (s.port.get p).response := by
  rw [State.setReceiver, State.updPort_port, PerPort.get_upd_self]

end Frame

/-- Settles O7: the last byte makes the whole frame, which goes through the checks in their order. -/
theorem completeFramesAreChecked : Obligations.CompleteFramesAreChecked := by
  intro s p n code c1 c2 payload gap hlen _ hrx s1 good
  have hgood : checkGood (wholeFrame n code c1 c2 payload) = true ↔ good := checkGood_wholeFrame hlen
  have hfree (h : s.free p) : s1.free p := (setReceiver_response s p .hunt).trans h
  have hpayload := framePayload_wholeFrame (code := code) (c1 := c1) (c2 := c2) hlen
  have hcode : frameCode (wholeFrame n code c1 c2 payload) = code.toNat := rfl
  rw [exec_lastByte hlen hrx]
  refine ⟨fun h => ?_, fun h hg hunknown => ?_, fun h hg m hm hne => ?_⟩
  · refine takeFrame_discarded ?_
    rwa [setReceiver_response, hgood]
  · rw [takeFrame_rejected (hfree h) (hgood.mpr hg) (by simp [hcode, hunknown]), hcode, rejectFrame_unknown hunknown]
  · rw [takeFrame_rejected (hfree h) (hgood.mpr hg) (by simpa [hcode, hm, hpayload] using hne), hcode,
      rejectFrame_length hm]
    rfl

/-! ### Request commands (R154, R155; the table of section 9.3) -/

/-- Every request command is the request of its code on its port, for the ports the summary allows (log 1). -/
theorem exec_isRequest {i : Instr} {p : Port} {code : Nat} {payload : List Byte} (h : IsRequest i p code payload)
    (s : State) : ∃ owner, exec i s = .next (s.request p code (allowedPorts code) owner) := by
  obtain ⟨hport, hcode⟩ := h
  rw [exec_request (by rw [hport]; rfl)]
  cases i with
  | powerOn | cabinetReset | byteReceived | gapTimerExpiry | responseSent | sample | packerSettleExpiry
  | testTimerExpiry | strokeComplete | strokeWatchExpiry | circulationStaticExpiry | standingTimerExpiry
  | refusalTimerExpiry | silenceTimerExpiry | ageExpiry | clockAdvance | runSecondsAdvance
  | resetInputDeasserted => cases hport
  | _ =>
    cases hport
    cases hcode
    exact ⟨_, rfl⟩

/-- Settles O10: a request is discarded while a response is pending, and is answered RIGHTS on a port not allowed. -/
theorem pendingAndRightsChecks : Obligations.PendingAndRightsChecks := by
  intro s i p code payload h
  obtain ⟨owner, hexec⟩ := exec_isRequest h s
  rw [hexec]
  exact ⟨fun busy => congrArg _ (request_pending busy code _ owner),
    fun free denied => congrArg _ (request_rights free code denied owner)⟩

end Sys2Proof.Machine


/-! PROOF of O20 and O21. PORT_RESET and SUPERVISE change their own port alone; a write of a whole table is taken where
its fields lie in their ranges. -/

namespace Sys2Proof.Machine

/-! ### PORT_RESET and SUPERVISE (R123, R126, R150, R167) -/

section Ports

variable {s : State} {p : Port} {code : Nat}

theorem updPort_respond (s : State) (p : Port) (r : Response) {f : PortState → PortState}
    (hf : ∀ q, { f q with response := some r } = f { q with response := some r }) :
    (s.updPort p f).respond p r = (s.respond p r).updPort p f := by
  simp only [State.respond, State.updPort]
  congr 1
  refine PerPort.ext_get fun q => ?_
  rw [PerPort.get_upd, PerPort.get_upd, PerPort.get_upd, PerPort.get_upd]
  split
  · exact hf _
  · rfl

/-- An owner that changes its own port and answers OK, where the response does not touch what it changes. -/
theorem request_updPort (h : s.free p) (code : Nat) {f : PortState → PortState} {owner : State → State × Answer}
    (ho : owner (s.restartSilence p) = ((s.restartSilence p).updPort p f, plain .ok))
    (hf : ∀ q r, { f q with response := some r } = f { q with response := some r }) :
    s.request p code anyPort owner = (s.answered p code .ok []).updPort p f := by
  rw [request_taken h code (mem_anyPort p), ho, ← respond_restartSilence]
  exact updPort_respond _ p _ fun q => hf q _

theorem oldestOrNext_eq (s : State) : s.oldestOrNext = s.numbers.head?.getD s.nextEntry := by
  rw [State.oldestOrNext, State.numbers, List.head?_map]

/-- A port after PORT_RESET, whose mark goes to the oldest record (R150, R167). -/
def PortState.afterPortReset (mark : Nat) (q : PortState) : PortState :=
  { q with
    latches := 0
    masks := 0xFFFF
    snapshot := none
    note := none
    mark := mark
    missed := 0
    supervision := none
    silence := none }

theorem exec_portReset (h : s.free p) :
    exec (.portReset p) s =
      .next ((s.answered p 0x5C .ok []).updPort p (·.afterPortReset (s.numbers.head?.getD s.nextEntry))) := by
  rw [← oldestOrNext_eq]
  exact congrArg Host.Outcome.next
    (request_updPort h 0x5C (f := (·.afterPortReset s.oldestOrNext)) rfl fun _ _ => rfl)

theorem superviseOwner_range {interval : Nat} (hi : 60 < interval) (u : State) :
    superviseOwner p interval u = (u, plain .range) :=
  if_pos hi

theorem superviseOwner_off (u : State) :
    superviseOwner p 0 u =
      (u.updPort p fun q => { q with supervision := none, silence := none }, plain .ok) :=
  rfl

theorem superviseOwner_armed {interval : Nat} (hlow : 1 ≤ interval) (hhigh : interval ≤ 60) (u : State) :
    superviseOwner p interval u =
      (u.updPort p fun q => { q with supervision := some interval, silence := some 0 }, plain .ok) := by
  rw [superviseOwner, if_neg (by omega), if_neg (by omega)]

theorem answered_port_of_ne {q : Port} (hq : q ≠ p) (s : State) (st : Status) (bytes : List Byte) :
    (s.answered p code st bytes).port.get q = s.port.get q :=
  PerPort.get_upd_of_ne _ hq _

/-- Settles O20: both owners change their own port alone, before the answer begins. -/
theorem portResetAndSupervise : Obligations.PortResetAndSupervise := by
  intro s p interval h
  refine ⟨⟨_, exec_portReset h, rfl, fun q hq => ?_, ?_, ?_⟩, fun hi => ?_, fun hi => ?_, fun hlow hhigh => ?_⟩
  · rw [State.updPort_port, PerPort.get_upd_of_ne _ hq, answered_port_of_ne hq]
  · rw [State.updPort_port, PerPort.get_upd_self]
    rfl
  · rw [State.updPort_port, PerPort.get_upd_self]
    simp [PortState.attention, PortState.afterPortReset]
  · exact congrArg Host.Outcome.next (request_unchanged h 0x14 (mem_anyPort p) (superviseOwner_range hi _))
  · subst hi
    exact congrArg Host.Outcome.next (request_updPort h 0x14 (superviseOwner_off _) fun _ _ => rfl)
  · exact congrArg Host.Outcome.next (request_updPort h 0x14 (superviseOwner_armed hlow hhigh _) fun _ _ => rfl)

end Ports

/-! ### Writes of a whole table (R127, R174 to R176) -/

section Tables

variable {s t : State} {p : Port}

theorem inRange_iff {lo hi n : Nat} : inRange lo hi n = true ↔ lo ≤ n ∧ n ≤ hi := by
  simp [inRange]

/-- An owner that writes where a check holds and answers RANGE where it does not: `t` is the answer with the table
written. -/
theorem request_write (h : s.free p) (code : Nat) {allowed : List Port} (hp : p ∈ allowed)
    {owner : State → State × Answer} {valid : Bool} {u : State} {c : Prop} [Decidable c] (hc : valid = true ↔ c)
    (ho : owner (s.restartSilence p) = if valid then (u, plain .ok) else (s.restartSilence p, plain .range))
    (ht : u.respond p ⟨code, .ok, []⟩ = t) :
    (.next (s.request p code allowed owner) : Result) = .next (if c then t else s.answered p code .range []) := by
  by_cases hv : c
  · rw [if_pos (hc.mpr hv)] at ho
    rw [if_pos hv, request_taken h code hp, ho, ← ht]
    rfl
  · rw [if_neg (mt hc.mp hv)] at ho
    rw [if_neg hv, request_unchanged h code hp ho]
    rfl

theorem bandsValid_iff {q : BandTable} :
    s.bandsValid q = true ↔ q.b1 ≤ 9999 ∧ q.b2 ≤ 9999 ∧ q.b3 ≤ 9999 ∧ q.b1 < q.b2 ∧ q.b2 < q.b3 ∧
      ∀ m ∈ [q.m1, q.m2, q.m3, q.m4, q.m0], s.mixEnabled m = true := by
  simp only [State.bandsValid, Bool.and_eq_true, inRange_iff, decide_eq_true_eq, List.all_eq_true, Nat.zero_le,
    true_and, and_assoc]

theorem timingValid_iff {q : TimingTable} :
    timingValid q = true ↔ 5 ≤ q.packerSettle ∧ q.packerSettle ≤ 600 ∧ 1 ≤ q.chargeStep ∧ q.chargeStep ≤ 15 ∧
      1 ≤ q.flushStep ∧ q.flushStep ≤ 15 ∧ 1 ≤ q.flushFactor ∧ q.flushFactor ≤ 4 ∧
      30 ≤ q.staticTime ∧ q.staticTime ≤ 600 ∧ 1 ≤ q.circStrokes ∧ q.circStrokes ≤ 40 ∧
      60 ≤ q.refusalDwell ∧ q.refusalDwell ≤ 1800 ∧ 1 ≤ q.refusalStep ∧ q.refusalStep ≤ 15 := by
  simp only [timingValid, Bool.and_eq_true, inRange_iff, and_assoc]

theorem envelopeValid_iff {q : EnvelopeTable} :
    envelopeValid q = true ↔ 1000 ≤ q.beta ∧ q.beta ≤ 12000 ∧ 1 ≤ q.tolerance ∧ q.tolerance ≤ 20 ∧ 1 ≤ q.band ∧
      q.band ≤ 30 ∧ 20 ≤ q.rise ∧ q.rise ≤ 2000 ∧ 300 ≤ q.standingLimit ∧ q.standingLimit ≤ 7200 := by
  simp only [envelopeValid, Bool.and_eq_true, inRange_iff, and_assoc]

theorem ceilingValid_iff {ceiling : Nat} :
    (decide (ceiling = 0) || inRange 100 9000 ceiling) = true ↔ ceiling = 0 ∨ 100 ≤ ceiling ∧ ceiling ≤ 9000 := by
  rw [Bool.or_eq_true, decide_eq_true_eq, inRange_iff]

/-- Settles O21: the check of each write is the statement's, and what is written is all that the answer adds to. -/
theorem tableWritesReplaceTheTable : Obligations.TableWritesReplaceTheTable := by
  intro s
  refine ⟨fun q h => ?_, fun q h => ?_, fun q h => ?_, fun l ceiling h => ?_, fun n ceiling h hn => ?_⟩
  · exact request_write h 0x52 (by decide) (bandsValid_iff (s := s.restartSilence .gallery)) rfl rfl
  · exact request_write h 0x53 (by decide) timingValid_iff rfl rfl
  · exact request_write h 0x54 (by decide) envelopeValid_iff rfl rfl
  · exact request_write h 0x13 (by decide) ceilingValid_iff (onLine_num l _ _) rfl
  · exact congrArg Host.Outcome.next (request_noLine h 0x13 (by decide) _ hn)

end Tables

end Sys2Proof.Machine


/-! PROOF of O50. A sample of a line that takes no decision ends with the watch; a detection merges the suspects into the
WATCH entry, which leaves its own line alone, and writes that line's capture, record and baseline. -/

namespace Sys2Proof.Machine

/-! ### A detection at a line (R131 to R133) -/

section Detection

variable {u : State} {l k : LineId} {pe base : Nat} {suspects : LineSet}

/-- The capture record of a detection (R132). -/
def State.captureOf (u : State) (l : LineId) (pe base : Nat) (suspects : LineSet) : Capture where
  line := l
  seqNo := ((u.openRec.get l).map (·.seqNo)).getD 0
  time := u.stamp
  baseline := base
  pressure := pe
  rise := pe - base
  suspects := suspects

/-- The capture stored and the suspects merged into the WATCH entry: steps 1 and 2 of a detection (R131). -/
def State.watchHold (u : State) (l : LineId) (pe base : Nat) (suspects : LineSet) : State :=
  ({ u with capture := u.capture.set l (some (u.captureOf l pe base suspects)) } : State).holdOperation
    (u.holds.merge .watch suspects u.stamp)

/-- The record of a line after a detection: the count raised, and the list grown while it is short (R133). -/
def Record.connected (r : Record) (u : State) (rise : Nat) (suspects : LineSet) : Record :=
  let r' := { r with connCount := satSucc r.connCount }
  if r.connections.length < Config.maxConnections then
    Record.timeWritten { r' with connections := r.connections ++ [⟨suspects, rise, u.now⟩] } u.clock
  else r'

theorem connected_connCount (r : Record) (u : State) (rise : Nat) (suspects : LineSet) :
    (r.connected u rise suspects).connCount = min 65535 (r.connCount + 1) := by
  unfold Record.connected
  dsimp only
  split <;> rfl

theorem connected_connections (r : Record) (u : State) (rise : Nat) (suspects : LineSet) :
    (r.connected u rise suspects).connections =
      if r.connections.length < 4 then r.connections ++ [⟨suspects, rise, ⟨u.clock.day, u.clock.second⟩⟩]
      else r.connections := by
  unfold Record.connected Config.maxConnections
  dsimp only
  split <;> rfl

/-- The steps of R131 in order. -/
theorem detectConnection_eq (u : State) (l : LineId) (pe base : Nat) (suspects : LineSet) :
    u.detectConnection l pe base suspects =
      ((((u.watchHold l pe base suspects).updRec l (·.connected u (pe - base) suspects)).latchAll
        .connection).latchAll .holdChange).updReg l fun g => { g with baseline := some pe } := rfl

theorem detectConnection_holds (u : State) (l : LineId) (pe base : Nat) (suspects : LineSet) :
    (u.detectConnection l pe base suspects).holds = u.holds.merge .watch suspects u.stamp := by
  rw [detectConnection_eq, State.updReg_holds, State.latchAll_holds, State.latchAll_holds, State.updRec_holds,
    State.watchHold, holdOperation_holds]

theorem detectConnection_capture (u : State) (l : LineId) (pe base : Nat) (suspects : LineSet) :
    (u.detectConnection l pe base suspects).capture.get l = some (u.captureOf l pe base suspects) := by
  rw [detectConnection_eq, State.updReg_capture, State.latchAll_capture, State.latchAll_capture,
    State.updRec_capture, State.watchHold, holdOperation_capture, PerLine.get_set_self]

theorem detectConnection_baseline (u : State) (l : LineId) (pe base : Nat) (suspects : LineSet) :
    ((u.detectConnection l pe base suspects).reg.get l).baseline = some pe := by
  rw [detectConnection_eq, State.updReg_reg, PerLine.get_upd_self]

theorem detectConnection_latches (u : State) (l : LineId) (pe base : Nat) (suspects : LineSet) :
    AllLatched (u.detectConnection l pe base suspects) (eventsOf [.connection, .holdChange]) :=
  (allLatched_latchAll _ Event.connection).latchAll .holdChange

/-- A line that is no suspect of its own detection keeps its blocks through the hold (R116). -/
theorem watchHold_sameLine (hl : suspects.get l = false) :
    SameLine l { u with capture := u.capture.set l (some (u.captureOf l pe base suspects)) }
      (u.watchHold l pe base suspects) := by
  refine holdOperation_sameLine ?_
  rw [covers_merge_eq, hl, Bool.or_false]
  rfl

theorem detectConnection_lineState (u : State) (l k : LineId) (pe base : Nat) (suspects : LineSet) :
    (u.detectConnection l pe base suspects).lineState k = (u.watchHold l pe base suspects).lineState k := by
  rw [detectConnection_eq, State.lineState, State.updReg_seq, State.latchAll_seq, State.latchAll_seq, State.updRec_seq]
  rfl

theorem detectConnection_self (hl : suspects.get l = false) :
    (u.detectConnection l pe base suspects).lineState l = u.lineState l := by
  obtain ⟨hseq, -⟩ := watchHold_sameLine (u := u) (pe := pe) (base := base) hl
  rw [detectConnection_lineState]
  exact congrArg Sequencer.state hseq

theorem detectConnection_openRec (hl : suspects.get l = false) :
    (u.detectConnection l pe base suspects).openRec.get l =
      (u.openRec.get l).map (·.connected u (pe - base) suspects) := by
  obtain ⟨-, -, -, hrec, -⟩ := watchHold_sameLine (u := u) (pe := pe) (base := base) hl
  rw [detectConnection_eq, State.updReg_openRec, State.latchAll_openRec, State.latchAll_openRec,
    State.updRec_openRec, PerLine.get_upd_self, hrec]

/-- A suspect in INJECTING is held by the detection (R21, R131). -/
theorem detectConnection_held (hk : suspects.get k = true) (hc : u.covered k = false)
    (hi : u.lineState k = .injecting) : (u.detectConnection l pe base suspects).lineState k = .held := by
  rw [detectConnection_lineState]
  exact holdOperation_merge_held
    (u := { u with capture := u.capture.set l (some (u.captureOf l pe base suspects)) }) hk hc hi

end Detection

/-! ### The watch of a sample (R128, R130) -/

section Watch

variable {s w : State} {l k : LineId} {kPa : Int} {pe base : Nat}

theorem LineSet.get_ofList (ls : List LineId) (k : LineId) : (LineSet.ofList ls).get k = ls.contains k :=
  PerLine.get_mapIdx _ _ _

/-- The suspects as R130 names them. -/
theorem get_suspects (s : State) (l k : LineId) :
    (s.suspects l).get k =
      (((s.lineTable.get l).neighbour1 == some k || (s.lineTable.get l).neighbour2 == some k) &&
        s.lineState k == .injecting && decide (0 < (s.drive.get k).rate)) := by
  rw [State.suspects, LineSet.get_ofList, Bool.eq_iff_iff]
  simp only [LineEntry.neighbours, State.pumping, List.contains_eq_mem, decide_eq_true_eq, List.mem_filter,
    List.mem_append, Option.mem_toList, Bool.and_eq_true, Bool.or_eq_true, beq_iff_eq, and_assoc]

theorem suspect_injecting (h : (s.suspects l).get k = true) : s.lineState k = .injecting := by
  rw [get_suspects, Bool.and_eq_true, Bool.and_eq_true, beq_iff_eq] at h
  obtain ⟨⟨-, injecting⟩, -⟩ := h
  exact injecting

/-- What an armed watch with a baseline makes of a pe (R130). -/
theorem watchSample_eq (harmed : (s.reg.get l).watchArmed = true) (hbase : (s.reg.get l).baseline = some base)
    (pe : Nat) :
    s.watchSample l pe =
      if base + s.envelope.rise ≤ pe ∧ (s.suspects l).isEmpty = false then
        s.detectConnection l pe base (s.suspects l)
      else s := by
  rw [State.watchSample, if_pos harmed, hbase]
  simp only [Bool.and_eq_true, decide_eq_true_eq, Bool.not_eq_true']

/-- A line state in which a sample takes no decision (R66). -/
def LineState.Undecided (x : LineState) : Prop := x ≠ .testing ∧ x ≠ .charging ∧ x ≠ .injecting

/-- A change of a regulator that keeps its pe and its baseline. -/
def KeepsWatch (f : Regulator → Regulator) : Prop := ∀ g, (f g).pe = g.pe ∧ (f g).baseline = g.baseline

theorem accumulate_keepsWatch (pn : Nat) : KeepsWatch (·.accumulate pn) := by
  intro g
  dsimp only [Regulator.accumulate]
  split <;> exact ⟨rfl, rfl⟩

theorem updReg_pe {f : Regulator → Regulator} (hf : KeepsWatch f) : ((w.updReg l f).reg.get l).pe = (w.reg.get l).pe := by
  rw [State.updReg_reg, PerLine.get_upd_self]
  exact (hf _).1

theorem updReg_baseline {f : Regulator → Regulator} (hf : KeepsWatch f) :
    ((w.updReg l f).reg.get l).baseline = (w.reg.get l).baseline := by
  rw [State.updReg_reg, PerLine.get_upd_self]
  exact (hf _).2

/-- The watch keeps the pe that the sample has computed (R57). -/
theorem watched_pe (hw : (s.measured l kPa).handToWatch l (s.peOf l kPa) = w) :
    (w.reg.get l).pe = s.peOf l kPa := by
  have view := handToWatch_sampleView (u := s.measured l kPa) (l := l) (s.peOf l kPa)
  rw [hw] at view
  simp only [State.sampleView, Regulator.sampleView, Prod.mk.injEq, measured_reg] at view
  obtain ⟨⟨-, -, -, -, -, -, hpe, -⟩, -⟩ := view
  exact hpe

/-- Where no decision is taken the sample ends with the watch, but for the accumulation of a test (R57, R66). -/
theorem takeSample_watched (hw : (s.measured l kPa).handToWatch l (s.peOf l kPa) = w)
    (hs : (w.lineState l).Undecided) :
    ∃ f, KeepsWatch f ∧ s.takeSample l (.value kPa) = w.updReg l f ∧
      ((w.updReg l f).reg.get l).pe = s.peOf l kPa := by
  obtain ⟨h1, h2, h3⟩ := hs
  have pe_kept {f : Regulator → Regulator} (hf : KeepsWatch f) := (updReg_pe (w := w) (l := l) hf).trans (watched_pe hw)
  cases hp : s.pressuresOf l kPa with
  | none =>
    have hf : KeepsWatch id := fun _ => ⟨rfl, rfl⟩
    refine ⟨id, hf, ?_, pe_kept hf⟩
    rw [takeSample_of_none hp, hw, updReg_eq_self rfl]
  | some p =>
    have hf := accumulate_keepsWatch p.pn
    refine ⟨_, hf, ?_, pe_kept hf⟩
    rw [takeSample_of_some hp, hw]
    exact decideSample_undecided (s := w.updReg l (·.accumulate p.pn)) h1 h2 h3 _ _

/-- What an armed watch makes of the pe of a sample (R130). -/
theorem handToWatch_armed (harmed : (s.reg.get l).watchArmed = true) (hbase : (s.reg.get l).baseline = some base)
    (hpe : s.peOf l kPa = some pe) :
    (s.measured l kPa).handToWatch l (s.peOf l kPa) =
      if base + s.envelope.rise ≤ pe ∧ (s.suspects l).isEmpty = false then
        (s.measured l kPa).detectConnection l pe base (s.suspects l)
      else s.measured l kPa := by
  rw [hpe]
  exact watchSample_eq (s := s.measured l kPa) (by rw [measured_reg]; exact harmed)
    (by rw [measured_reg]; exact hbase) pe

theorem noting_kept (r : Record) (ceiling : Nat) (pn : Option Nat) :
    (r.noting ceiling pn).seqNo = r.seqNo ∧ (r.noting ceiling pn).connCount = r.connCount ∧
      (r.noting ceiling pn).connections = r.connections := by
  cases pn <;> exact ⟨rfl, rfl, rfl⟩

/-- The record of a sampled line, and what of it a detection reads: as they stood before the sample (R55, R58). -/
theorem measured_record {r : Record} (hr : s.openRec.get l = some r) (kPa : Int) :
    ∃ x, (s.measured l kPa).openRec.get l = some x ∧ x.seqNo = r.seqNo ∧ x.connCount = r.connCount ∧
      x.connections = r.connections := by
  rw [measured_openRec, hr]
  exact ⟨_, rfl, noting_kept r _ _⟩

theorem measured_baseline (s : State) (l : LineId) (kPa : Int) :
    ((s.measured l kPa).reg.get l).baseline = (s.reg.get l).baseline := by
  rw [measured_reg]
  rfl

theorem measured_otherLines (s : State) (l : LineId) (kPa : Int) : SameOtherLines l s (s.measured l kPa) :=
  (((LineOnly.refl l s).updReg _).updRec _).lines

/-- A suspect is in INJECTING, where decisions are taken: a line that takes none is no suspect of its own (R130). -/
theorem not_suspect_of_undecided (hs : (s.lineState l).Undecided) : (s.suspects l).get l = false := by
  obtain ⟨-, -, h3⟩ := hs
  exact Bool.eq_false_iff.mpr fun h => h3 (suspect_injecting h)

end Watch

/-- Settles O50: with the pe computed, the armed watch either makes a detection of what the sample has measured or leaves
it alone; the line takes no decision, so that the sample ends there. -/
theorem connectionIsDetected : Obligations.ConnectionIsDetected := by
  intro s l kPa hinv hstate harmed base hbase r hr e suspect suspects
  rw [Option.mem_def] at hbase hr
  have hs : (s.lineState l).Undecided := by
    rcases hstate with h | h | ⟨h, -⟩ <;> rw [h] <;> exact ⟨by decide, by decide, by decide⟩
  have hoff : s.lineState l ≠ .off := by
    rcases hstate with h | h | ⟨h, -⟩ <;> rw [h] <;> decide
  have hcomputes : s.computesPn l = true := by
    rcases hstate with h | h | ⟨h, hsettled⟩ <;> simp [State.computesPn, *]
  obtain ⟨pe, hpe⟩ := Option.isSome_iff_exists.mp (peOf_isSome (kPa := kPa) hcomputes)
  have hsuspects : suspects = s.suspects l := by
    refine PerLine.ext_get fun k => ?_
    rw [get_suspects]
    cases k <;> rfl
  have hwatch := handToWatch_armed harmed hbase hpe
  refine ⟨s.takeSample l (.value kPa), exec_sample hoff _, fun pe' hpe' => ?_⟩
  rw [hsuspects]
  by_cases detects : base + s.envelope.rise ≤ pe ∧ (s.suspects l).isEmpty = false
  · have hw := hwatch.trans (if_pos detects)
    have hself := not_suspect_of_undecided hs
    obtain ⟨f, hf, ht, hkept⟩ := takeSample_watched hw (by rw [detectConnection_self hself]; exact hs)
    rw [ht, hkept, hpe] at hpe'
    cases hpe'
    obtain ⟨x, hx, hseq, hcount, hlist⟩ := measured_record hr kPa
    have hrec := detectConnection_openRec (u := s.measured l kPa) (pe := pe) (base := base) hself
    rw [hx] at hrec
    rw [ht]
    refine ⟨fun _ _ => ⟨?_, ?_, ?_, ?_, ?_, ?_, fun k hk => ?_⟩, fun quiet => ?_⟩
    · rw [State.updReg_capture, detectConnection_capture, State.captureOf, hx, ← hseq]
      rfl
    · rw [State.updReg_holds, detectConnection_holds]
      rfl
    · exact detectConnection_latches (s.measured l kPa) l pe base (s.suspects l)
    · rw [updReg_baseline hf, detectConnection_baseline]
    · rw [State.updReg_openRec, hrec, ← hcount]
      exact congrArg some (connected_connCount x _ _ _)
    · rw [State.updReg_openRec, hrec, ← hlist]
      exact congrArg some (connected_connections x _ _ _)
    · have hk' := suspect_injecting hk
      have hc : s.covered k = false := Bool.eq_false_iff.mpr fun hc => by
        obtain ⟨-, -, hnot⟩ := (hinv k).uncovered hc
        exact hnot hk'
      have held := detectConnection_held (u := s.measured l kPa) (l := l) (pe := pe) (base := base) hk hc hk'
      rw [State.lineState, State.updReg_seq]
      exact held
    · obtain ⟨hrise, hsome⟩ := detects
      rw [hsome] at quiet
      exact absurd quiet (by simpa using hrise)
  · have hw := hwatch.trans (if_neg detects)
    obtain ⟨f, hf, ht, hkept⟩ := takeSample_watched hw hs
    rw [ht, hkept, hpe] at hpe'
    cases hpe'
    rw [ht]
    refine ⟨fun hrise hsome => absurd ⟨hrise, hsome⟩ detects, fun _ => ⟨rfl, rfl, ?_, fun k hk => ?_, latched_nothing rfl⟩⟩
    · rw [updReg_baseline hf, measured_baseline, hbase]
    · exact (measured_otherLines s l kPa k hk).trans (((LineOnly.refl l _).updReg f).lines k hk)

end Sys2Proof.Machine


/-! SUPPORT. What an operation makes of the stage log: it is `Quiet`, or it closes records (`Closes`), or it moves a
mark or opens a record first (`Extends`). -/

namespace Sys2Proof.Machine

/-! ### The log and the marks kept (R136) -/

theorem State.LogInv.of_eq {s t : State} (h : s.LogInv) (hlog : t.log = s.log) (hnext : t.nextEntry = s.nextEntry)
    (hmark : ∀ p, (t.port.get p).mark = (s.port.get p).mark) : t.LogInv := by
  have numbers : t.numbers = s.numbers := congrArg (List.map Record.number) hlog
  obtain ⟨size, closed, range, run, marks⟩ := h
  refine ⟨hlog ▸ size, hlog ▸ closed, ?_, ?_, fun p => ?_⟩
  · rwa [hnext, numbers]
  · rwa [hnext, numbers]
  · rw [hmark, hnext, numbers]
    exact marks p

/-- The log, the marks, and on which lines a record is open, are the same. -/
structure Quiet (s t : State) : Prop where
  log : t.log = s.log
  nextEntry : t.nextEntry = s.nextEntry
  marks : ∀ p, (t.port.get p).mark = (s.port.get p).mark
  isSome : ∀ l, (t.openRec.get l).isSome = (s.openRec.get l).isSome

theorem Quiet.refl (s : State) : Quiet s s := ⟨rfl, rfl, fun _ => rfl, fun _ => rfl⟩

theorem Quiet.trans {s t u : State} (h : Quiet s t) (k : Quiet t u) : Quiet s u :=
  ⟨k.log.trans h.log, k.nextEntry.trans h.nextEntry, fun p => (k.marks p).trans (h.marks p),
    fun l => (k.isSome l).trans (h.isSome l)⟩

theorem Quiet.openCount {s t : State} (h : Quiet s t) : t.openCount = s.openCount := by
  simp only [State.openCount, h.isSome]

/-- The log is the same, and the marks stay on it. -/
structure LogKept (s t : State) : Prop where
  log : t.log = s.log
  nextEntry : t.nextEntry = s.nextEntry
  inv : s.LogInv → t.LogInv

theorem LogKept.trans {s t u : State} (h : LogKept s t) (k : LogKept t u) : LogKept s u :=
  ⟨k.log.trans h.log, k.nextEntry.trans h.nextEntry, fun hs => k.inv (h.inv hs)⟩

theorem Quiet.kept {s t : State} (h : Quiet s t) : LogKept s t :=
  ⟨h.log, h.nextEntry, fun hs => hs.of_eq h.log h.nextEntry h.marks⟩

/-! ### Records closed (R143, R144) -/

/-- Open records have been closed into the log, no more of them than lines had one, and none has been opened. -/
structure Closes (s t : State) : Prop where
  inv : s.LogInv → t.LogInv
  gained : s.log.length ≤ 32 → ∃ news, Gained s t news ∧ news.length + t.openCount ≤ s.openCount

theorem Gained.of_kept {s t u : State} {news : List Record} (h : LogKept s t) (k : Gained t u news) :
    Gained s u news := by
  obtain ⟨hlen, hlog, hnext, hent, hend⟩ := k
  rw [h.log] at hlog
  rw [h.nextEntry] at hnext hent
  exact ⟨hlen, hlog, hnext, hent, hend⟩

theorem Gained.trans {s t u : State} {a b : List Record} (h : Gained s t a) (k : Gained t u b)
    (hlen : a.length + b.length ≤ 6) : Gained s u (a ++ b) := by
  obtain ⟨-, alog, anext, aent, aend⟩ := h
  obtain ⟨-, blog, bnext, bent, bend⟩ := k
  have iterate (i : Nat) : nextNumber^[i] t.nextEntry = nextNumber^[a.length + i] s.nextEntry := by
    rw [anext, Nat.add_comm, Function.iterate_add_apply]
  refine ⟨by rwa [List.length_append], ?_, ?_, ?_, ?_⟩
  · rw [blog, alog, newest32_newest32_append, List.append_assoc]
  · rw [bnext, iterate, List.length_append]
  · simp only [List.map_append, aent, bent, iterate, List.length_append, List.range_add, List.map_map]
    rfl
  · intro r hr
    exact (List.mem_append.mp hr).elim (aend r) (bend r)

theorem Quiet.closes {s t : State} (h : Quiet s t) : Closes s t := by
  refine ⟨h.kept.inv, fun hs => ⟨[], ⟨Nat.zero_le _, ?_, h.nextEntry, by simp, by simp⟩, ?_⟩⟩
  · rw [List.append_nil, newest32_of_length_le hs, h.log]
  · rw [h.openCount, List.length_nil, Nat.zero_add]

theorem Closes.refl (s : State) : Closes s s := (Quiet.refl s).closes

theorem Closes.trans {s t u : State} (h : Closes s t) (k : Closes t u) : Closes s u := by
  refine ⟨fun hs => k.inv (h.inv hs), fun hs => ?_⟩
  obtain ⟨a, ha, acount⟩ := h.gained hs
  have size : t.log.length ≤ 32 := by
    obtain ⟨-, alog, -⟩ := ha
    rw [alog]
    exact length_newest32_le _
  obtain ⟨b, hb, bcount⟩ := k.gained size
  have := openCount_le s
  refine ⟨a ++ b, ha.trans hb (by omega), ?_⟩
  rw [List.length_append]
  omega

theorem Quiet.thenCloses {s t u : State} (h : Quiet s t) (k : Closes t u) : Closes s u := h.closes.trans k

theorem Closes.thenQuiet {s t u : State} (h : Closes s t) (k : Quiet t u) : Closes s u := h.trans k.closes

/-! ### Records closed after a mark has moved or a record has been opened -/

/-- What a command makes of the log: the marks may move on it and a record may be opened, and then records close. -/
def Extends (s t : State) : Prop := ∃ u, LogKept s u ∧ Closes u t

theorem LogKept.extends {s t : State} (h : LogKept s t) : Extends s t := ⟨t, h, Closes.refl t⟩

theorem Closes.extends {s t : State} (h : Closes s t) : Extends s t := ⟨s, (Quiet.refl s).kept, h⟩

theorem Quiet.extends {s t : State} (h : Quiet s t) : Extends s t := h.closes.extends

theorem Quiet.thenExtends {s t u : State} (h : Quiet s t) (k : Extends t u) : Extends s u := by
  obtain ⟨v, kept, closes⟩ := k
  exact ⟨v, h.kept.trans kept, closes⟩

theorem Extends.thenQuiet {s t u : State} (h : Extends s t) (k : Quiet t u) : Extends s u := by
  obtain ⟨v, kept, closes⟩ := h
  exact ⟨v, kept, closes.thenQuiet k⟩

theorem Extends.inv {s t : State} (h : Extends s t) (hs : s.LogInv) : t.LogInv := by
  obtain ⟨u, kept, closes⟩ := h
  exact closes.inv (kept.inv hs)

theorem Extends.gained {s t : State} (h : Extends s t) (hs : s.log.length ≤ 32) : ∃ news, Gained s t news := by
  obtain ⟨u, kept, closes⟩ := h
  obtain ⟨news, hg, -⟩ := closes.gained (kept.log ▸ hs)
  exact ⟨news, hg.of_kept kept⟩

/-! ### Entry numbers one after another (R143) -/

theorem nextNumber_range {n : Nat} (h : 1 ≤ n ∧ n ≤ 65535) : 1 ≤ nextNumber n ∧ nextNumber n ≤ 65535 := by
  unfold nextNumber
  split <;> omega

theorem runsTo_tail {next n : Nat} {ns : List Nat} (h : runsTo next (n :: ns)) : runsTo next ns := by
  cases ns with
  | nil => trivial
  | cons m ms => exact h.2

theorem runsTo_append {next : Nat} {ns : List Nat} (h : runsTo next ns) : runsTo (nextNumber next) (ns ++ [next]) := by
  induction ns with
  | nil => rfl
  | cons n ns ih =>
    cases ns with
    | nil => exact ⟨h, rfl⟩
    | cons m ms => exact ⟨h.1, ih h.2⟩

/-- The number after one of the run is the next of the run, or the one the run leads to. -/
theorem runsTo_next {next n : Nat} {ns : List Nat} (h : runsTo next ns) (hn : n ∈ ns) :
    nextNumber n = next ∨ nextNumber n ∈ ns := by
  induction ns with
  | nil => cases hn
  | cons k ns ih =>
    obtain rfl | hn := List.mem_cons.mp hn
    · cases ns with
      | nil => exact .inl h
      | cons m ms => exact .inr (by simp [h.1])
    · exact (ih (runsTo_tail h) hn).imp_right (List.mem_cons_of_mem _)

/-! ### A record appended (R143, R144) -/

theorem makeRoom_nextEntry (s : State) (appended : Nat) (quiet : Bool) :
    (s.makeRoom appended quiet).nextEntry = s.nextEntry := by
  unfold State.makeRoom
  split
  · rfl
  · split <;> rfl

theorem entryRemoved_mark (removed newOldest : Nat) (quiet : Bool) (q : PortState) :
    (q.entryRemoved removed newOldest quiet).mark = if q.mark = removed then newOldest else q.mark := by
  unfold PortState.entryRemoved
  split
  · split <;> rfl
  · rfl

/-- Of a full log the oldest record goes, and a mark on it moves to the new oldest. -/
theorem State.LogInv.makeRoom {s : State} (h : s.LogInv) (appended : Nat) (quiet : Bool) :
    (s.makeRoom appended quiet).LogInv ∧ (s.makeRoom appended quiet).log.length < Config.logSize := by
  unfold State.makeRoom
  split
  · next room => exact ⟨h, room⟩
  · next full =>
    obtain ⟨size, closed, range, run, marks⟩ := h
    split
    · next hlog => exact absurd (by simp [hlog, Config.logSize]) full
    · next old rest hlog =>
      rw [hlog, List.length_cons] at size full
      have numbers : s.numbers = old.number :: rest.map Record.number := congrArg (List.map Record.number) hlog
      rw [numbers] at range run marks
      refine ⟨⟨by dsimp only; omega, fun r hr => closed r (hlog ▸ List.mem_cons_of_mem _ hr), fun n hn => range n ?_,
        runsTo_tail run, fun p => ?_⟩, by dsimp only; omega⟩
      · obtain rfl | hn := List.mem_cons.mp hn
        · exact List.mem_cons_self
        · exact List.mem_cons_of_mem _ (List.mem_cons_of_mem _ hn)
      · obtain ⟨oldest, others, hrest⟩ : ∃ r rs, rest = r :: rs :=
          List.exists_cons_of_length_pos (by simp only [Config.logSize] at full; omega)
        dsimp only [State.numbers]
        rw [PerPort.get_mapIdx, entryRemoved_mark]
        split
        · exact .inr (by simp [hrest])
        · next hmark => exact (marks p).imp_right fun hm => (List.mem_cons.mp hm).resolve_left hmark

/-- A closed record appended under the next entry number. -/
theorem State.LogInv.append {s t : State} {r : Record} (h : s.LogInv) (room : s.log.length < Config.logSize)
    (hlog : t.log = s.log ++ [r]) (hnext : t.nextEntry = nextNumber s.nextEntry) (hentry : r.entry = some s.nextEntry)
    (hend : r.ending.isSome = true) (hmark : ∀ p, (t.port.get p).mark = (s.port.get p).mark) : t.LogInv := by
  obtain ⟨size, closed, range, run, marks⟩ := h
  have number : r.number = s.nextEntry := by rw [Record.number, hentry, Option.getD_some]
  have numbers : t.numbers = s.numbers ++ [s.nextEntry] := by
    rw [State.numbers, hlog, List.map_append, List.map_singleton, number, State.numbers]
  refine ⟨?_, fun x hx => ?_, fun n hn => ?_, ?_, fun p => ?_⟩
  · rw [hlog, List.length_append, List.length_singleton]
    omega
  · obtain hx | hx := List.mem_append.mp (hlog ▸ hx)
    · exact closed x hx
    · rw [List.mem_singleton.mp hx, hentry]
      exact ⟨rfl, hend⟩
  · rw [hnext, numbers] at hn
    obtain rfl | hn := List.mem_cons.mp hn
    · exact nextNumber_range (range _ List.mem_cons_self)
    · exact range n (List.perm_append_singleton _ _ |>.mem_iff.mp hn)
  · rw [hnext, numbers]
    exact runsTo_append run
  · rw [hmark, numbers, List.mem_append, List.mem_singleton]
    exact .inr (marks p).symm

end Sys2Proof.Machine


/-! SUPPORT. The stage log through the operations at a line: which are quiet, and which close records. -/

namespace Sys2Proof.Machine

section LogOfLine

variable {u : State} {l : LineId}

/-! #### Primitive changes -/

theorem quiet_updSeq (f : Sequencer → Sequencer) : Quiet u (u.updSeq l f) :=
  ⟨rfl, rfl, fun _ => rfl, fun _ => rfl⟩

theorem quiet_updDrive (f : Drive → Drive) : Quiet u (u.updDrive l f) :=
  ⟨rfl, rfl, fun _ => rfl, fun _ => rfl⟩

theorem quiet_updReg (f : Regulator → Regulator) : Quiet u (u.updReg l f) :=
  ⟨rfl, rfl, fun _ => rfl, fun _ => rfl⟩

theorem quiet_updTank (k : TankId) (f : Tank → Tank) : Quiet u (u.updTank k f) :=
  ⟨rfl, rfl, fun _ => rfl, fun _ => rfl⟩

theorem quiet_setCurrentTank (k : Option TankId) : Quiet u (u.setCurrentTank l k) :=
  ⟨rfl, rfl, fun _ => rfl, fun _ => rfl⟩

theorem quiet_setDemand (q : List DemandEntry) : Quiet u (u.setDemand q) :=
  ⟨rfl, rfl, fun _ => rfl, fun _ => rfl⟩

theorem quiet_updRec (f : Record → Record) : Quiet u (u.updRec l f) := by
  refine ⟨rfl, rfl, fun _ => rfl, fun k => ?_⟩
  rw [State.updRec_openRec, PerLine.get_upd]
  split
  · exact Option.isSome_map
  · rfl

theorem quiet_updPort (p : Port) {f : PortState → PortState} (hf : ∀ q, (f q).mark = q.mark) :
    Quiet u (u.updPort p f) := by
  refine ⟨rfl, rfl, fun k => ?_, fun _ => rfl⟩
  rw [State.updPort_port, PerPort.get_upd]
  split
  · exact hf _
  · rfl

theorem quiet_mapPorts {f : Port → PortState → PortState} (hf : ∀ p q, (f p q).mark = q.mark) :
    Quiet u { u with port := u.port.mapIdx f } :=
  ⟨rfl, rfl, fun p => by rw [PerPort.get_mapIdx, hf], fun _ => rfl⟩

theorem quiet_latchAll (e : Event) : Quiet u (u.latchAll e) := quiet_mapPorts fun _ _ => rfl

theorem quiet_latchUnless (quiet : Bool) (e : Event) : Quiet u (u.latchUnless quiet e) := by
  unfold State.latchUnless
  split
  · exact Quiet.refl u
  · exact quiet_latchAll e

theorem quiet_appendMixStep (code : Nat) : Quiet u (u.appendMixStep l code) := quiet_updRec _

/-! #### Supply, strokes and stops (R22, R24, R32, R33, R36, R37, R101, R109) -/

theorem quiet_payFrom (k : TankId) (e : Nat) : Quiet u (u.payFrom l k e) :=
  (quiet_updTank k _).trans (quiet_setCurrentTank _)

theorem quiet_leaveDemand (quiet : Bool) : Quiet u (u.leaveDemand l quiet) := by
  unfold State.leaveDemand
  dsimp only
  split
  · exact ((quiet_setCurrentTank none).trans (quiet_setDemand _)).trans (quiet_latchUnless quiet _)
  · exact quiet_setCurrentTank none

theorem quiet_abandonStroke : Quiet u (u.abandonStroke l) := by
  unfold State.abandonStroke
  split
  · exact Quiet.refl u
  · split
    · exact (quiet_updRec _).trans (quiet_updDrive _)
    · exact quiet_updDrive _

theorem quiet_stopDrive : Quiet u (u.stopDrive l) := quiet_abandonStroke.trans (quiet_updDrive _)

theorem quiet_addHeld : Quiet u (u.addHeld l) := by
  unfold State.addHeld
  split
  · exact Quiet.refl u
  · exact (quiet_updRec _).trans (quiet_updSeq _)

theorem quiet_dropSlot (quiet : Bool) : Quiet u (u.dropSlot l quiet) := by
  unfold State.dropSlot
  split
  · exact Quiet.refl u
  · exact (quiet_updSeq _).trans (quiet_latchUnless quiet _)

theorem quiet_endTimers : Quiet u (u.endTimers l) := by
  unfold State.endTimers
  dsimp only
  split
  · exact (quiet_addHeld.trans (quiet_updSeq _)).trans (quiet_updReg _)
  · exact (quiet_updSeq _).trans (quiet_updReg _)

theorem quiet_clearCauses (quiet : Bool) : Quiet u (u.clearCauses l quiet) :=
  (quiet_updSeq _).trans (quiet_dropSlot quiet)

theorem quiet_enterFault (cause : FaultCause) : Quiet u (u.enterFault l cause) :=
  (quiet_updSeq _).trans (quiet_latchAll _)

theorem quiet_enterHeld (r : Resume) : Quiet u (u.enterHeld l r) :=
  ((quiet_updSeq _).trans (quiet_updDrive _)).trans (quiet_updReg _)

theorem quiet_supplyWait (mix : Nat) : Quiet u (u.supplyWait l mix) := by
  have waiting (q : List DemandEntry) (f : Drive → Drive) :
      Quiet u (((u.setDemand q).latchAll .supplyWait).updDrive l f) :=
    ((quiet_setDemand q).trans (quiet_latchAll _)).trans (quiet_updDrive f)
  unfold State.supplyWait
  dsimp only
  split
  · exact waiting _ _
  · exact (((waiting _ _).trans (quiet_enterHeld _)).trans (quiet_updSeq _)).trans (quiet_updRec _)

theorem quiet_runStroke (purpose : StrokePurpose) (source : Source) : Quiet u (u.runStroke l purpose source) :=
  (quiet_updDrive _).trans (quiet_updSeq _)

theorem quiet_runGrout (purpose : StrokePurpose) (k : TankId) : Quiet u (u.runGrout l purpose k) :=
  (quiet_runStroke _ _).trans (quiet_updSeq _)

theorem quiet_startGrout (purpose : StrokePurpose) (given : Option TankId) :
    Quiet u (u.startGrout l purpose given) := by
  unfold State.startGrout
  split
  · exact quiet_runGrout _ _
  · split
    · exact Quiet.refl u
    · split
      · exact (quiet_payFrom _ _).trans (quiet_runGrout _ _)
      · exact quiet_supplyWait _

theorem quiet_startStroke (given : Option TankId) : Quiet u (u.startStroke l given) := by
  unfold State.startStroke
  split
  · exact Quiet.refl u
  · exact quiet_runStroke _ _
  · exact quiet_runStroke _ _
  · exact quiet_startGrout _ _
  · exact quiet_startGrout _ _

theorem quiet_nextStroke : Quiet u (u.nextStroke l) := by
  unfold State.nextStroke
  dsimp only
  split
  · exact quiet_startStroke _
  · exact Quiet.refl u

/-- A write of rate step 0 restarts no stroke. -/
theorem quiet_writeZero (given : Option TankId) : Quiet u (u.writeRate l 0 given) := by
  unfold State.writeRate
  dsimp only
  split
  · exact quiet_updDrive _
  · exact quiet_updDrive _

/-! #### The end of a stage (R24, R26, R143, R144) -/

theorem closeRecord_inv (h : u.LogInv) (fin : FinalValues) (reason : EndReason) (origin : Option Port) (quiet : Bool) :
    (u.closeRecord l fin reason origin quiet).LogInv := by
  obtain ⟨roomy, room⟩ := h.makeRoom u.nextEntry quiet
  unfold State.closeRecord
  split
  · exact h
  · refine (quiet_latchUnless quiet .stageEnd).kept.inv (roomy.append room rfl ?_ ?_ rfl fun _ => rfl)
    · exact congrArg nextNumber (makeRoom_nextEntry u _ _).symm
    · rw [makeRoom_nextEntry]
      rfl

theorem closes_closeRecord (fin : FinalValues) (reason : EndReason) (origin : Option Port) (quiet : Bool) :
    Closes u (u.closeRecord l fin reason origin quiet) := by
  refine ⟨fun h => closeRecord_inv h fin reason origin quiet, fun hs => ?_⟩
  have spare : u.openCount + (6 - u.openCount) ≤ 6 := Nat.add_sub_of_le (openCount_le u) |>.le
  obtain ⟨⟨news, hg, -, hcount⟩, -⟩ := (Ledger.start hs spare).closeRecord l fin reason origin quiet
  exact ⟨news, hg, by omega⟩

theorem closes_endStage (reason : EndReason) (origin : Option Port) (quiet : Bool) :
    Closes u (u.endStage l reason origin quiet) :=
  (((quiet_stopDrive.trans (quiet_leaveDemand quiet)).trans quiet_endTimers).trans
    (quiet_clearCauses quiet)).thenCloses (closes_closeRecord _ _ _ _)

theorem closes_lineFault (cause : FaultCause) : Closes u (u.lineFault l cause) := by
  unfold State.lineFault
  split
  iterate 6 exact (closes_endStage _ _ _).thenQuiet (quiet_enterFault cause)
  · exact (((quiet_stopDrive.trans (quiet_updSeq _)).trans (quiet_dropSlot _)).trans (quiet_enterFault cause)).closes
  · exact ((quiet_stopDrive.trans (quiet_updSeq _)).trans (quiet_enterFault cause)).closes
  · exact (quiet_updSeq _).closes
  · exact Closes.refl u

theorem closes_strokeFailure : Closes u (u.strokeFailure l) :=
  (quiet_abandonStroke.trans (quiet_updDrive _)).thenCloses (closes_lineFault _)

/-! #### The rate step written (R31, R36) -/

theorem closes_restartStroke : Closes u (u.restartStroke l) := by
  unfold State.restartStroke
  dsimp only
  split
  · exact (quiet_updDrive _).thenCloses closes_strokeFailure
  · exact (quiet_updDrive _).closes

theorem closes_writeRate (r : Nat) (given : Option TankId) : Closes u (u.writeRate l r given) := by
  unfold State.writeRate
  dsimp only
  split
  · exact (quiet_updDrive _).closes
  · split
    · exact (quiet_updDrive _).closes
    · split
      · exact (quiet_updDrive _).closes
      · split
        · exact (quiet_updDrive _).thenCloses closes_restartStroke
        · exact ((quiet_updDrive _).trans (quiet_startStroke given)).closes

theorem closes_setPurpose (purpose : Purpose) (r : Nat) : Closes u (u.setPurpose l purpose r) :=
  (quiet_updDrive _).thenCloses (closes_writeRate r none)

/-! #### The sequencer (R9 to R25) -/

theorem closes_enterFlushing : Closes u (u.enterFlushing l) :=
  (quiet_updSeq _).thenCloses (closes_setPurpose _ _)

theorem quiet_enterIdle : Quiet u (u.enterIdle l) := quiet_updSeq _

theorem closes_stageEnd (reason : EndReason) (origin : Option Port) : Closes u (u.stageEnd l reason origin) := by
  unfold State.stageEnd
  split
  iterate 4 exact (closes_endStage _ _ _).trans closes_enterFlushing
  iterate 2 exact (closes_endStage _ _ _).thenQuiet quiet_enterIdle
  iterate 4 exact Closes.refl u

theorem closes_leaveHeld (given : Option TankId) : Closes u (u.leaveHeld l given) := by
  unfold State.leaveHeld
  split
  · exact Closes.refl u
  · exact (((quiet_addHeld.trans (quiet_updSeq _)).trans (quiet_updDrive _)).trans (quiet_updReg _)).thenCloses
      (closes_writeRate _ given)

theorem closes_causeRemoved (given : Option TankId) : Closes u (u.causeRemoved l given) := by
  unfold State.causeRemoved
  split
  · exact Closes.refl u
  · split
    · exact (quiet_updSeq _).closes
    · exact closes_leaveHeld given

/-- A SEAT taken opens a record and closes none. -/
theorem kept_takeSeat (q : SeatParams) : LogKept u (u.takeSeat l q) := by
  have opened (v : State) (pmax : Nat) (clamped : Bool) (f : Sequencer → Sequencer) (g : Regulator → Regulator) :
      LogKept v (((v.openRecord l q pmax clamped).updSeq l f).updReg l g) :=
    ⟨rfl, rfl, fun h => h.of_eq rfl rfl fun _ => rfl⟩
  unfold State.takeSeat
  dsimp only
  split
  · exact (quiet_latchAll _).kept.trans (opened _ _ _ _ _)
  · exact opened _ _ _ _ _

theorem closes_takeTest (target duration : Nat) : Closes u (u.takeTest l target duration) :=
  ((quiet_updReg _).trans (quiet_updSeq _)).thenCloses (closes_setPurpose _ _)

theorem closes_takeCharge : Closes u (u.takeCharge l) := by
  have taken (v : State) (f : Record → Record) (code : Nat) (g : Sequencer → Sequencer) (r : Nat) :
      Closes v
        (((((v.updRec l f).appendMixStep l code).updSeq l g).updReg l Regulator.disarm).setPurpose l .charge r) :=
    ((((quiet_updRec f).trans (quiet_appendMixStep code)).trans (quiet_updSeq g)).trans (quiet_updReg _)).thenCloses
      (closes_setPurpose _ _)
  unfold State.takeCharge
  dsimp only
  split
  · exact (quiet_latchAll _).thenCloses (taken _ _ _ _ _)
  · exact taken _ _ _ _ _

theorem closes_takeInject : Closes u (u.takeInject l) :=
  (((quiet_updSeq _).trans (quiet_updDrive _)).trans (quiet_updReg _)).thenCloses (closes_setPurpose _ _)

theorem closes_takeDeferred {req : PendingReq} (hr : ∀ q, req ≠ .seat q) : Closes u (u.takeDeferred l req) := by
  cases req with
  | seat q => exact absurd rfl (hr q)
  | test target duration => exact closes_takeTest target duration
  | charge => exact closes_takeCharge
  | inject => exact closes_takeInject

theorem extends_takeDeferred (req : PendingReq) : Extends u (u.takeDeferred l req) := by
  cases req with
  | seat q => exact (kept_takeSeat q).extends
  | test | charge | inject => exact (closes_takeDeferred (by nofun)).extends

/-- A run point takes nothing, or the request of the slot that runs there (R18 to R20). -/
theorem runSlot_cases (u : State) (l : LineId) (point : RunPoint) :
    Quiet u (u.runSlot l point) ∨
      ∃ req v, req.runsAt point = true ∧ Quiet u v ∧ u.runSlot l point = v.takeDeferred l req := by
  unfold State.runSlot
  split
  · exact .inl (Quiet.refl u)
  · split
    · next req _ hruns =>
      dsimp only
      split
      · exact .inl ((quiet_updSeq _).trans (quiet_latchAll _))
      · exact .inr ⟨req, _, hruns, quiet_updSeq _, rfl⟩
    · exact .inl (Quiet.refl u)

theorem extends_runSlot (point : RunPoint) : Extends u (u.runSlot l point) := by
  obtain h | ⟨req, v, -, hq, h⟩ := runSlot_cases u l point
  · exact h.extends
  · exact h ▸ hq.thenExtends (extends_takeDeferred req)

/-- A SEAT runs at the completion of a flush alone (R18). -/
theorem closes_runSlot {point : RunPoint} (hp : point ≠ .flushCompletion) : Closes u (u.runSlot l point) := by
  obtain h | ⟨req, v, hruns, hq, h⟩ := runSlot_cases u l point
  · exact h.closes
  · refine h ▸ hq.thenCloses (closes_takeDeferred fun q hseat => ?_)
    subst hseat
    cases point with
    | flushCompletion => exact hp rfl
    | settleExpiry | testEnd | chargeCompletion => cases hruns

theorem closes_endTest (ending : TestEnd) : Closes u (u.endTest l ending) := by
  have ended (f : Sequencer → Sequencer) (g : Regulator → Regulator) :
      Quiet u (((u.stopDrive l).updSeq l f).updReg l g) :=
    (quiet_stopDrive.trans (quiet_updSeq f)).trans (quiet_updReg g)
  unfold State.endTest
  dsimp only
  refine Quiet.thenCloses ?_ (closes_runSlot nofun)
  split
  · exact ended _ _
  · exact (ended _ _).trans (quiet_updRec _)

/-! #### Coverage and the hold map (R21, R23, R116) -/

theorem quiet_holdLine (r : Resume) : Quiet u (u.holdLine l r) :=
  (((quiet_enterHeld r).trans (quiet_updSeq _)).trans (quiet_updRec _)).trans (quiet_writeZero none)

theorem quiet_addHold : Quiet u (u.addHold l) := (quiet_updSeq _).trans (quiet_updRec _)

theorem closes_becomeCovered : Closes u (u.becomeCovered l) := by
  unfold State.becomeCovered
  split
  · exact (quiet_holdLine _).closes
  · exact (quiet_holdLine _).closes
  · split
    · exact Closes.refl u
    · exact quiet_addHold.closes
  · exact closes_endTest _
  iterate 6 exact Closes.refl u

theorem closes_becomeUncovered : Closes u (u.becomeUncovered l) := by
  unfold State.becomeUncovered
  split
  · split
    · exact (quiet_updSeq _).thenCloses (closes_causeRemoved none)
    · exact Closes.refl u
  iterate 9 exact Closes.refl u

theorem closes_tellLine : Closes u (u.tellLine l) := by
  unfold State.tellLine
  split
  · exact closes_becomeCovered
  · exact closes_becomeUncovered

/-- Operations that close records, taken one after another. -/
theorem closes_foldl {α β : Type} {f : β → α → β} {state : β → State} (hf : ∀ b a, Closes (state b) (state (f b a)))
    (as : List α) (b : β) : Closes (state b) (state (as.foldl f b)) := by
  induction as generalizing b with
  | nil => exact Closes.refl _
  | cons a as ih => exact (hf b a).trans (ih _)

theorem closes_tellLines (ls : List LineId) : Closes u (u.tellLines ls) :=
  closes_foldl (state := id) (fun _ _ => closes_tellLine) ls u

theorem closes_holdOperation (m : HoldMap) : Closes u (u.holdOperation m) := by
  have mapped : Quiet u { u with holds := m, tellCount := u.tellCount + 1 } :=
    ⟨rfl, rfl, fun _ => rfl, fun _ => rfl⟩
  unfold State.holdOperation
  split
  · exact Closes.refl u
  · exact (mapped.thenCloses (closes_tellLines _)).thenQuiet (quiet_latchAll _)

/-! #### Bursts and completions (R13, R15, R25, R34, R35, R41, R83 to R86) -/

theorem quiet_startCirculate : Quiet u (u.startCirculate l) := quiet_updDrive _

theorem quiet_startBurst : Quiet u (u.startBurst l) :=
  (((quiet_abandonStroke.trans (quiet_updDrive _)).trans quiet_startCirculate).trans (quiet_updSeq _)).trans
    (quiet_updReg _)

theorem closes_endBurst : Closes u (u.endBurst l) := by
  have ended (f : Drive → Drive) (g : Sequencer → Sequencer) :
      Quiet u (((u.updDrive l f).updSeq l g).updReg l Regulator.arm) :=
    ((quiet_updDrive f).trans (quiet_updSeq g)).trans (quiet_updReg _)
  unfold State.endBurst
  dsimp only
  split
  · exact (ended _ _).thenCloses (closes_leaveHeld none)
  · exact (ended _ _).closes

theorem closes_circulateDone : Closes u (u.circulateDone l) := by
  unfold State.circulateDone
  split
  · exact Closes.refl u
  · split
    · exact closes_endBurst
    · exact ((quiet_updDrive _).trans quiet_startCirculate).closes

theorem closes_chargeComplete : Closes u (u.chargeComplete l) := by
  have run : Closes u ((u.writeRate l 0 none).runSlot l .chargeCompletion) :=
    (quiet_writeZero none).thenCloses (closes_runSlot nofun)
  unfold State.chargeComplete
  dsimp only
  split
  · exact run.thenQuiet (((quiet_updSeq _).trans (quiet_updDrive _)).trans (quiet_updReg _))
  · exact run

theorem closes_chargeDone : Closes u (u.chargeDone l) := by
  unfold State.chargeDone
  dsimp only
  split
  · exact (quiet_updSeq _).thenCloses closes_chargeComplete
  · exact (quiet_updSeq _).closes

theorem extends_flushDone : Extends u (u.flushDone l) := by
  unfold State.flushDone State.flushComplete
  dsimp only
  split
  · exact (((quiet_updSeq _).trans (quiet_writeZero none)).trans (quiet_updSeq _)).thenExtends (extends_runSlot _)
  · exact (quiet_updSeq _).extends

theorem quiet_thicken (mix : Nat) : Quiet u (u.thicken l mix) :=
  ((quiet_updSeq _).trans (quiet_appendMixStep mix)).trans (quiet_latchAll _)

theorem quiet_tryThicken (r : Record) : Quiet u (u.tryThicken l r) := by
  unfold State.tryThicken
  split
  · exact Quiet.refl u
  · split
    · split
      · exact quiet_thicken _
      · exact Quiet.refl u
    · exact Quiet.refl u

theorem closes_evaluateInject : Closes u (u.evaluateInject l) := by
  unfold State.evaluateInject
  split
  · exact Closes.refl u
  · split
    · exact closes_stageEnd _ _
    · exact (quiet_tryThicken _).closes

theorem quiet_creditStroke (k : Stroke) : Quiet u (u.creditStroke l k) := by
  unfold State.creditStroke
  split
  · exact quiet_updReg _
  · exact quiet_updRec _
  · exact quiet_updRec _
  · exact Quiet.refl u
  · exact Quiet.refl u

theorem extends_completionAction (purpose : StrokePurpose) : Extends u (u.completionAction l purpose) := by
  cases purpose with
  | test => exact (Quiet.refl u).extends
  | charge => exact closes_chargeDone.extends
  | inject => exact closes_evaluateInject.extends
  | circulate => exact closes_circulateDone.extends
  | flush => exact extends_flushDone

theorem extends_completeStroke (k : Stroke) : Extends u (u.completeStroke l k) := by
  have acted (f : Drive → Drive) : Extends u (((u.creditStroke l k).updDrive l f).completionAction l k.purpose) :=
    ((quiet_creditStroke k).trans (quiet_updDrive f)).thenExtends (extends_completionAction _)
  unfold State.completeStroke
  dsimp only
  split
  · exact acted _
  · exact (acted _).thenQuiet quiet_nextStroke

theorem extends_senseStroke : Extends u (u.senseStroke l) := by
  unfold State.senseStroke
  split
  · split
    · exact extends_completeStroke _
    · exact (Quiet.refl u).extends
  · exact (Quiet.refl u).extends

/-! #### Samples (R47, R57 to R64, R130, R131) and settling (R10, R51) -/

theorem quiet_excursion : Quiet u (u.excursion l) :=
  ((((quiet_writeZero none).trans (quiet_updReg _)).trans (quiet_updRec _)).trans (quiet_latchAll _)).trans
    (quiet_updReg _)

theorem closes_adjustRate (p : Pressures) : Closes u (u.adjustRate l p) := by
  unfold State.adjustRate
  dsimp only
  split
  · exact closes_writeRate _ none
  · split
    · exact closes_writeRate _ none
    · exact Closes.refl u

theorem quiet_refusalStep (p : Pressures) : Quiet u (u.refusalStep l p) := by
  unfold State.refusalStep
  split
  · split
    · exact quiet_updReg _
    · exact quiet_updReg _
  · exact Quiet.refl u

theorem closes_clearStop (r : Nat) : Closes u (u.clearStop l r) :=
  (quiet_updReg _).thenCloses (closes_writeRate r none)

theorem closes_decideInjecting (p : Pressures) (g : Gauge) : Closes u (u.decideInjecting l p g) := by
  unfold State.decideInjecting
  split
  · split
    · exact (closes_clearStop 1).thenQuiet (quiet_refusalStep p)
    · exact (quiet_refusalStep p).closes
  · split
    · exact quiet_excursion.closes
    · exact (closes_adjustRate p).thenQuiet (quiet_refusalStep p)

theorem closes_decideTesting (p : Pressures) (g : Gauge) : Closes u (u.decideTesting l p g) := by
  unfold State.decideTesting
  split
  · exact quiet_excursion.thenCloses (closes_endTest _)
  · exact closes_adjustRate p

theorem closes_decideCharging (p : Pressures) (g : Gauge) : Closes u (u.decideCharging l p g) := by
  unfold State.decideCharging
  split
  · split
    · exact closes_clearStop _
    · exact Closes.refl u
  · split
    · exact quiet_excursion.closes
    · exact Closes.refl u

theorem closes_decideSample (p : Pressures) (g : Gauge) : Closes u (u.decideSample l p g) := by
  unfold State.decideSample
  split
  · exact closes_decideInjecting p g
  · exact closes_decideTesting p g
  · exact closes_decideCharging p g
  iterate 7 exact Closes.refl u

theorem closes_detectConnection (pe base : Nat) (suspects : LineSet) :
    Closes u (u.detectConnection l pe base suspects) := by
  have captured (c : PerLine (Option Capture)) : Quiet u { u with capture := c } :=
    ⟨rfl, rfl, fun _ => rfl, fun _ => rfl⟩
  unfold State.detectConnection
  dsimp only
  exact ((captured _).thenCloses (closes_holdOperation _)).thenQuiet
    ((((quiet_updRec _).trans (quiet_latchAll _)).trans (quiet_latchAll _)).trans (quiet_updReg _))

theorem closes_watchSample (pe : Nat) : Closes u (u.watchSample l pe) := by
  unfold State.watchSample
  split
  · split
    · exact (quiet_updReg _).closes
    · split
      · exact closes_detectConnection _ _ _
      · exact Closes.refl u
  · exact Closes.refl u

theorem closes_handToWatch (pe : Option Nat) : Closes u (u.handToWatch l pe) := by
  cases pe with
  | none => exact Closes.refl u
  | some pe => exact closes_watchSample pe

theorem closes_validSample (kPa : Int) : Closes u (u.validSample l kPa) := by
  unfold State.validSample
  dsimp only
  split
  · exact (quiet_updReg _).thenCloses (closes_handToWatch _)
  · exact ((((quiet_updReg _).trans (quiet_updRec _)).thenCloses (closes_handToWatch _)).thenQuiet
      (quiet_updReg _)).trans (closes_decideSample _ _)

theorem closes_invalidSample : Closes u (u.invalidSample l) := by
  unfold State.invalidSample
  dsimp only
  split
  · exact (quiet_updReg _).thenCloses (closes_lineFault _)
  · exact (quiet_updReg _).closes

theorem closes_takeSample (r : Reading) : Closes u (u.takeSample l r) := by
  unfold State.takeSample
  dsimp only
  split
  · exact (quiet_updReg _).thenCloses (closes_validSample _)
  · exact (quiet_updReg _).thenCloses closes_invalidSample

theorem closes_settle : Closes u (u.settle l) :=
  (((quiet_updSeq _).trans ((quiet_updReg _).trans (quiet_updRec _))).trans (quiet_updReg _)).thenCloses
    (closes_runSlot nofun)

end LogOfLine

end Sys2Proof.Machine


/-! PROOF of O55 and O58. Every command but power-on extends the log, and an idle step leaves it. -/

namespace Sys2Proof.Machine

section LogOfCommand

variable {s u : State}

/-! ### Requests (R154 to R156) -/

theorem quiet_restartSilence (p : Port) : Quiet u (u.restartSilence p) := quiet_updPort p fun _ => rfl

theorem quiet_respond (p : Port) (r : Response) : Quiet u (u.respond p r) := quiet_updPort p fun _ => rfl

theorem quiet_latchOn (p : Port) (e : Event) : Quiet u (u.latchOn p e) := quiet_updPort p fun _ => rfl

/-- A request extends the log if its owner's action does. -/
theorem extends_request {owner : State → State × Answer} (ho : ∀ v, Extends v (owner v).1) (p : Port) (code : Nat)
    (allowed : List Port) : Extends s (s.request p code allowed owner) := by
  obtain h | ⟨r, h | h⟩ := request_cases s p code allowed owner
  · exact h ▸ (quiet_latchOn p _).extends
  · exact h ▸ ((quiet_restartSilence p).trans (quiet_respond p r)).extends
  · exact h ▸ ((quiet_restartSilence p).thenExtends (ho _)).thenQuiet (quiet_respond p r)

theorem extends_lineRequest {f : LineId → State → State × Answer} (hf : ∀ l v, Extends v (f l v).1) (p : Port)
    (line code : Nat) (allowed : List Port) : Extends s (s.request p code allowed (onLine line f)) :=
  extends_request (onLine_induct (fun v => (Quiet.refl v).extends) hf line) p code allowed

theorem extends_tankRequest {f : TankId → State → State × Answer} (hf : ∀ k v, Extends v (f k v).1) (p : Port)
    (tank code : Nat) (allowed : List Port) : Extends s (s.request p code allowed (onTank tank f)) :=
  extends_request (onTank_induct (fun v => (Quiet.refl v).extends) hf tank) p code allowed

/-! ### Requests at a line (R5, R6, R15 to R17, R27) -/

variable {l : LineId}

theorem extends_deferrable (req : PendingReq) : Extends u (deferrable req l u).1 := by
  unfold deferrable
  split
  · exact extends_takeDeferred req
  · exact (quiet_updSeq _).extends
  · exact (Quiet.refl u).extends

theorem closes_finishAt : Closes u (finishAt l u).1 := by
  unfold finishAt
  split
  iterate 6 exact closes_stageEnd _ _
  iterate 4 exact Closes.refl u

theorem closes_abortAt (p : Port) : Closes u (abortAt p l u).1 := by
  unfold abortAt
  split
  · exact closes_stageEnd _ _
  · exact Closes.refl u

theorem closes_clearFaultAt : Closes u (clearFaultAt l u).1 := by
  unfold clearFaultAt
  split
  · exact Closes.refl u
  · split
    · exact Closes.refl u
    · dsimp only
      split
      · exact (quiet_updSeq _).thenCloses closes_enterFlushing
      · exact ((quiet_updSeq _).trans quiet_enterIdle).closes

theorem quiet_circulateAt : Quiet u (circulateAt l u).1 := by
  unfold circulateAt
  split
  · exact quiet_startBurst
  · exact Quiet.refl u

/-! ### Holds and supply (R99, R100, R107, R108, R117 to R119) -/

theorem closes_holdOwner (p : Port) (lines : Byte) : Closes u (holdOwner p lines u).1 := by
  unfold holdOwner
  split
  · exact Closes.refl u
  · exact closes_holdOperation _

theorem closes_releaseAt (k : HoldKey) (lines : Byte) : Closes u (releaseAt k lines u).1 := by
  unfold releaseAt
  split
  · exact Closes.refl u
  · exact closes_holdOperation _

theorem closes_releaseHoldOwner (p : Port) (reason : Nat) (lines : Byte) :
    Closes u (releaseHoldOwner p reason lines u).1 := by
  unfold releaseHoldOwner
  split
  · exact Closes.refl u
  · split
    · exact Closes.refl u
    · exact closes_releaseAt _ lines

theorem closes_releaseConnectionOwner (lines : Byte) : Closes u (releaseConnectionOwner lines u).1 := by
  unfold releaseConnectionOwner
  split
  · exact Closes.refl u
  · exact closes_releaseAt _ lines

theorem closes_freeWaiting (given : Option TankId) : Closes u (u.freeWaiting l given) :=
  ((quiet_setDemand _).trans (quiet_updSeq _)).thenCloses (closes_causeRemoved given)

theorem closes_serveLine (mix : Nat) (acc : State × Nat) (l : LineId) : Closes acc.1 (serveLine mix acc l).1 := by
  unfold serveLine
  dsimp only
  split
  · exact Closes.refl _
  · split
    · exact (quiet_payFrom _ _).thenCloses (closes_freeWaiting _)
    · exact closes_freeWaiting none

theorem closes_serve (mix : Nat) : Closes u (u.serve mix).1 := by
  have served : Closes u ((u.waitingFor mix).foldl (serveLine mix) (u, 0)).1 :=
    closes_foldl (state := Prod.fst) (closes_serveLine mix) _ (u, 0)
  unfold State.serve
  dsimp only
  split
  · exact served.thenQuiet (quiet_setDemand _)
  · exact served.thenQuiet ((quiet_setDemand _).trans (quiet_latchAll _))

theorem closes_deliverAt (mix litres : Nat) (k : TankId) : Closes u (deliverAt mix litres k u).1 := by
  unfold deliverAt
  split
  · dsimp only
    split
    · exact ((quiet_updTank k _).trans (quiet_latchAll _)).thenCloses (closes_serve mix)
    · exact (quiet_updTank k _).thenCloses (closes_serve mix)
  · exact Closes.refl u

theorem quiet_dumpAt (k : TankId) : Quiet u (dumpAt k u).1 := by
  unfold dumpAt
  split
  · exact Quiet.refl u
  · exact Quiet.refl u
  iterate 2 exact quiet_updTank k _

/-! ### The requests of the log (R145, R150) -/

/-- The entries of the log are found under their numbers. -/
theorem logEntry_some {n : Nat} {r : Record} (h : s.logEntry n = some r) : r ∈ s.log ∧ r.number = n := by
  have found : r.entry = some n := by simpa using List.find?_some h
  exact ⟨List.mem_of_find?_eq_some h, by rw [Record.number, found, Option.getD_some]⟩

/-- A mark moved to the next number, or onto a held record. -/
theorem kept_updPort {p : Port} {f : PortState → PortState} {m : Nat} (hf : ∀ q, (f q).mark = m)
    (hm : s.LogInv → m = s.nextEntry ∨ m ∈ s.numbers) : LogKept s (s.updPort p f) := by
  refine ⟨rfl, rfl, fun h => ?_⟩
  have target := hm h
  obtain ⟨size, closed, range, run, marks⟩ := h
  refine ⟨size, closed, range, run, fun q => ?_⟩
  rw [State.updPort_port, PerPort.get_upd]
  split
  · rw [hf]
    exact target
  · exact marks q

theorem kept_markReadOwner (p : Port) (entry : Nat) : LogKept u (markReadOwner p entry u).1 := by
  unfold markReadOwner
  split
  · exact (Quiet.refl u).kept
  · next r hr =>
    obtain ⟨hmem, rfl⟩ := logEntry_some hr
    exact kept_updPort (fun _ => rfl) fun h => runsTo_next h.run (List.mem_map_of_mem hmem)

theorem kept_portResetOwner (p : Port) : LogKept u (portResetOwner p u).1 := by
  refine kept_updPort (m := u.oldestOrNext) (fun _ => rfl) fun _ => ?_
  rw [oldestOrNext_eq]
  cases u.numbers with
  | nil => exact .inl rfl
  | cons n ns => exact .inr List.mem_cons_self

/-! ### The requests that move neither a line nor a mark -/

/-- A request that moves no line, and leaves the marks, is quiet. -/
theorem Aside.quiet {t : State} (h : Aside s t) (hm : ∀ p, (t.port.get p).mark = (s.port.get p).mark) : Quiet s t :=
  ⟨h.log, h.nextEntry, hm, fun _ => by rw [h.openRec]⟩

theorem quiet_setCeilingAt (ceiling : Nat) (l : LineId) : Quiet u (setCeilingAt ceiling l u).1 := by
  refine (setCeilingAt_aside ceiling l u).quiet fun _ => ?_
  unfold setCeilingAt
  split <;> rfl

theorem quiet_superviseOwner (p : Port) (interval : Nat) : Quiet u (superviseOwner p interval u).1 := by
  unfold superviseOwner
  split
  · exact Quiet.refl u
  · split
    · exact quiet_updPort p fun _ => rfl
    · exact quiet_updPort p fun _ => rfl

theorem quiet_readSnapshotOwner (p : Port) (part : Nat) : Quiet u (readSnapshotOwner p part u).1 := by
  unfold readSnapshotOwner
  split
  · exact Quiet.refl u
  · split <;> exact Quiet.refl u

theorem quiet_readSettingsOwner (table index : Nat) : Quiet u (readSettingsOwner table index u).1 := by
  unfold readSettingsOwner
  split <;> exact Quiet.refl u

theorem quiet_noteOwner (p : Port) (code : Nat) : Quiet u (noteOwner p code u).1 := by
  unfold noteOwner
  split
  · exact Quiet.refl u
  · refine (quiet_mapPorts fun q x => ?_).trans (quiet_mapPorts fun q x => ?_)
    · split <;> rfl
    · split <;> rfl

theorem quiet_followEnabled (enabled : Bool) : Quiet u (u.followEnabled l enabled) := by
  unfold State.followEnabled
  split
  · exact (quiet_updSeq _).trans (quiet_updReg _)
  · exact (quiet_updSeq _).trans (quiet_updReg _)
  · exact Quiet.refl u

theorem quiet_writeLineAt (q : LineWrite) (l : LineId) : Quiet u (writeLineAt q l u).1 := by
  have written (m : PerLine LineEntry) : Quiet u { u with lineTable := m } := ⟨rfl, rfl, fun _ => rfl, fun _ => rfl⟩
  unfold writeLineAt
  split
  · exact Quiet.refl u
  · split
    · exact Quiet.refl u
    · exact (written _).trans (quiet_followEnabled _)

theorem quiet_writeMixOwner (code : Nat) (q : MixWrite) : Quiet u (writeMixOwner code q u).1 := by
  refine (writeMixOwner_aside code q u).quiet fun _ => ?_
  unfold writeMixOwner
  split
  · rfl
  · split
    · rfl
    · split <;> rfl

theorem quiet_writeBandsOwner (q : BandTable) : Quiet u (writeBandsOwner q u).1 := by
  refine (writeBandsOwner_aside q u).quiet fun _ => ?_
  unfold writeBandsOwner
  split <;> rfl

theorem quiet_writeTimingOwner (q : TimingTable) : Quiet u (writeTimingOwner q u).1 := by
  refine (writeTimingOwner_aside q u).quiet fun _ => ?_
  unfold writeTimingOwner
  split <;> rfl

theorem quiet_writeEnvelopeOwner (q : EnvelopeTable) : Quiet u (writeEnvelopeOwner q u).1 := by
  refine (writeEnvelopeOwner_aside q u).quiet fun _ => ?_
  unfold writeEnvelopeOwner
  split <;> rfl

theorem quiet_setClockOwner (day second : Nat) : Quiet u (setClockOwner day second u).1 := by
  have written (c : Clock) : Quiet u { u with clock := c, clockPhase := 0 } := ⟨rfl, rfl, fun _ => rfl, fun _ => rfl⟩
  unfold setClockOwner
  split
  · exact Quiet.refl u
  · exact (written _).trans (quiet_latchAll _)

theorem quiet_makeStale (k : TankId) : Quiet u (u.makeStale k) := (quiet_updTank k _).trans (quiet_latchAll _)

theorem quiet_writeTankAt (capacity ageLimit : Nat) (k : TankId) : Quiet u (writeTankAt capacity ageLimit k u).1 := by
  have fitted (m : PerTank TankEntry) : Quiet u (State.updTank { u with tankTable := m } k (·.fitted capacity)) :=
    ⟨rfl, rfl, fun _ => rfl, fun _ => rfl⟩
  unfold writeTankAt
  split
  · exact Quiet.refl u
  · split
    · exact Quiet.refl u
    · dsimp only
      split
      · exact (fitted _).trans (quiet_makeStale k)
      · exact fitted _

/-! ### Every request -/

theorem runRequest_extends {i : Instr} {t : State} (h : runRequest i s = .next t) : Extends s t := by
  cases i with
  | seat p line q => cases h; exact extends_lineRequest (fun _ _ => extends_deferrable _) p line _ _
  | test p line target duration => cases h; exact extends_lineRequest (fun _ _ => extends_deferrable _) p line _ _
  | charge p line => cases h; exact extends_lineRequest (fun _ _ => extends_deferrable _) p line _ _
  | inject p line => cases h; exact extends_lineRequest (fun _ _ => extends_deferrable _) p line _ _
  | finish p line => cases h; exact extends_lineRequest (fun _ _ => closes_finishAt.extends) p line _ _
  | abort p line => cases h; exact extends_lineRequest (fun _ _ => (closes_abortAt p).extends) p line _ _
  | clearFault p line => cases h; exact extends_lineRequest (fun _ _ => closes_clearFaultAt.extends) p line _ _
  | circulate p line => cases h; exact extends_lineRequest (fun _ _ => quiet_circulateAt.extends) p line _ _
  | hold p lines => cases h; exact extends_request (fun _ => (closes_holdOwner p lines).extends) p _ _
  | releaseHold p reason lines =>
    cases h; exact extends_request (fun _ => (closes_releaseHoldOwner p reason lines).extends) p _ _
  | releaseConnection p lines =>
    cases h; exact extends_request (fun _ => (closes_releaseConnectionOwner lines).extends) p _ _
  | setCeiling p line ceiling =>
    cases h; exact extends_lineRequest (fun l _ => (quiet_setCeilingAt ceiling l).extends) p line _ _
  | supervise p interval => cases h; exact extends_request (fun _ => (quiet_superviseOwner p interval).extends) p _ _
  | deliver p tank mix litres =>
    cases h; exact extends_tankRequest (fun k _ => (closes_deliverAt mix litres k).extends) p tank _ _
  | dump p tank => cases h; exact extends_tankRequest (fun k _ => (quiet_dumpAt k).extends) p tank _ _
  | readTanks p | readDemand p | logRange p | status p | readEvents p | readNote p | readClock p | readLog p =>
    cases h; exact extends_request (fun v => (Quiet.refl v).extends) p _ _
  | readOpen p line | readCapture p line =>
    cases h; exact extends_lineRequest (fun _ v => (Quiet.refl v).extends) p line _ _
  | markRead p entry => cases h; exact extends_request (fun _ => (kept_markReadOwner p entry).extends) p _ _
  | portReset p => cases h; exact extends_request (fun _ => (kept_portResetOwner p).extends) p _ _
  | readSnapshot p part => cases h; exact extends_request (fun _ => (quiet_readSnapshotOwner p part).extends) p _ _
  | snapshot p | clearEvents p | setMask p | restart p =>
    cases h; exact extends_request (fun _ => (quiet_updPort p fun _ => by rfl).extends) p _ _
  | note p code => cases h; exact extends_request (fun _ => (quiet_noteOwner p code).extends) p _ _
  | writeLine p line q => cases h; exact extends_lineRequest (fun l _ => (quiet_writeLineAt q l).extends) p line _ _
  | writeMix p code q => cases h; exact extends_request (fun _ => (quiet_writeMixOwner code q).extends) p _ _
  | writeBands p q => cases h; exact extends_request (fun _ => (quiet_writeBandsOwner q).extends) p _ _
  | writeTiming p q => cases h; exact extends_request (fun _ => (quiet_writeTimingOwner q).extends) p _ _
  | writeEnvelope p q => cases h; exact extends_request (fun _ => (quiet_writeEnvelopeOwner q).extends) p _ _
  | writeTank p tank capacity ageLimit =>
    cases h; exact extends_tankRequest (fun k _ => (quiet_writeTankAt capacity ageLimit k).extends) p tank _ _
  | readSettings p table index =>
    cases h; exact extends_request (fun _ => (quiet_readSettingsOwner table index).extends) p _ _
  | setClock p day second => cases h; exact extends_request (fun _ => (quiet_setClockOwner day second).extends) p _ _
  | _ => cases h; exact (Quiet.refl s).extends

/-! ### The link (R153 to R155) -/

theorem quiet_setReceiver (p : Port) (rx : Receiver) : Quiet u (u.setReceiver p rx) := quiet_updPort p fun _ => rfl

theorem quiet_dropFrame (p : Port) : Quiet u (u.dropFrame p) := (quiet_setReceiver p _).trans (quiet_latchOn p _)

theorem quiet_rejectFrame (p : Port) (code : Nat) : Quiet u (u.rejectFrame p code) := by
  unfold State.rejectFrame
  dsimp only
  split
  · exact (quiet_restartSilence p).trans (quiet_respond p _)
  · exact (quiet_restartSilence p).trans (quiet_latchOn p _)

theorem takeFrame_extends {p : Port} {frame : List Byte} {t : State} (h : takeFrame p frame s = .next t) :
    Extends s t := by
  unfold takeFrame at h
  split at h
  · cases h
    exact (quiet_latchOn p _).extends
  · split at h
    · exact runRequest_extends h
    · cases h
      exact (quiet_rejectFrame p _).extends

theorem execByteReceived_extends {p : Port} {b : Byte} {t : State} (h : execByteReceived p b s = .next t) :
    Extends s t := by
  unfold execByteReceived at h
  split at h
  · cases h
    split
    · exact (quiet_setReceiver p _).extends
    · exact (Quiet.refl s).extends
  · unfold keepByte at h
    split at h
    · cases h
      exact (quiet_dropFrame p).extends
    · split at h
      · exact (quiet_setReceiver p _).thenExtends (takeFrame_extends h)
      · cases h
        exact (quiet_setReceiver p _).extends

/-! ### The cabinet reset and the lapse of a port (R28, R125, R149) -/

theorem closes_resetStage (u : State) (l : LineId) : Closes u (u.resetStage l) := by
  unfold State.resetStage
  split
  · exact closes_endStage _ _ _
  · exact Closes.refl u

theorem quiet_resetBlocks : Quiet u u.resetBlocks :=
  ⟨rfl, rfl, (quiet_mapPorts (u := u) (f := fun _ => PortState.cabinetReset) fun _ _ => rfl).marks, fun _ => rfl⟩

theorem closes_cabinetReset : Closes u u.cabinetReset :=
  (closes_foldl (state := id) closes_resetStage LineId.all u).thenQuiet quiet_resetBlocks

theorem closes_lapse (p : Port) : Closes u (u.lapse p) :=
  ((quiet_updPort p fun _ => by rfl).thenCloses (closes_holdOperation _)).thenQuiet (quiet_latchAll _)

/-! ### Every command -/

theorem extends_onEvent (e : Instr) {act : State → State} (h : Extends s (act s)) : Extends s (s.onEvent e act) :=
  onEvent_induct (Quiet.refl s).extends h

/-- Every command but power-on extends the log. -/
theorem exec_extends {i : Instr} {t : State} (hi : i ≠ .powerOn) (h : exec i s = .next t) : Extends s t := by
  have still : Extends s s := (Quiet.refl s).extends
  by_cases hr : (requestPort i).isSome = true
  · rw [exec_request hr] at h
    exact runRequest_extends h
  cases i with
  | powerOn => exact absurd rfl hi
  | cabinetReset =>
    cases h
    split
    · exact still
    · have asserted (v : State) : Quiet v { v with resetAsserted := true } := ⟨rfl, rfl, fun _ => rfl, fun _ => rfl⟩
      exact (closes_cabinetReset.thenQuiet (asserted _)).extends
  | byteReceived p b => exact execByteReceived_extends h
  | gapTimerExpiry p =>
    cases h
    refine extends_onEvent _ ?_
    split
    · exact still
    · exact (quiet_dropFrame p).extends
  | responseSent p =>
    cases h
    have sent : Quiet s (s.updPort p fun q => { q with response := none }) := quiet_updPort p fun _ => rfl
    split
    · exact still
    · split
      · exact (sent.thenCloses closes_cabinetReset).extends
      · exact sent.extends
  | sample l r =>
    cases h
    split
    · exact still
    · exact (closes_takeSample r).extends
  | packerSettleExpiry l =>
    cases h
    refine extends_onEvent _ ?_
    dsimp only
    split
    · exact closes_settle.extends
    · exact still
  | testTimerExpiry l =>
    cases h
    refine extends_onEvent _ ?_
    dsimp only
    split
    · exact (closes_endTest _).extends
    · exact still
  | strokeComplete l =>
    cases h
    exact extends_onEvent _ extends_senseStroke
  | strokeWatchExpiry l =>
    cases h
    refine extends_onEvent _ ?_
    split
    · exact closes_strokeFailure.extends
    · exact still
  | circulationStaticExpiry l =>
    cases h
    refine extends_onEvent _ ?_
    split
    · exact quiet_startBurst.extends
    · exact still
  | standingTimerExpiry l | refusalTimerExpiry l =>
    cases h
    refine extends_onEvent _ ?_
    split
    · exact (closes_stageEnd _ _).extends
    · exact still
  | silenceTimerExpiry p =>
    cases h
    refine extends_onEvent _ ?_
    dsimp only
    split
    · exact (closes_lapse p).extends
    · exact still
  | ageExpiry k =>
    cases h
    split
    · exact (quiet_makeStale k).extends
    · exact still
  | clockAdvance | runSecondsAdvance =>
    cases h
    exact extends_onEvent _ (Quiet.extends ⟨rfl, rfl, fun _ => rfl, fun _ => rfl⟩)
  | resetInputDeasserted =>
    cases h
    exact Quiet.extends ⟨rfl, rfl, fun _ => rfl, fun _ => rfl⟩
  | _ => exact absurd rfl hr

/-! ### The idle step (log 2) -/

theorem quiet_idle : Quiet s s.idle := by
  unfold State.idle
  split
  · exact ⟨rfl, rfl, fun _ => rfl, fun _ => rfl⟩
  · split
    · exact quiet_nextStroke
    · exact ⟨rfl, rfl, (quiet_mapPorts (f := fun _ => PortState.tick) fun _ _ => rfl).marks, fun _ => rfl⟩

end LogOfCommand

/-- The log of the part at power-on is empty, with every mark on its first number (R136). -/
theorem reset_logInv : State.reset.LogInv :=
  ⟨by decide, by decide, by decide, trivial, fun p => .inl (by cases p <;> rfl)⟩

/-- Settles O55: an idle step leaves the log and the marks, power-on empties the log, and every other command extends
it by closed records under the next numbers. -/
theorem logInvariantIsKept : Obligations.LogInvariantIsKept := by
  intro s t hs h
  unfold step at h
  split at h
  · cases h
    exact quiet_idle.kept.inv hs
  · next i rest _ =>
    have taken : Quiet s { s with pending := rest } := ⟨rfl, rfl, fun _ => rfl, fun _ => rfl⟩
    by_cases hi : i = .powerOn
    · subst hi
      cases h
      exact reset_logInv.of_eq rfl rfl fun _ => rfl
    · exact (exec_extends hi h).inv (taken.kept.inv hs)

/-- Settles O58: every command but power-on extends the log. -/
theorem closedRecordsStayAsClosed : Obligations.ClosedRecordsStayAsClosed :=
  fun _ _ _ hi hs h => (exec_extends hi h).gained hs

end Sys2Proof.Machine


/-! PROOF of O14, O15 and O16. The entry numbers of a log in order are all different, so that a record is found under its
number alone. -/

namespace Sys2Proof.Machine

/-! ### Entry numbers are all different (R143) -/

theorem nextNumber_iterate {n : Nat} (h : 1 ≤ n ∧ n ≤ 65535) (k : Nat) :
    nextNumber^[k] n = (n - 1 + k) % 65535 + 1 := by
  induction k with
  | zero =>
    rw [Function.iterate_zero_apply]
    omega
  | succ k ih =>
    rw [Function.iterate_succ_apply', ih, nextNumber]
    split <;> omega

/-- What follows a number of a run is reached from it in as many steps as the run is long, or fewer. -/
theorem runsTo_mem {next n m : Nat} {ns : List Nat} (h : runsTo next (n :: ns)) (hm : m ∈ ns ++ [next]) :
    ∃ k, 1 ≤ k ∧ k ≤ ns.length + 1 ∧ m = nextNumber^[k] n := by
  induction ns generalizing n with
  | nil => exact ⟨1, by omega, by simp, (List.mem_singleton.mp hm).trans h.symm⟩
  | cons x xs ih =>
    obtain ⟨hx, hrun⟩ := h
    obtain rfl | hm := List.mem_cons.mp hm
    · exact ⟨1, by omega, by simp, hx.symm⟩
    · obtain ⟨k, hpos, hle, rfl⟩ := ih hrun hm
      exact ⟨k + 1, by omega, by simpa using hle, by rw [Function.iterate_succ_apply, hx]⟩

theorem runsTo_nodup {next : Nat} {ns : List Nat} (h : runsTo next ns) (range : ∀ n ∈ ns, 1 ≤ n ∧ n ≤ 65535)
    (size : ns.length < 65535) : (ns ++ [next]).Nodup := by
  induction ns with
  | nil => exact List.nodup_singleton next
  | cons n ns ih =>
    rw [List.length_cons] at size
    refine List.nodup_cons.mpr ⟨fun hn => ?_,
      ih (runsTo_tail h) (fun m hm => range m (List.mem_cons_of_mem _ hm)) (by omega)⟩
    obtain ⟨k, hpos, hle, hk⟩ := runsTo_mem h hn
    have bounds := range n List.mem_cons_self
    rw [nextNumber_iterate bounds] at hk
    omega

/-- The number a run ends with leads to the next. -/
theorem runsTo_getLast {next n : Nat} {ns : List Nat} (h : runsTo next ns) (hn : ns.getLast? = some n) :
    nextNumber n = next := by
  induction ns with
  | nil => cases hn
  | cons x xs ih =>
    cases xs with
    | nil =>
      cases hn
      exact h
    | cons y ys => exact ih h.2 (by rwa [List.getLast?_cons_cons] at hn)

section LogRequests

variable {s : State} {p : Port}

theorem State.LogInv.nodup (h : s.LogInv) : (s.numbers ++ [s.nextEntry]).Nodup := by
  refine runsTo_nodup h.run (fun n hn => h.range n (List.mem_cons_of_mem _ hn)) ?_
  have size := h.size
  rw [State.numbers, List.length_map]
  simp only [Config.logSize] at size
  omega

theorem State.LogInv.nextEntry_not_mem (h : s.LogInv) : s.nextEntry ∉ s.numbers := fun hm =>
  List.disjoint_of_nodup_append h.nodup hm (List.mem_singleton_self _)

theorem entry_eq_number {r : Record} (h : r.entry.isSome = true) : r.entry = some r.number := by
  obtain ⟨n, hn⟩ := Option.isSome_iff_exists.mp h
  rw [Record.number, hn, Option.getD_some]

/-! ### The record under a number (R146) -/

theorem State.LogInv.logEntry_number (h : s.LogInv) {r : Record} (hr : r ∈ s.log) : s.logEntry r.number = some r := by
  have found : (s.logEntry r.number).isSome = true := by
    rw [State.logEntry, List.find?_isSome]
    exact ⟨r, hr, by simpa using entry_eq_number (h.closed r hr).1⟩
  obtain ⟨x, hx⟩ := Option.isSome_iff_exists.mp found
  obtain ⟨hmem, hnumber⟩ := logEntry_some hx
  rw [hx, List.inj_on_of_nodup_map (List.nodup_append.mp h.nodup).1 hmem hr hnumber]

theorem logEntry_none {n : Nat} (hn : n ∉ s.numbers) : s.logEntry n = none := by
  cases hx : s.logEntry n with
  | none => rfl
  | some r =>
    obtain ⟨hmem, rfl⟩ := logEntry_some hx
    exact absurd (List.mem_map_of_mem hmem) hn

/-- READ_LOG answers the record under the number, or under the mark for entry 0 (R146). -/
theorem exec_readLog (hf : s.free p) (n : Nat) :
    exec (.readLog p n) s =
      let a := orAbsent ((s.logEntry (if n = 0 then (s.port.get p).mark else n)).map Record.bytes)
      .next (s.answered p 0x31 a.status a.payload) := by
  refine congrArg Host.Outcome.next (request_unchanged hf 0x31 (mem_anyPort p) ?_)
  rw [readLogOwner, (quiet_restartSilence p).marks]
  rfl

/-! ### The range of the log (R147) -/

/-- The records from a number on are those that its place in the numbers leaves; of a number not held, none. -/
theorem length_dropWhile_entry {log : List Record} (closed : ∀ r ∈ log, r.entry.isSome = true) (m : Nat) :
    (log.dropWhile fun r => r.entry != some m).length = log.length - (log.map Record.number).idxOf m := by
  induction log with
  | nil => rfl
  | cons r rs ih =>
    have entry := entry_eq_number (closed r List.mem_cons_self)
    rw [List.map_cons]
    by_cases hm : r.number = m
    · rw [List.dropWhile_cons_of_neg (by simp [entry, hm]), hm, List.idxOf_cons_self, Nat.sub_zero]
    · rw [List.dropWhile_cons_of_pos (by simp [entry, hm]), List.idxOf_cons_ne _ hm,
        ih fun x hx => closed x (List.mem_cons_of_mem _ hx), List.length_cons]
      omega

theorem State.LogInv.unread_mark (h : s.LogInv) (p : Port) :
    s.unread (s.port.get p).mark =
      if (s.port.get p).mark = s.nextEntry then 0 else s.log.length - s.numbers.idxOf (s.port.get p).mark := by
  rw [State.unread, length_dropWhile_entry fun r hr => (h.closed r hr).1]
  split
  · next hmark =>
    rw [hmark, ← State.numbers, List.idxOf_eq_length h.nextEntry_not_mem, State.numbers, List.length_map, Nat.sub_self]
  · rfl

theorem logRangeBytes_restartSilence (s : State) (p : Port) :
    (s.restartSilence p).logRangeBytes p = s.logRangeBytes p := by
  simp only [State.logRangeBytes, State.restartSilence, State.updPort_port, PerPort.get_upd_self]
  rfl

/-! ### The mark read (R145) -/

/-- MARK_READ of a held entry: the mark past it, and the missed count cleared. -/
theorem exec_markRead (hf : s.free p) {n : Nat} {r : Record} (hr : s.logEntry n = some r) :
    exec (.markRead p n) s =
      .next ((s.answered p 0x33 .ok (be 2 (nextNumber n))).updPort p fun q =>
        { q with mark := nextNumber n, missed := 0 }) := by
  have owner : markReadOwner p n (s.restartSilence p) =
      ((s.restartSilence p).updPort p fun q => { q with mark := nextNumber n, missed := 0 },
        ⟨.ok, u16 (nextNumber n)⟩) := by
    have held : (s.restartSilence p).logEntry n = some r := hr
    rw [markReadOwner, held]
  refine congrArg Host.Outcome.next ((request_taken hf 0x33 (mem_anyPort p) _).trans ?_)
  rw [owner, updPort_respond _ _ _ fun _ => rfl, respond_restartSilence]
  rfl

end LogRequests

/-! ### The three requests (R145 to R147) -/

/-- Settles O14: the numbers of the records are all different, and none is 0 or the next number. -/
theorem readLogFindsHeldRecords : Obligations.ReadLogFindsHeldRecords := by
  intro s p hf h
  refine ⟨fun r hr => ?_, fun n hn hmem => ?_, fun r hr hmark => ?_, fun hmark => ?_⟩
  · have nonzero : r.number ≠ 0 := by
      have := h.range r.number (List.mem_cons_of_mem _ (List.mem_map_of_mem hr))
      omega
    rw [exec_readLog hf, if_neg nonzero, h.logEntry_number hr]
    rfl
  · rw [exec_readLog hf, if_neg hn, logEntry_none hmem]
    rfl
  · rw [exec_readLog hf, if_pos rfl, ← hmark, h.logEntry_number hr]
    rfl
  · rw [exec_readLog hf, if_pos rfl, hmark, logEntry_none h.nextEntry_not_mem]
    rfl

/-- Settles O15: the payload is the statement's field by field, the unread count by the mark's place in the numbers. -/
theorem logRangeCountsFromTheMark : Obligations.LogRangeCountsFromTheMark := by
  intro s p hf h
  refine reading_answers hf 0x32 ((logRangeBytes_restartSilence s p).trans ?_)
  rw [State.logRangeBytes, h.unread_mark p, ← List.head?_map, ← List.getLast?_map]
  rfl

/-- Settles O16: a held entry is found, and the number after the newest is the next entry number. -/
theorem markReadMovesTheMark : Obligations.MarkReadMovesTheMark := by
  intro s p n hf h
  refine ⟨fun hn => ?_, fun hn => ?_⟩
  · obtain ⟨r, hr, rfl⟩ := List.mem_map.mp hn
    exact ⟨exec_markRead hf (h.logEntry_number hr), runsTo_getLast h.run⟩
  · have absent : markReadOwner p n (s.restartSilence p) = (s.restartSilence p, plain .absent) := by
      have none : (s.restartSilence p).logEntry n = none := logEntry_none hn
      rw [markReadOwner, none]
    exact congrArg Host.Outcome.next (request_unchanged hf 0x33 (mem_anyPort p) absent)

end Sys2Proof.Machine


/-! PROOF of O60. What each command leaves of the latches of a port, `KeepsLatches`: commands at a line and operations of
the hold map are steady, and of the other requests two clear latches, each on its own port. -/

namespace Sys2Proof.Machine

/-! ### The latches kept (R157) -/

/-- Every event latched on a port is still latched. -/
def KeepsLatches (p : Port) (s t : State) : Prop :=
  (s.port.get p).latches &&& (t.port.get p).latches = (s.port.get p).latches

section Latches

variable {p : Port} {s t u : State} {e : Instr} {act : State → State} {owner : State → State × Answer}

namespace KeepsLatches

theorem of_latches_eq (h : (t.port.get p).latches = (s.port.get p).latches) : KeepsLatches p s t := by
  rw [KeepsLatches, h, BitVec.and_self]

theorem refl (p : Port) (s : State) : KeepsLatches p s s := of_latches_eq rfl

theorem trans (h : KeepsLatches p s t) (k : KeepsLatches p t u) : KeepsLatches p s u := by
  unfold KeepsLatches at *
  rw [← h, BitVec.and_assoc, k]

theorem of_portSteady (h : PortSteady (s.port.get p) (t.port.get p)) : KeepsLatches p s t := by
  rw [KeepsLatches, ← h.latches]
  exact BitVec.eq_of_getLsbD_eq fun i _ => by simpa using Or.inl

theorem steady (h : Steady s t) : KeepsLatches p s t := of_portSteady (h.ports p)

theorem ports (h : t.port = s.port) : KeepsLatches p s t := of_latches_eq (by rw [h])

/-- A change of one port that keeps its latches, or of a port other than the one asked for. -/
theorem updPort (q : Port) {f : PortState → PortState} (hf : p = q → ∀ x, (f x).latches = x.latches) :
    KeepsLatches p s (s.updPort q f) := by
  refine of_latches_eq ?_
  rw [State.updPort_port, PerPort.get_upd]
  split
  · next h => exact hf h _
  · rfl

theorem latchOn (q : Port) (e : Event) : KeepsLatches p s (s.latchOn q e) := by
  refine of_portSteady ?_
  rw [State.latchOn, State.updPort_port, PerPort.get_upd]
  split
  · exact PortSteady.latch _ e
  · exact PortSteady.refl _

theorem latchAll (e : Event) : KeepsLatches p s (s.latchAll e) := steady ((LineOnly.refl .l1 s).latchAll e).steady

theorem onEvent (h : KeepsLatches p s (act s)) : KeepsLatches p s (s.onEvent e act) := onEvent_induct (refl p s) h

/-! ### Requests (R154 to R156) -/

/-- A request keeps the latches if its owner's action does. -/
theorem request (ho : ∀ v, KeepsLatches p v (owner v).1) (q : Port) (code : Nat) (allowed : List Port) :
    KeepsLatches p s (s.request q code allowed owner) := by
  have restarted : KeepsLatches p s (s.restartSilence q) := updPort q fun _ _ => rfl
  have answered (v : State) (r : Response) : KeepsLatches p v (v.respond q r) := updPort q fun _ _ => rfl
  obtain h | ⟨r, h | h⟩ := request_cases s q code allowed owner
  · exact h ▸ latchOn q _
  · exact h ▸ restarted.trans (answered _ r)
  · exact h ▸ (restarted.trans (ho _)).trans (answered _ r)

theorem steadyRequest (ho : ∀ v, Steady v (owner v).1) (q : Port) (code : Nat) (allowed : List Port) :
    KeepsLatches p s (s.request q code allowed owner) :=
  request (fun v => steady (ho v)) q code allowed

theorem lineRequest {f : LineId → State → State × Answer} (hf : ∀ l v, KeepsLatches p v (f l v).1) (q : Port)
    (line code : Nat) (allowed : List Port) : KeepsLatches p s (s.request q code allowed (onLine line f)) :=
  request (onLine_induct (refl p) hf line) q code allowed

theorem steadyLineRequest {f : LineId → State → State × Answer} (hf : ∀ l v, LineOnly l v (f l v).1) (q : Port)
    (line code : Nat) (allowed : List Port) : KeepsLatches p s (s.request q code allowed (onLine line f)) :=
  lineRequest (fun l v => steady (hf l v).steady) q line code allowed

theorem tankRequest {f : TankId → State → State × Answer} (hf : ∀ k v, KeepsLatches p v (f k v).1) (q : Port)
    (tank code : Nat) (allowed : List Port) : KeepsLatches p s (s.request q code allowed (onTank tank f)) :=
  request (onTank_induct (refl p) hf tank) q code allowed

end KeepsLatches

/-! ### The owners that change no line -/

theorem setCeilingAt_port (ceiling : Nat) (l : LineId) : (setCeilingAt ceiling l u).1.port = u.port := by
  unfold setCeilingAt
  split <;> rfl

theorem readSnapshotOwner_port (q : Port) (part : Nat) : (readSnapshotOwner q part u).1.port = u.port := by
  unfold readSnapshotOwner
  split
  · rfl
  · split <;> rfl

theorem readSettingsOwner_port (table index : Nat) : (readSettingsOwner table index u).1.port = u.port := by
  unfold readSettingsOwner
  split <;> rfl

theorem followEnabled_port (l : LineId) (enabled : Bool) : (u.followEnabled l enabled).port = u.port := by
  unfold State.followEnabled
  split <;> rfl

theorem writeLineAt_port (q : LineWrite) (l : LineId) : (writeLineAt q l u).1.port = u.port := by
  unfold writeLineAt
  split
  · rfl
  · split
    · rfl
    · exact followEnabled_port l _

theorem writeMixOwner_port (code : Nat) (q : MixWrite) : (writeMixOwner code q u).1.port = u.port := by
  unfold writeMixOwner
  split
  · rfl
  · split
    · rfl
    · split <;> rfl

theorem writeBandsOwner_port (q : BandTable) : (writeBandsOwner q u).1.port = u.port := by
  unfold writeBandsOwner
  split <;> rfl

theorem writeTimingOwner_port (q : TimingTable) : (writeTimingOwner q u).1.port = u.port := by
  unfold writeTimingOwner
  split <;> rfl

theorem writeEnvelopeOwner_port (q : EnvelopeTable) : (writeEnvelopeOwner q u).1.port = u.port := by
  unfold writeEnvelopeOwner
  split <;> rfl

theorem setClockOwner_keepsLatches (day second : Nat) : KeepsLatches p u (setClockOwner day second u).1 := by
  have written (c : Clock) : KeepsLatches p u { u with clock := c, clockPhase := 0 } := .ports rfl
  unfold setClockOwner
  split
  · exact .refl p u
  · exact (written _).trans (.latchAll _)

theorem makeStale_keepsLatches (k : TankId) : KeepsLatches p u (u.makeStale k) :=
  (.ports rfl : KeepsLatches p u (u.updTank k _)).trans (.latchAll _)

theorem writeTankAt_keepsLatches (capacity ageLimit : Nat) (k : TankId) :
    KeepsLatches p u (writeTankAt capacity ageLimit k u).1 := by
  have fitted (m : PerTank TankEntry) :
      KeepsLatches p u (State.updTank { u with tankTable := m } k (·.fitted capacity)) := .ports rfl
  unfold writeTankAt
  split
  · exact .refl p u
  · split
    · exact .refl p u
    · dsimp only
      split
      · exact (fitted _).trans (makeStale_keepsLatches k)
      · exact fitted _

theorem superviseOwner_keepsLatches (q : Port) (interval : Nat) : KeepsLatches p u (superviseOwner q interval u).1 := by
  unfold superviseOwner
  split
  · exact .refl p u
  · split <;> exact .updPort q fun _ _ => rfl

theorem markReadOwner_keepsLatches (q : Port) (entry : Nat) : KeepsLatches p u (markReadOwner q entry u).1 := by
  unfold markReadOwner
  split
  · exact .refl p u
  · exact .updPort q fun _ _ => rfl

/-- A NOTE adds a latch on the ports other than its sender's (R165). -/
theorem noteOwner_keepsLatches (q : Port) (code : Nat) : KeepsLatches p u (noteOwner q code u).1 := by
  have latched (v : State) : KeepsLatches p v (v.latchOthers q .peerNote) := by
    refine .of_portSteady ?_
    rw [State.latchOthers_port, PerPort.get_mapIdx]
    split
    · exact PortSteady.refl _
    · exact PortSteady.latch _ _
  unfold noteOwner
  split
  · exact .refl p u
  · refine KeepsLatches.trans (.of_latches_eq ?_) (latched _)
    rw [PerPort.get_mapIdx]
    split <;> rfl

/-! ### Every request -/

/-- Of the requests only CLEAR_EVENTS and PORT_RESET clear a latch, each on its own port (R160, R167). -/
theorem runRequest_keepsLatches {i : Instr} (hc : ∀ events, i ≠ .clearEvents p events) (hr : i ≠ .portReset p)
    (h : runRequest i s = .next t) : KeepsLatches p s t := by
  cases i with
  | clearEvents q events =>
    cases h
    exact .request (fun _ => .updPort q fun own => absurd (by rw [own]) (hc events)) q _ _
  | portReset q =>
    cases h
    exact .request (fun _ => .updPort q fun own => absurd (by rw [own]) hr) q _ _
  | seat q line w => cases h; exact .steadyLineRequest (deferrable_lineOnly _) q line _ _
  | test q line target duration => cases h; exact .steadyLineRequest (deferrable_lineOnly _) q line _ _
  | charge q line | inject q line => cases h; exact .steadyLineRequest (deferrable_lineOnly _) q line _ _
  | finish q line => cases h; exact .steadyLineRequest finishAt_lineOnly q line _ _
  | abort q line => cases h; exact .steadyLineRequest (abortAt_lineOnly q) q line _ _
  | clearFault q line => cases h; exact .steadyLineRequest clearFaultAt_lineOnly q line _ _
  | circulate q line => cases h; exact .steadyLineRequest circulateAt_lineOnly q line _ _
  | hold q lines => cases h; exact .steadyRequest (holdOwner_steady q lines) q _ _
  | releaseHold q reason lines => cases h; exact .steadyRequest (releaseHoldOwner_steady q reason lines) q _ _
  | releaseConnection q lines => cases h; exact .steadyRequest (releaseConnectionOwner_steady lines) q _ _
  | deliver q tank mix litres =>
    cases h; exact .tankRequest (fun k v => .steady (deliverAt_steady mix litres k v)) q tank _ _
  | dump q tank => cases h; exact .tankRequest (fun k v => .steady (dumpAt_steady k v)) q tank _ _
  | setCeiling q line ceiling =>
    cases h; exact .lineRequest (fun l _ => .ports (setCeilingAt_port ceiling l)) q line _ _
  | supervise q interval => cases h; exact .request (fun _ => superviseOwner_keepsLatches q interval) q _ _
  | readTanks q | readDemand q | logRange q | status q | readEvents q | readNote q | readClock q | readLog q =>
    cases h; exact .request (.refl p) q _ _
  | readOpen q line | readCapture q line => cases h; exact .lineRequest (fun _ => .refl p) q line _ _
  | markRead q entry => cases h; exact .request (fun _ => markReadOwner_keepsLatches q entry) q _ _
  | readSnapshot q part => cases h; exact .request (fun _ => .ports (readSnapshotOwner_port q part)) q _ _
  | snapshot q | setMask q | restart q => cases h; exact .request (fun _ => .updPort q fun _ _ => by rfl) q _ _
  | note q code => cases h; exact .request (fun _ => noteOwner_keepsLatches q code) q _ _
  | writeLine q line w => cases h; exact .lineRequest (fun l _ => .ports (writeLineAt_port w l)) q line _ _
  | writeMix q code w => cases h; exact .request (fun _ => .ports (writeMixOwner_port code w)) q _ _
  | writeBands q w => cases h; exact .request (fun _ => .ports (writeBandsOwner_port w)) q _ _
  | writeTiming q w => cases h; exact .request (fun _ => .ports (writeTimingOwner_port w)) q _ _
  | writeEnvelope q w => cases h; exact .request (fun _ => .ports (writeEnvelopeOwner_port w)) q _ _
  | writeTank q tank capacity ageLimit =>
    cases h; exact .tankRequest (fun k _ => writeTankAt_keepsLatches capacity ageLimit k) q tank _ _
  | readSettings q table index => cases h; exact .request (fun _ => .ports (readSettingsOwner_port table index)) q _ _
  | setClock q day second => cases h; exact .request (fun _ => setClockOwner_keepsLatches day second) q _ _
  | _ => cases h; exact .refl p s

/-! ### Events -/

theorem KeepsLatches.dropFrame (q : Port) : KeepsLatches p u (u.dropFrame q) :=
  (.updPort q fun _ _ => rfl : KeepsLatches p u (u.setReceiver q .hunt)).trans (.latchOn q _)

theorem KeepsLatches.lapse (q : Port) : KeepsLatches p u (u.lapse q) :=
  ((KeepsLatches.updPort q fun _ _ => by rfl).trans (.steady (holdOperation_steady _ _).1)).trans (.latchAll _)

/-- An event acts where it can occur, and where no other of the same millisecond has overtaken it (logs 5, 24). -/
theorem KeepsLatches.event {c : State → Prop} [DecidablePred c] (h : KeepsLatches p s (act s)) :
    KeepsLatches p s (s.onEvent e fun v => if c v then act v else v) := by
  refine .onEvent ?_
  split
  · exact h
  · exact .refl p s

theorem KeepsLatches.lineEvent {l : LineId} {c : State → Prop} [DecidablePred c] (h : LineOnly l s (act s)) :
    KeepsLatches p s (s.onEvent e fun v => if c v then act v else v) :=
  .event (.steady h.steady)

/-- Every command but those the statement names keeps the latches of a port. -/
theorem exec_keepsLatches {i : Instr} (h : exec i s = .next t) (hpower : i ≠ .powerOn) (hreset : i ≠ .cabinetReset)
    (hsent : ∀ q, i ≠ .responseSent q) (hbyte : ∀ q b, i ≠ .byteReceived q b)
    (hclear : ∀ events, i ≠ .clearEvents p events) (hport : i ≠ .portReset p) : KeepsLatches p s t := by
  have line (l : LineId) := LineOnly.refl l s
  by_cases hr : (requestPort i).isSome = true
  · rw [exec_request hr] at h
    exact runRequest_keepsLatches hclear hport h
  cases i with
  | powerOn => exact absurd rfl hpower
  | cabinetReset => exact absurd rfl hreset
  | responseSent q => exact absurd rfl (hsent q)
  | byteReceived q b => exact absurd rfl (hbyte q b)
  | gapTimerExpiry q =>
    cases h
    refine .onEvent ?_
    split
    · exact .refl p s
    · exact .dropFrame q
  | sample l r =>
    cases h
    split
    · exact .refl p s
    · exact .steady (takeSample_steady s l r)
  | packerSettleExpiry l => cases h; exact .lineEvent (line l).settle
  | testTimerExpiry l => cases h; exact .lineEvent ((line l).endTest _)
  | strokeComplete l => cases h; exact .onEvent (.steady (line l).senseStroke.steady)
  | strokeWatchExpiry l => cases h; exact .lineEvent (line l).strokeFailure
  | circulationStaticExpiry l => cases h; exact .lineEvent (line l).startBurst
  | standingTimerExpiry l | refusalTimerExpiry l => cases h; exact .lineEvent ((line l).stageEnd _ _)
  | silenceTimerExpiry q => cases h; exact .event (.lapse q)
  | ageExpiry k =>
    cases h
    split
    · exact makeStale_keepsLatches k
    · exact .refl p s
  | clockAdvance | runSecondsAdvance => cases h; exact .onEvent (.ports rfl)
  | resetInputDeasserted => cases h; exact .ports rfl
  | _ => exact absurd rfl hr

end Latches

/-- Settles O60: each command that the statement does not name keeps the latches of every port. -/
theorem latchesStaySet : Obligations.LatchesStaySet := by
  intro i s t p h hpower hreset hsent hbyte hclear hport
  exact exec_keepsLatches h hpower hreset hsent hbyte hclear hport

end Sys2Proof.Machine


/-! PROOF of O9. The bytes of a number read back as the number, then each payload field by field. -/

namespace Sys2Proof

open Sys2Proof.Machine (be eventSetBytes IsRequest)

/-! ### Fields of a payload (R182, R184) -/

section Fields

variable {n v off len : Nat} {rest : List Byte}

theorem foldl_be (a n v : Nat) :
    (be n v).foldl (fun a b => a * 256 + b.toNat) a = a * 256 ^ n + v % 256 ^ n := by
  induction n generalizing a with
  | zero => simp [be, Nat.mod_one]
  | succ n ih =>
    have byte : (BitVec.ofNat 8 (v / 256 ^ n)).toNat = v / 256 ^ n % 256 := BitVec.toNat_ofNat ..
    rw [be, List.foldl_cons, ih, byte, Nat.mod_pow_succ]
    ring

/-- The bytes of a number that fits them spell it. -/
theorem readBe_be (h : fits n v = true) : readBe (be n v) = v := by
  have small : v < 256 ^ n := of_decide_eq_true h
  rw [readBe, foldl_be, Nat.zero_mul, Nat.zero_add, Nat.mod_eq_of_lt small]

theorem field_be_append (h : fits n v = true) : field (be n v ++ rest) 0 n = v := by
  rw [field, List.drop_zero, List.take_left' (Laws.length_be n v), readBe_be h]

theorem field_be (h : fits n v = true) : field (be n v) 0 n = v := by
  rw [← List.append_nil (be n v), field_be_append h]

theorem field_append (h : n ≤ off) : field (be n v ++ rest) off len = field rest (off - n) len := by
  have past : (be n v).drop off = [] := List.drop_eq_nil_of_le (by rwa [Laws.length_be])
  rw [field, List.drop_append, past, List.nil_append, Laws.length_be, field]

theorem byteAt_append (b : Byte) : byteAt (be 1 v ++ [b]) 1 = b := rfl

theorem eventField_eventSetBytes (events : EventSet) : eventField (eventSetBytes events) = events := by
  have small : fits 2 events.toNat = true := decide_eq_true events.isLt
  change BitVec.ofNat 16 (field (be 2 events.toNat) 0 2) = events
  rw [field_be small, BitVec.ofNat_toNat, BitVec.setWidth_eq]

/-! ### Groups of parameters (R184) -/

theorem seatField_payload {q : SeatParams} (h : q.wf = true) (line : Nat) :
    seatField (be 1 line ++ seatPayload q) = q := by
  simp only [SeatParams.wf, Bool.and_eq_true] at h
  simp [seatField, seatPayload, field_append, field_be_append, field_be, h]

theorem lineWriteField_payload {q : LineWrite} (h : q.wf = true) (line : Nat) :
    lineWriteField (be 1 line ++ lineWritePayload q) = q := by
  simp only [LineWrite.wf, Bool.and_eq_true] at h
  simp [lineWriteField, lineWritePayload, field_append, field_be_append, field_be, h]

theorem mixWriteField_payload {q : MixWrite} (h : q.wf = true) (code : Nat) :
    mixWriteField (be 1 code ++ mixWritePayload q) = q := by
  simp only [MixWrite.wf, Bool.and_eq_true] at h
  simp [mixWriteField, mixWritePayload, field_append, field_be_append, field_be, h]

theorem bandsField_payload {q : BandTable} (h : q.wf = true) : bandsField (bandsPayload q) = q := by
  simp only [BandTable.wf, Bool.and_eq_true] at h
  simp [bandsField, bandsPayload, field_append, field_be_append, field_be, h]

theorem timingField_payload {q : TimingTable} (h : q.wf = true) : timingField (timingPayload q) = q := by
  simp only [TimingTable.wf, Bool.and_eq_true] at h
  simp [timingField, timingPayload, field_append, field_be_append, field_be, h]

theorem envelopeField_payload {q : EnvelopeTable} (h : q.wf = true) : envelopeField (envelopePayload q) = q := by
  simp only [EnvelopeTable.wf, Bool.and_eq_true] at h
  simp [envelopeField, envelopePayload, field_append, field_be_append, field_be, h]

end Fields

/-! ### Requests (R155, R182, R184) -/

/-- The length of a request's payload is the one its code has (R184). -/
theorem requestLength_isRequest {i : Instr} {p : Port} {code : Nat} {payload : List Byte}
    (h : IsRequest i p code payload) : requestLength code = some payload.length ∧ code < 256 := by
  obtain ⟨hport, hcode⟩ := h
  have form : Laws.RequestForm.Statement i := by
    cases i with
    | powerOn | cabinetReset | byteReceived | gapTimerExpiry | responseSent | sample | packerSettleExpiry
    | testTimerExpiry | strokeComplete | strokeWatchExpiry | circulationStaticExpiry | standingTimerExpiry
    | refusalTimerExpiry | silenceTimerExpiry | ageExpiry | clockAdvance | runSecondsAdvance
    | resetInputDeasserted => cases hport
    | _ => exact ⟨rfl, by decide, rfl⟩
  rw [Laws.RequestForm.Statement, hcode] at form
  obtain ⟨length, small, -⟩ := form
  exact ⟨length, small⟩

theorem decodeFields_isRequest {i : Instr} {p : Port} {code : Nat} {payload : List Byte}
    (h : IsRequest i p code payload) (hwf : i.wf = true) : decodeFields p code payload = some i := by
  obtain ⟨hport, hcode⟩ := h
  cases i with
  | powerOn | cabinetReset | byteReceived | gapTimerExpiry | responseSent | sample | packerSettleExpiry
  | testTimerExpiry | strokeComplete | strokeWatchExpiry | circulationStaticExpiry | standingTimerExpiry
  | refusalTimerExpiry | silenceTimerExpiry | ageExpiry | clockAdvance | runSecondsAdvance
  | resetInputDeasserted => cases hport
  | hold | releaseConnection | readTanks | readDemand | logRange | status | snapshot | readEvents | readNote
  | readClock | portReset | restart =>
    cases hport; cases hcode; rfl
  | charge | inject | finish | abort | clearFault | circulate | supervise | dump | readOpen | readLog | markRead
  | readCapture | readSnapshot | note =>
    cases hport; cases hcode
    simp [decodeFields, field_be hwf]
  | clearEvents | setMask =>
    cases hport; cases hcode
    simp [decodeFields, eventField_eventSetBytes]
  | releaseHold =>
    cases hport; cases hcode
    simp [decodeFields, field_be_append hwf, byteAt_append]
  | writeBands => cases hport; cases hcode; simp [decodeFields, bandsField_payload hwf]
  | writeTiming => cases hport; cases hcode; simp [decodeFields, timingField_payload hwf]
  | writeEnvelope => cases hport; cases hcode; simp [decodeFields, envelopeField_payload hwf]
  | seat | test | setCeiling | deliver | writeLine | writeMix | writeTank | readSettings | setClock =>
    cases hport; cases hcode
    simp only [Instr.wf, Bool.and_eq_true] at hwf
    simp [decodeFields, field_append, field_be_append, field_be, seatField_payload, lineWriteField_payload,
      mixWriteField_payload, hwf]

/-- Settles O9: a payload has its code's length, and each of its fields is read where it was written. -/
theorem decodingTheEncodingIsTheRequest : Obligations.DecodingTheEncodingIsTheRequest := by
  intro i p code payload h hwf
  obtain ⟨length, -⟩ := requestLength_isRequest h
  rw [decodeRequest, if_pos length, decodeFields_isRequest h hwf]

end Sys2Proof


/-! PROOF of O6 and O8. A byte in each condition of the receiver; then the bytes of a whole frame, one after another. -/

namespace Sys2Proof.Machine

/-! ### One byte, or the gap's end (R153) -/

section Receiver

variable {s t : State} {p : Port} {b : Byte} {frame bytes : List Byte} {gap : Nat}

theorem exec_byteReceived_hunt (h : (s.port.get p).rx = .hunt) :
    exec (.byteReceived p b) s = .next (if b = 0xA5 then s.setReceiver p (.receiving [b] 0) else s) := by
  change execByteReceived p b s = _
  rw [execByteReceived, h]
  rfl

theorem exec_byteReceived_receiving (h : (s.port.get p).rx = .receiving bytes gap) :
    exec (.byteReceived p b) s = keepByte p (bytes ++ [b]) s := by
  change execByteReceived p b s = _
  rw [execByteReceived, h]

theorem isComplete_iff : isComplete frame = true ↔ 2 ≤ frame.length ∧ frame.length = 5 + statedLength frame := by
  rw [isComplete, Bool.and_eq_true, decide_eq_true_eq, beq_iff_eq]

theorem keepByte_tooLong (hlen : frame.length = 2) (hn : 240 < statedLength frame) :
    keepByte p frame s = .next (s.dropFrame p) :=
  if_pos ⟨hlen, hn⟩

theorem keepByte_partial (hn : frame.length = 2 → statedLength frame ≤ 240)
    (hlen : frame.length ≠ 5 + statedLength frame) :
    keepByte p frame s = .next (s.setReceiver p (.receiving frame 0)) := by
  have fits : ¬(frame.length = 2 ∧ Config.maxPayload < statedLength frame) :=
    fun ⟨h, long⟩ => absurd (hn h) (Nat.not_le.mpr long)
  rw [keepByte, if_neg fits, if_neg fun h => hlen (isComplete_iff.mp h).2]

theorem keepByte_complete (hlen : 3 ≤ frame.length) (hn : frame.length = 5 + statedLength frame) :
    keepByte p frame s = takeFrame p frame (s.setReceiver p .hunt) := by
  have whole : isComplete frame = true := isComplete_iff.mpr ⟨Nat.le_of_succ_le hlen, hn⟩
  rw [keepByte, if_neg fun ⟨two, _⟩ => Nat.ne_of_gt hlen two, if_pos whole]

/-- The second byte states the payload's length (R152). -/
theorem statedLength_second (h : bytes.length = 1) : statedLength (bytes ++ [b]) = b.toNat := by
  rw [statedLength, List.getD_append_right _ _ _ _ (by omega), h]
  rfl

theorem statedLength_append (h : 2 ≤ bytes.length) : statedLength (bytes ++ [b]) = statedLength bytes := by
  rw [statedLength, List.getD_append _ _ _ _ (by omega), statedLength]

/-- Settles O6: each clause is the equation of one condition of the receiver. -/
theorem receiverAssemblesFrames : Obligations.ReceiverAssemblesFrames := by
  intro s p b
  refine ⟨fun hunt => ⟨?_, congrArg Host.Outcome.next (onEvent_induct (P := (· = s)) rfl ?_)⟩,
    fun bytes gap hrx => ?_⟩
  · rw [exec_byteReceived_hunt hunt]
    split
    · next hb => rw [hb]
    · rfl
  · rw [hunt]
  rw [exec_byteReceived_receiving hrx]
  refine ⟨fun one long => ?_, fun one fits => ?_, fun two more => ?_, fun h => ?_⟩
  · exact keepByte_tooLong (by simp [one]) (by rwa [statedLength_second one])
  · refine keepByte_partial (fun _ => by rwa [statedLength_second one]) ?_
    rw [List.length_append, one]
    simp
    omega
  · refine keepByte_partial (fun h => ?_) ?_
    · rw [List.length_append, List.length_singleton] at h
      omega
    · rwa [List.length_append, statedLength_append two]
  · change Host.Outcome.next (s.onEvent (.gapTimerExpiry p) _) = _
    rw [onEvent_of_not_overtaken h.overtaken, hrx]
    rfl

/-! ### A whole frame, byte after byte (R152 to R155) -/

theorem setReceiver_rx (s : State) (p : Port) (rx : Receiver) : ((s.setReceiver p rx).port.get p).rx = rx := by
  rw [State.setReceiver, State.updPort_port, PerPort.get_upd_self]

theorem setReceiver_setReceiver (s : State) (p : Port) (a rx : Receiver) :
    (s.setReceiver p a).setReceiver p rx = s.setReceiver p rx := by
  cases p <;> rfl

theorem setReceiver_eq_self {rx : Receiver} (h : (s.port.get p).rx = rx) : s.setReceiver p rx = s := by
  subst h
  cases p <;> rfl

theorem receive_cons (h : exec (.byteReceived p b) s = .next t) : receive p (b :: bytes) s = receive p bytes t := by
  rw [receive, h]

theorem receive_singleton : receive p [b] s = exec (.byteReceived p b) s := by
  rw [receive]
  cases exec (.byteReceived p b) s <;> rfl

/-- From the length byte on, the bytes that are left complete the frame with the last of them. -/
theorem receive_rest (hlong : 2 ≤ frame.length) (hbytes : bytes ≠ [])
    (hlen : frame.length + bytes.length = 5 + statedLength frame) :
    receive p bytes (s.setReceiver p (.receiving frame 0)) =
      takeFrame p (frame ++ bytes) (s.setReceiver p .hunt) := by
  induction bytes generalizing frame with
  | nil => exact absurd rfl hbytes
  | cons b bytes ih =>
    have kept := exec_byteReceived_receiving (b := b) (setReceiver_rx s p (.receiving frame 0))
    have stated := statedLength_append (b := b) hlong
    have longer : (frame ++ [b]).length = frame.length + 1 := by simp
    rw [List.length_cons] at hlen
    cases bytes with
    | nil =>
      rw [receive_singleton, kept, keepByte_complete (by omega) (by rw [longer, stated, ← hlen]; rfl),
        setReceiver_setReceiver]
    | cons c bytes =>
      rw [List.length_cons] at hlen
      rw [keepByte_partial (by omega) (by omega), setReceiver_setReceiver] at kept
      rw [receive_cons kept, ih (by omega) (List.cons_ne_nil c bytes) (by rw [longer, stated, List.length_cons]; omega)]
      simp

/-- The bytes of a frame on a port that hunts are taken as that frame with the last of them (R153). -/
theorem receive_wholeFrame {n code c1 c2 : Byte} {payload : List Byte} (hunt : (s.port.get p).rx = .hunt)
    (hn : n.toNat ≤ 240) (hlen : payload.length = n.toNat) :
    receive p (wholeFrame n code c1 c2 payload) s = takeFrame p (wholeFrame n code c1 c2 payload) s := by
  have start : exec (.byteReceived p 0xA5) s = .next (s.setReceiver p (.receiving [0xA5] 0)) := by
    rw [exec_byteReceived_hunt hunt, if_pos rfl]
  have stated : statedLength [0xA5, n] = n.toNat := rfl
  have kept (u : State) : keepByte p [0xA5, n] u = .next (u.setReceiver p (.receiving [0xA5, n] 0)) := by
    refine keepByte_partial (fun _ => hn) ?_
    simp only [stated, List.length_cons, List.length_nil]
    omega
  have second : exec (.byteReceived p n) (s.setReceiver p (.receiving [0xA5] 0)) =
      .next (s.setReceiver p (.receiving [0xA5, n] 0)) := by
    rw [exec_byteReceived_receiving (setReceiver_rx s p _), List.singleton_append, kept, setReceiver_setReceiver]
  have complete : [0xA5, n].length + (code :: (payload ++ [c1, c2])).length = 5 + statedLength [0xA5, n] := by
    simp only [stated, List.length_cons, List.length_append, List.length_nil, hlen]
    omega
  rw [wholeFrame, receive_cons start, receive_cons second, receive_rest (by simp) (List.cons_ne_nil _ _) complete,
    setReceiver_eq_self hunt]
  rfl

theorem takeFrame_taken {i : Instr} (hs : s.free p) (hgood : checkGood frame = true)
    (h : decodeRequest p (frameCode frame) (framePayload frame) = some i) :
    takeFrame p frame s = runRequest i s := by
  have passes : ¬((s.port.get p).response.isSome || !checkGood frame) = true := by
    rw [hgood, show (s.port.get p).response = none from hs]
    decide
  rw [takeFrame, if_neg passes, h]

end Receiver

theorem requestLength_le {code n : Nat} (h : requestLength code = some n) : n ≤ 20 := by
  unfold requestLength at h
  split at h <;> cases h <;> decide

/-- Settles O8: the last byte completes the frame, its check is good, and its code and payload decode to the request. -/
theorem frameRunsItsRequest : Obligations.FrameRunsItsRequest := by
  intro s i p code payload h hwf hunt free
  obtain ⟨length, small⟩ := requestLength_isRequest h
  have short := requestLength_le length
  have hn : (BitVec.ofNat 8 payload.length).toNat = payload.length := by
    rw [BitVec.toNat_ofNat]
    omega
  have hcode : (BitVec.ofNat 8 code).toNat = code := by
    rw [BitVec.toNat_ofNat]
    omega
  have decoded : decodeRequest p (BitVec.ofNat 8 code).toNat payload = some i := by
    rw [hcode, decodingTheEncodingIsTheRequest i p code payload h hwf]
  obtain ⟨hport, -⟩ := h
  change receive p (wholeFrame (BitVec.ofNat 8 payload.length) (BitVec.ofNat 8 code) _ _ payload) s = _
  rw [receive_wholeFrame hunt (by omega) hn.symm, takeFrame_taken free ((checkGood_wholeFrame hn.symm).mpr rfl)
    (by rw [framePayload_wholeFrame hn.symm]; exact decoded), exec_request (by rw [hport]; rfl)]

end Sys2Proof.Machine


/-! PROOF of O12, O17 and O19. Requests that change their own port, event sets bit by bit, and the parts of a
snapshot. -/

namespace Sys2Proof.Machine

section OwnPort

variable {s : State} {p : Port}

/-! ### Requests that change their own port (R154 to R156) -/

theorem restartSilence_get (s : State) (p : Port) :
    (s.restartSilence p).port.get p = (s.port.get p).restartSilence := by
  rw [State.restartSilence, State.updPort_port, PerPort.get_upd_self]

theorem answered_get (s : State) (p : Port) (code : Nat) (st : Status) (bytes : List Byte) :
    (s.answered p code st bytes).port.get p =
      { (s.port.get p).restartSilence with response := some ⟨code, st, bytes⟩ } := by
  rw [State.answered, PerPort.get_upd_self]
  rfl

theorem updPort_congr {f g : PortState → PortState} (h : f (s.port.get p) = g (s.port.get p)) :
    s.updPort p f = s.updPort p g := by
  have same : s.port.upd p f = s.port.upd p g := by
    refine PerPort.ext_get fun q => ?_
    rw [PerPort.get_upd, PerPort.get_upd]
    split
    · next hq => rw [hq, h]
    · rfl
  rw [State.updPort, State.updPort, same]

/-- An owner that changes its own port, and the response begun: either comes first. -/
theorem request_ownPort (h : s.free p) (code : Nat) {allowed : List Port} (hp : p ∈ allowed)
    {f : PortState → PortState} {owner : State → State × Answer} {a : Answer}
    (ho : owner (s.restartSilence p) = ((s.restartSilence p).updPort p f, a))
    (hf : ∀ q r, { f q with response := some r } = f { q with response := some r }) :
    s.request p code allowed owner = (s.answered p code a.status a.payload).updPort p f := by
  rw [request_taken h code hp, ho, ← respond_restartSilence]
  exact updPort_respond _ p _ fun q => hf q _

/-! ### Event sets (R157, R158, R182) -/

/-- The sixteen events, by number (R157). -/
def Event.all : List Event :=
  [.stageEnd, .logOverrun, .holdChange, .connection, .excursion, .supplyWait, .tankStale, .lineFault, .pendingDropped,
    .frameError, .peerNote, .silence, .mixChange, .clamped, .restarted, .clockSet]

theorem Event.exists_num : ∀ i < 16, ∃ e ∈ Event.all, e.num = i := by decide

theorem Event.num_lt (e : Event) : e.num < 16 := by cases e <;> decide

theorem Event.bit_eq (e : Event) : e.bit = BitVec.twoPow 16 e.num := by cases e <;> rfl

theorem Event.bit_ne_zero (e : Event) : e.bit ≠ 0#16 := by cases e <;> decide

theorem Event.and_bit (x : EventSet) (e : Event) : x &&& e.bit = if x.getLsbD e.num then e.bit else 0 := by
  rw [e.bit_eq, BitVec.and_twoPow]
  rfl

theorem Event.and_bit_eq_zero {x : EventSet} {e : Event} : x &&& e.bit = 0 ↔ x.getLsbD e.num = false := by
  rw [e.and_bit]
  split <;> simp_all [e.bit_ne_zero]

theorem Event.and_bit_beq {x : EventSet} {e : Event} : (x &&& e.bit == e.bit) = x.getLsbD e.num := by
  rw [e.and_bit]
  split <;> simp_all [e.bit_ne_zero.symm]

theorem Event.ne_zero_iff {x : EventSet} : x ≠ 0 ↔ ∃ e : Event, x.getLsbD e.num = true := by
  constructor
  · contrapose!
    intro none
    refine BitVec.eq_of_getLsbD_eq fun i hi => ?_
    obtain ⟨e, -, rfl⟩ := Event.exists_num i hi
    simpa using none e
  · rintro ⟨e, he⟩ rfl
    simp at he

/-- The attention line is asserted exactly while an event that is latched is not masked (R158). -/
theorem PortState.attention_iff {q : PortState} :
    q.attention = true ↔ ∃ e : Event, q.latched e = true ∧ q.masks &&& e.bit = 0 := by
  rw [PortState.attention, decide_eq_true_eq, Event.ne_zero_iff]
  refine exists_congr fun e => ?_
  rw [BitVec.getLsbD_and, BitVec.getLsbD_not, Event.and_bit_eq_zero, PortState.latched]
  simp [e.num_lt]

/-! ### READ_EVENTS, CLEAR_EVENTS and SET_MASK (R159 to R161) -/

theorem eventsBytes_restartSilence (s : State) (p : Port) :
    (s.restartSilence p).eventsBytes p =
      be 2 (s.port.get p).latches.toNat ++ be 2 (s.port.get p).masks.toNat := by
  rw [State.eventsBytes, restartSilence_get]
  rfl

/-- Settles O12: the two sets are read as they stand. -/
theorem readEventsReportsBothSets : Obligations.ReadEventsReportsBothSets :=
  fun s p h => reading_answers h 0x48 (eventsBytes_restartSilence s p)

theorem exec_clearEvents (h : s.free p) (events : EventSet) :
    exec (.clearEvents p events) s =
      .next ((s.answered p 0x49 .ok (be 2 ((s.port.get p).latches &&& ~~~events).toNat)).updPort p
        fun q => { q with latches := (s.port.get p).latches &&& ~~~events }) := by
  have owner : clearEventsOwner p events (s.restartSilence p) =
      ((s.restartSilence p).updPort p fun q => { q with latches := q.latches &&& ~~~events },
        ⟨.ok, be 2 ((s.port.get p).latches &&& ~~~events).toNat⟩) := by
    simp only [clearEventsOwner, State.updPort_port, PerPort.get_upd_self, restartSilence_get]
    rfl
  refine congrArg Host.Outcome.next ((request_ownPort h 0x49 (mem_anyPort p) owner fun _ _ => rfl).trans ?_)
  refine updPort_congr ?_
  rw [answered_get]
  rfl

theorem exec_setMask (h : s.free p) (events : EventSet) :
    exec (.setMask p events) s =
      .next ((s.answered p 0x4A .ok (be 2 events.toNat ++ be 2 (s.port.get p).latches.toNat)).updPort p
        fun q => { q with masks := events }) := by
  have owner : setMaskOwner p events (s.restartSilence p) =
      ((s.restartSilence p).updPort p fun q => { q with masks := events },
        ⟨.ok, be 2 events.toNat ++ be 2 (s.port.get p).latches.toNat⟩) := by
    rw [setMaskOwner, restartSilence_get]
    rfl
  exact congrArg Host.Outcome.next (request_ownPort h 0x4A (mem_anyPort p) owner fun _ _ => rfl)

/-- Of the named events none is latched any more, and of the others each that was (R160). -/
theorem latched_cleared (q : PortState) (events : EventSet) (e : Event) :
    PortState.latched { q with latches := q.latches &&& ~~~events } e =
      (q.latched e && !(events &&& e.bit == e.bit)) := by
  rw [Event.and_bit_beq, PortState.latched, BitVec.getLsbD_and, BitVec.getLsbD_not, PortState.latched]
  simp [e.num_lt]

/-! ### NOTE (R165) -/

/-- A port that another's NOTE reaches (R165). -/
def PortState.noted (code : Nat) (sender : Port) (q : PortState) : PortState :=
  { q with note := some ⟨code, sender⟩, latches := q.latches ||| Event.peerNote.bit }

theorem noteOwner_range {u : State} : noteOwner p 0 u = (u, plain .range) := rfl

theorem noteOwner_taken {u : State} {code : Nat} (hlow : 1 ≤ code) (hhigh : code ≤ 255) :
    noteOwner p code u =
      ({ u with port := u.port.mapIdx fun q x => if q = p then x else x.noted code p }, plain .ok) := by
  have fits : ¬(!inRange 1 255 code) = true := by simp [inRange, hlow, hhigh]
  have reached : (u.port.mapIdx fun q x => if q = p then x else { x with note := some ⟨code, p⟩ }).mapIdx
      (fun q x => if q = p then x else x.latch .peerNote) =
      u.port.mapIdx fun q x => if q = p then x else x.noted code p := by
    refine PerPort.ext_get fun q => ?_
    simp only [PerPort.get_mapIdx]
    split <;> rfl
  rw [noteOwner, if_neg fits]
  dsimp only [State.latchOthers]
  rw [reached]

/-- Settles O19: each owner changes its own port, or the slots and latches of the other two, and begins the answer. -/
theorem eventsMasksAndNotes : Obligations.EventsMasksAndNotes := by
  intro s p h
  refine ⟨fun events => ⟨_, exec_clearEvents h events, rfl, fun e => ?_, PortState.attention_iff.trans ?_⟩,
    fun events => ⟨_, exec_setMask h events, rfl, PortState.attention_iff.trans ?_⟩, ?_, fun code hlow hhigh => ?_⟩
  · rw [State.updPort_port, PerPort.get_upd_self]
    exact latched_cleared (s.port.get p) events e
  · rfl
  · rw [State.updPort_port, PerPort.get_upd_self, answered_get]
    rfl
  · exact congrArg Host.Outcome.next (request_unchanged h 0x4B (mem_anyPort p) noteOwner_range)
  · refine ⟨_, congrArg Host.Outcome.next (request_taken h 0x4B (mem_anyPort p) _), ?_, ?_, fun q hq => ?_⟩
    all_goals rw [noteOwner_taken hlow hhigh]
    · rfl
    · rw [answered_get]
      simp [State.respond, restartSilence_get, plain]
    · simp [State.respond, PerPort.get_upd_of_ne _ hq, hq, State.restartSilence, PortState.noted]

/-! ### Snapshots (R163, R164, R186) -/

theorem tankAge_eq (s : State) (k : TankId) :
    s.tankAge k =
      if (s.tanks.get k).state = .stocked ∨ (s.tanks.get k).state = .stale
      then some (s.runSeconds - (s.tanks.get k).birth.getD 0) else none := by
  unfold State.tankAge
  split <;> simp_all

theorem exec_snapshot (h : s.free p) :
    exec (.snapshot p) s =
      .next ((s.answered p 0x41 .ok s.snapHeader.bytes).updPort p fun q =>
        { q with snapshot := some s.takeSnapshot }) :=
  congrArg Host.Outcome.next (request_ownPort h 0x41 (mem_anyPort p) (owner := snapshotOwner p) rfl fun _ _ => rfl)

theorem exec_readSnapshot (h : s.free p) {n : Nat} {a : Answer}
    (ho : readSnapshotOwner p n (s.restartSilence p) = (s.restartSilence p, a)) :
    exec (.readSnapshot p n) s = .next (s.answered p 0x42 a.status a.payload) :=
  congrArg Host.Outcome.next (request_unchanged h 0x42 (mem_anyPort p) ho)

theorem restartSilence_snapshot (s : State) (p : Port) :
    ((s.restartSilence p).port.get p).snapshot = (s.port.get p).snapshot := by
  rw [restartSilence_get]
  rfl

theorem readSnapshotOwner_empty {n : Nat} (hn : n ≤ 2) (hx : (s.port.get p).snapshot = none) :
    readSnapshotOwner p n s = (s, plain .absent) := by
  rw [readSnapshotOwner, if_neg (Nat.not_lt.mpr hn), hx]

theorem readSnapshotOwner_held {n : Nat} {x : Snapshot} (hn : n ≤ 2) (hx : (s.port.get p).snapshot = some x) :
    readSnapshotOwner p n s = (s, ⟨.ok, (x.part n).getD []⟩) := by
  rw [readSnapshotOwner, if_neg (Nat.not_lt.mpr hn), hx]

theorem part_zero (x : Snapshot) :
    (x.part 0).getD [] = x.header.bytes ++ (x.tanks.t1.bytes ++ x.tanks.t2.bytes ++ x.tanks.t3.bytes) := by
  simp [Snapshot.part, PerTank.toList]

theorem SnapTank.length_bytes (e : SnapTank) : e.bytes.length = 10 := rfl

theorem SnapLine.length_bytes (e : SnapLine) : e.bytes.length = 20 := rfl

theorem SnapLine.indicators_eq (e : SnapLine) :
    e.indicators = e.gauge.isSome.toNat + 2 * e.pe.isSome.toNat + 4 * e.pn.isSome.toNat + 8 * e.plim.isSome.toNat +
      16 * e.v.isSome.toNat + 32 * e.injected.isSome.toNat +
      64 * ((e.gauge.map (·.saturated)).getD false).toNat := by
  simp only [SnapLine.indicators, flagByte]
  omega

/-- Settles O17: the copy is field by field the state's, and each part is read from the buffer as it stands. -/
theorem snapshotsAreOneInstant : Obligations.SnapshotsAreOneInstant := by
  intro s p h
  have held (x : Snapshot) (hx : x ∈ (s.port.get p).snapshot) (n : Nat) (hn : n ≤ 2) :
      exec (.readSnapshot p n) s = .next (s.answered p 0x42 .ok ((x.part n).getD [])) :=
    exec_readSnapshot h (readSnapshotOwner_held hn ((restartSilence_snapshot s p).trans hx))
  refine ⟨⟨s.takeSnapshot, exec_snapshot h, rfl, fun k => ?_, fun l => PerLine.get_mapIdx _ _ l⟩,
    fun n hn => exec_readSnapshot h (a := plain .range) (if_pos hn), fun hx n hn => ?_, fun x hx => ?_⟩
  · rw [State.takeSnapshot, PerTank.get_mapIdx, State.snapTank, tankAge_eq]
  · exact exec_readSnapshot h (readSnapshotOwner_empty hn ((restartSilence_snapshot s p).trans hx))
  · refine ⟨?_, held x hx 1 (by decide), held x hx 2 (by decide), rfl, fun e => ⟨rfl, e.length_bytes⟩,
      fun e => ⟨?_, e.length_bytes⟩⟩
    · rw [held x hx 0 (by decide), part_zero]
    · rw [SnapLine.bytes, e.indicators_eq]
      rfl

end OwnPort

end Sys2Proof.Machine


/-! PROOF of O11. No operation of a cabinet reset reads the RESET input, so that the reset of a RESTART is the one an
assertion of the input makes. -/

namespace Sys2Proof.Machine

/-! ### The reset and its input (R28, R168) -/

/-- The RESET input at a level. -/
def State.withInput (s : State) (level : Bool) : State := { s with resetAsserted := level }

@[simp] theorem State.withInput_seq (s : State) (level : Bool) : (s.withInput level).seq = s.seq := rfl
@[simp] theorem State.withInput_drive (s : State) (level : Bool) : (s.withInput level).drive = s.drive := rfl
@[simp] theorem State.withInput_openRec (s : State) (level : Bool) : (s.withInput level).openRec = s.openRec := rfl
@[simp] theorem State.withInput_log (s : State) (level : Bool) : (s.withInput level).log = s.log := rfl

section Input

variable (s : State) (level : Bool) (l : LineId) (quiet : Bool)

theorem withInput_latchUnless (e : Event) :
    (s.withInput level).latchUnless quiet e = (s.latchUnless quiet e).withInput level := by
  cases quiet <;> rfl

/-- A choice that does not read the input, of two states each with the input set. -/
theorem withInput_ite {c d : Prop} [Decidable c] [Decidable d] {level : Bool} {a a' b b' : State} (h : c ↔ d)
    (ha : a = a'.withInput level) (hb : b = b'.withInput level) :
    (if c then a else b) = (if d then a' else b').withInput level := by
  by_cases hc : c
  · rw [if_pos hc, if_pos (h.mp hc), ha]
  · rw [if_neg hc, if_neg (mt h.mpr hc), hb]

theorem withInput_abandonStroke : (s.withInput level).abandonStroke l = (s.abandonStroke l).withInput level := by
  simp only [State.abandonStroke, State.withInput_drive]
  cases (s.drive.get l).stroke with
  | none => rfl
  | some k =>
    dsimp only
    cases k.purpose.isGrout <;> rfl

theorem withInput_stopDrive : (s.withInput level).stopDrive l = (s.stopDrive l).withInput level := by
  rw [State.stopDrive, withInput_abandonStroke]
  rfl

theorem withInput_leaveDemand :
    (s.withInput level).leaveDemand l quiet = (s.leaveDemand l quiet).withInput level :=
  withInput_ite Iff.rfl (withInput_latchUnless ((s.setCurrentTank l none).setDemand _) level quiet _) rfl

theorem withInput_addHeld : (s.withInput level).addHeld l = (s.addHeld l).withInput level := by
  simp only [State.addHeld, State.withInput_seq]
  cases (s.seq.get l).heldSince <;> rfl

theorem withInput_endTimers : (s.withInput level).endTimers l = (s.endTimers l).withInput level := by
  have held : (if (s.withInput level).lineState l = .held then (s.withInput level).addHeld l else s.withInput level) =
      (if s.lineState l = .held then s.addHeld l else s).withInput level :=
    withInput_ite Iff.rfl (withInput_addHeld s level l) rfl
  rw [State.endTimers, held]
  rfl

theorem withInput_dropSlot : (s.withInput level).dropSlot l quiet = (s.dropSlot l quiet).withInput level := by
  simp only [State.dropSlot, State.withInput_seq]
  cases (s.seq.get l).slot with
  | none => rfl
  | some req => exact withInput_latchUnless (s.updSeq l fun q => { q with slot := none }) level quiet _

theorem withInput_clearCauses :
    (s.withInput level).clearCauses l quiet = (s.clearCauses l quiet).withInput level :=
  withInput_dropSlot (s.updSeq l _) level l quiet

theorem withInput_makeRoom (appended : Nat) :
    (s.withInput level).makeRoom appended quiet = (s.makeRoom appended quiet).withInput level := by
  refine withInput_ite Iff.rfl rfl ?_
  simp only [State.withInput_log]
  cases s.log <;> rfl

theorem withInput_closeRecord (fin : FinalValues) (reason : EndReason) (origin : Option Port) :
    (s.withInput level).closeRecord l fin reason origin quiet =
      (s.closeRecord l fin reason origin quiet).withInput level := by
  have room (appended : Nat) := withInput_makeRoom s level quiet appended
  simp only [State.closeRecord, State.withInput_openRec]
  cases s.openRec.get l with
  | none => rfl
  | some r =>
    dsimp only
    rw [room, ← withInput_latchUnless]
    rfl

theorem withInput_endStage (reason : EndReason) (origin : Option Port) :
    (s.withInput level).endStage l reason origin quiet = (s.endStage l reason origin quiet).withInput level := by
  rw [State.endStage, withInput_stopDrive, withInput_leaveDemand, withInput_endTimers, withInput_clearCauses,
    withInput_closeRecord]
  rfl

theorem withInput_resetStage : (s.withInput level).resetStage l = (s.resetStage l).withInput level :=
   withInput_ite Iff.rfl (withInput_endStage s level l true .reset none) rfl

theorem withInput_cabinetReset : (s.withInput level).cabinetReset = s.cabinetReset.withInput level := by
  have stages (ls : List LineId) (u : State) :
      ls.foldl State.resetStage (u.withInput level) = (ls.foldl State.resetStage u).withInput level := by
    induction ls generalizing u with
    | nil => rfl
    | cons l ls ih => rw [List.foldl_cons, withInput_resetStage, ih, List.foldl_cons]
  rw [State.cabinetReset, State.resetStages, stages]
  rfl

/-- A reset leaves its input as it was. -/
theorem cabinetReset_resetAsserted : s.cabinetReset.resetAsserted = s.resetAsserted := by
  have same : s.cabinetReset = s.cabinetReset.withInput s.resetAsserted := withInput_cabinetReset s s.resetAsserted
  rw [same]
  rfl

/-- The input asserted resets as a RESTART does (R168). -/
theorem exec_cabinetReset_deasserted :
    exec .cabinetReset { s with resetAsserted := false } = .next { s.cabinetReset with resetAsserted := true } := by
  change Host.Outcome.next ((s.withInput false).cabinetReset.withInput true) = _
  rw [withInput_cabinetReset]
  rfl

end Input

/-! ### The end of a response (R156, R168) -/

section Response

variable {s : State} {p : Port}

theorem exec_responseSent_free (h : s.free p) : exec (.responseSent p) s = .next s := by
  refine congrArg Host.Outcome.next (if_pos ?_)
  rw [show (s.port.get p).response = none from h]
  rfl

theorem exec_responseSent (h : ¬s.free p) :
    exec (.responseSent p) s =
      .next (if (s.port.get p).restartWaiting
        then (s.updPort p fun q => { q with response := none }).cabinetReset
        else s.updPort p fun q => { q with response := none }) :=
  congrArg Host.Outcome.next (if_neg fun none => h (Option.isNone_iff_eq_none.mp none))

theorem exec_restart (h : s.free p) (hp : p ≠ .plant) :
    exec (.restart p) s =
      .next ((s.answered p 0x5D .ok []).updPort p fun q => { q with restartWaiting := true }) := by
  have allowed : p ∈ [Port.gallery, .monitor] := by cases p <;> simp_all
  exact congrArg Host.Outcome.next
    (request_ownPort h 0x5D allowed (owner := restartOwner p) (a := plain .ok) rfl fun _ _ => rfl)

end Response

/-- Settles O11: the response gone, the reset of a RESTART that waited is the input's, which does not read its level. -/
theorem responseEndFreesThePortOrRestarts : Obligations.ResponseEndFreesThePortOrRestarts := by
  intro s p
  refine ⟨exec_responseSent_free, fun busy calm => ?_, fun busy waits => ?_, exec_restart⟩
  · rw [exec_responseSent busy, if_neg (by simp [calm])]
  · rw [exec_responseSent busy, if_pos waits]
    exact ⟨_, rfl, cabinetReset_resetAsserted _, exec_cabinetReset_deasserted _⟩

end Sys2Proof.Machine


/-! PROOF of O18 and O23. Each settings table is sent in the layout of its write request; SET_CLOCK takes its values
before the answer begins, and an advance moves a clock that no event has overtaken. -/

namespace Sys2Proof.Machine

section Settings

variable {s : State} {p : Port}

/-! ### The layouts of the tables (R178, R183, R184) -/

/-- What a WRITE_LINE that writes an entry carries; a neighbour that is none is 0 (R183). -/
def LineEntry.toWrite (e : LineEntry) : LineWrite where
  enabled := e.enabled.toNat
  displacement := e.displacement
  efficiency := e.efficiency
  tmin := e.tmin
  k := e.k
  lineVolume := e.lineVolume
  fullScale := e.fullScale
  neighbour1 := (e.neighbour1.map LineId.num).getD 0
  neighbour2 := (e.neighbour2.map LineId.num).getD 0

/-- What a WRITE_MIX that writes an entry carries; an absent field is 0 (R183). -/
def MixEntry.toWrite (e : MixEntry) : MixWrite where
  enabled := e.enabled.toNat
  ratio := (e.fields.map (·.ratio)).getD 0
  gradient := (e.fields.map (·.gradient)).getD 0
  step := (e.fields.map (·.step)).getD 0

theorem LineEntry.bytes_eq (e : LineEntry) (l : LineId) :
    e.bytes l = be 1 l.num ++ lineWritePayload e.toWrite := by
  simp only [LineEntry.bytes, lineWritePayload, List.append_assoc]
  rfl

theorem mixEntryBytes_eq (code : Nat) (e : MixEntry) :
    mixEntryBytes code e = be 1 code ++ mixWritePayload e.toWrite := by
  simp only [mixEntryBytes, mixWritePayload, List.append_assoc]
  rfl

/-- The eight entries stand in code order, each behind its code. -/
theorem mixTableBytes_eq (s : State) :
    s.mixTableBytes =
      ((List.range' 1 8).zip s.mixTable.toList).flatMap fun x => be 1 x.1 ++ mixWritePayload x.2.toWrite := by
  simp only [← mixEntryBytes_eq]
  rfl

/-! ### READ_SETTINGS (R178) -/

theorem settingsBytes_restartSilence (s : State) (p : Port) (table index : Nat) :
    (s.restartSilence p).settingsBytes table index = s.settingsBytes table index := rfl

theorem exec_readSettings (h : s.free p) {table index : Nat} {bytes : List Byte}
    (hb : s.settingsBytes table index = some bytes) :
    exec (.readSettings p table index) s = .next (s.answered p 0x56 .ok bytes) := by
  refine congrArg Host.Outcome.next (request_unchanged h 0x56 (mem_anyPort p) (a := ⟨.ok, bytes⟩) ?_)
  rw [readSettingsOwner, settingsBytes_restartSilence, hb]

theorem exec_readSettings_range (h : s.free p) {table index : Nat} (hb : s.settingsBytes table index = none) :
    exec (.readSettings p table index) s = .next (s.answered p 0x56 .range []) := by
  refine congrArg Host.Outcome.next (request_unchanged h 0x56 (mem_anyPort p) (a := plain .range) ?_)
  rw [readSettingsOwner, settingsBytes_restartSilence, hb]

theorem settingsBytes_one (s : State) (index : Nat) :
    s.settingsBytes 1 index = (LineId.ofNat? index).map fun l => (s.lineTable.get l).bytes l := rfl

theorem settingsBytes_line (s : State) (l : LineId) :
    s.settingsBytes 1 l.num = some (be 1 l.num ++ lineWritePayload (s.lineTable.get l).toWrite) := by
  rw [settingsBytes_one, LineId.ofNat?_num, Option.map_some, LineEntry.bytes_eq]

theorem settingsBytes_noTable {table : Nat} (h : table = 0 ∨ 6 < table) (index : Nat) :
    s.settingsBytes table index = none := by
  have notLines : table ≠ 1 := by omega
  unfold State.settingsBytes
  rw [if_neg notLines]
  split
  · rfl
  · split
    case h_6 => rfl
    all_goals omega

theorem settingsBytes_noLine {index : Nat} (h : index = 0 ∨ 6 < index) : s.settingsBytes 1 index = none := by
  rw [settingsBytes_one, LineId.ofNat?_eq_none h, Option.map_none]

/-- A table that is read whole has the index 0. -/
theorem settingsBytes_noIndex {table index : Nat} (ht : 2 ≤ table) (hi : index ≠ 0) :
    s.settingsBytes table index = none := by
  have notLines : table ≠ 1 := by omega
  unfold State.settingsBytes
  rw [if_neg notLines, if_pos hi]

/-- Settles O18: each table's bytes are the payload of its write request, and no other table or index has any. -/
theorem settingsReadBackAsWritten : Obligations.SettingsReadBackAsWritten := by
  intro s p h
  refine ⟨fun l => exec_readSettings h (settingsBytes_line s l),
    exec_readSettings h (congrArg some (mixTableBytes_eq s)), exec_readSettings h rfl, exec_readSettings h rfl,
    exec_readSettings h rfl, exec_readSettings h rfl, fun table index outside => exec_readSettings_range h ?_⟩
  obtain noTable | ⟨rfl, noLine⟩ | ⟨whole, noIndex⟩ := or_assoc.mpr outside
  · exact settingsBytes_noTable noTable index
  · exact settingsBytes_noLine noLine
  · exact settingsBytes_noIndex whole noIndex

end Settings

/-! ### The site clock (R180, R181) -/

section SiteClock

variable {s : State} {p : Port} {day second : Nat} {c : Clock}

/-- A state whose clock has been set (R181). -/
def State.withClock (s : State) (day second : Nat) : State :=
  { s with clock := ⟨day, second, true⟩, clockPhase := 0 }

theorem setClockOwner_eq (day second : Nat) (u : State) :
    setClockOwner day second u =
      if day ≤ 32767 ∧ second ≤ 86399 then ((u.withClock day second).latchAll .clockSet, plain .ok)
      else (u, plain .range) := by
  have outside : (decide (Config.maxDay < day) || decide (Config.maxSecond < second)) = true ↔
      ¬(day ≤ 32767 ∧ second ≤ 86399) := by
    rw [Bool.or_eq_true, decide_eq_true_eq, decide_eq_true_eq, not_and_or, Nat.not_le, Nat.not_le]
    rfl
  rw [setClockOwner, if_congr outside rfl rfl, ite_not]
  rfl

/-- The ports that may set the clock (R155). -/
theorem mem_setClockPorts (hp : p ≠ .plant) : p ∈ [Port.gallery, .monitor] := by
  cases p with
  | plant => exact absurd rfl hp
  | gallery | monitor => decide

theorem exec_setClock (h : s.free p) (hp : p ≠ .plant) (hin : day ≤ 32767 ∧ second ≤ 86399) :
    exec (.setClock p day second) s =
      .next (((s.answered p 0x58 .ok []).withClock day second).latchAll .clockSet) := by
  refine congrArg Host.Outcome.next ((request_taken h 0x58 (mem_setClockPorts hp) _).trans ?_)
  rw [setClockOwner_eq, if_pos hin, respond_latchAll, ← respond_restartSilence]
  rfl

theorem exec_setClock_range (h : s.free p) (hp : p ≠ .plant) (hout : ¬(day ≤ 32767 ∧ second ≤ 86399)) :
    exec (.setClock p day second) s = .next (s.answered p 0x58 .range []) := by
  refine congrArg Host.Outcome.next (request_unchanged h 0x58 (mem_setClockPorts hp) (a := plain .range) ?_)
  rw [setClockOwner_eq, if_neg hout]

theorem exec_clockAdvance (h : s.NotOvertaken .clockAdvance) :
    exec .clockAdvance s = .next { s with clock := s.clock.advance, clockPhase := 0 } :=
  congrArg Host.Outcome.next (onEvent_of_not_overtaken h.overtaken _)

theorem exec_runSecondsAdvance (h : s.NotOvertaken .runSecondsAdvance) :
    exec .runSecondsAdvance s =
      .next { s with runSeconds := min 4294967295 (s.runSeconds + 1), runPhase := 0 } :=
  congrArg Host.Outcome.next (onEvent_of_not_overtaken h.overtaken _)

theorem Clock.advance_within (h : c.second < 86399) : c.advance = { c with second := c.second + 1 } :=
  if_pos h

/-- The last second of a day is followed by the first of the next, and day 32767 by day 0. -/
theorem Clock.advance_midnight (hsecond : c.second = 86399) (hday : c.day ≤ 32767) :
    c.advance = { c with second := 0, day := if c.day = 32767 then 0 else c.day + 1 } := by
  have last : ¬c.second < Config.maxSecond := by rw [hsecond]; decide
  rw [Clock.advance, if_neg last]
  by_cases hlast : c.day = 32767
  · rw [if_pos hlast, if_neg (by rw [hlast]; decide)]
  · have before : c.day < Config.maxDay := Nat.lt_of_le_of_ne hday hlast
    rw [if_neg hlast, if_pos before]

/-- Settles O23: the values are taken before the answer begins; an advance not overtaken moves the clock, or the
count up to its greatest value. -/
theorem clockIsSetAndAdvances : Obligations.ClockIsSetAndAdvances := by
  intro s
  refine ⟨fun p day second h hp => ?_, fun h hsecond => ?_, fun h hsecond hday => ?_, fun h hlow => ?_,
    fun h hfull => ?_⟩
  · split
    · next inside => exact ⟨_, exec_setClock h hp inside, rfl, answeredWith_event rfl⟩
    · next outside => exact exec_setClock_range h hp outside
  · rw [exec_clockAdvance h, Clock.advance_within hsecond]
  · rw [exec_clockAdvance h, Clock.advance_midnight hsecond hday]
  · rw [exec_runSecondsAdvance h, Nat.min_eq_right hlow]
  · rw [exec_runSecondsAdvance h, hfull]
    rfl

end SiteClock

end Sys2Proof.Machine


/-! PROOF of O1. A command that waits is the one the next step runs. -/

namespace Sys2Proof.Machine

/-- Settles O1: with the queue known to have a front, `step` takes its second branch. -/
theorem stepRunsFrontCommand : Obligations.StepRunsFrontCommand := by
  intro s c rest h
  rw [step, h]

end Sys2Proof.Machine


/-! SUPPORT. A row of updates put into one order of blocks. -/

namespace Sys2Proof.Machine

/-! ### Updates in a row

The updates of different blocks commute. As simp lemmas they put a row of updates into one order: sequencers, drives,
regulators, records, tanks, current tanks, the demand queue, latches, and at last a port. -/

section Order

variable (s : State) (k l : LineId) (t : TankId) (p : Port) (ev : Event) (x : Option TankId) (ds : List DemandEntry)
  (a : Sequencer → Sequencer) (d : Drive → Drive) (g : Regulator → Regulator) (r : Record → Record) (y : Tank → Tank)
  (q : PortState → PortState)

@[simp] theorem updDrive_updSeq : (s.updDrive k d).updSeq l a = (s.updSeq l a).updDrive k d := rfl
@[simp] theorem updReg_updSeq : (s.updReg k g).updSeq l a = (s.updSeq l a).updReg k g := rfl
@[simp] theorem updRec_updSeq : (s.updRec k r).updSeq l a = (s.updSeq l a).updRec k r := rfl
@[simp] theorem updTank_updSeq : (s.updTank t y).updSeq l a = (s.updSeq l a).updTank t y := rfl
@[simp] theorem setCurrentTank_updSeq : (s.setCurrentTank k x).updSeq l a = (s.updSeq l a).setCurrentTank k x := rfl
@[simp] theorem setDemand_updSeq : (s.setDemand ds).updSeq l a = (s.updSeq l a).setDemand ds := rfl
@[simp] theorem latchAll_updSeq : (s.latchAll ev).updSeq l a = (s.updSeq l a).latchAll ev := rfl
@[simp] theorem updPort_updSeq : (s.updPort p q).updSeq l a = (s.updSeq l a).updPort p q := rfl

@[simp] theorem updReg_updDrive : (s.updReg k g).updDrive l d = (s.updDrive l d).updReg k g := rfl
@[simp] theorem updRec_updDrive : (s.updRec k r).updDrive l d = (s.updDrive l d).updRec k r := rfl
@[simp] theorem updTank_updDrive : (s.updTank t y).updDrive l d = (s.updDrive l d).updTank t y := rfl
@[simp] theorem setCurrentTank_updDrive : (s.setCurrentTank k x).updDrive l d = (s.updDrive l d).setCurrentTank k x := rfl
@[simp] theorem setDemand_updDrive : (s.setDemand ds).updDrive l d = (s.updDrive l d).setDemand ds := rfl
@[simp] theorem latchAll_updDrive : (s.latchAll ev).updDrive l d = (s.updDrive l d).latchAll ev := rfl
@[simp] theorem updPort_updDrive : (s.updPort p q).updDrive l d = (s.updDrive l d).updPort p q := rfl

@[simp] theorem updRec_updReg : (s.updRec k r).updReg l g = (s.updReg l g).updRec k r := rfl
@[simp] theorem updTank_updReg : (s.updTank t y).updReg l g = (s.updReg l g).updTank t y := rfl
@[simp] theorem setCurrentTank_updReg : (s.setCurrentTank k x).updReg l g = (s.updReg l g).setCurrentTank k x := rfl
@[simp] theorem setDemand_updReg : (s.setDemand ds).updReg l g = (s.updReg l g).setDemand ds := rfl
@[simp] theorem latchAll_updReg : (s.latchAll ev).updReg l g = (s.updReg l g).latchAll ev := rfl
@[simp] theorem updPort_updReg : (s.updPort p q).updReg l g = (s.updReg l g).updPort p q := rfl

@[simp] theorem updTank_updRec : (s.updTank t y).updRec l r = (s.updRec l r).updTank t y := rfl
@[simp] theorem setCurrentTank_updRec : (s.setCurrentTank k x).updRec l r = (s.updRec l r).setCurrentTank k x := rfl
@[simp] theorem setDemand_updRec : (s.setDemand ds).updRec l r = (s.updRec l r).setDemand ds := rfl
@[simp] theorem latchAll_updRec : (s.latchAll ev).updRec l r = (s.updRec l r).latchAll ev := rfl
@[simp] theorem updPort_updRec : (s.updPort p q).updRec l r = (s.updRec l r).updPort p q := rfl

@[simp] theorem setCurrentTank_updTank : (s.setCurrentTank k x).updTank t y = (s.updTank t y).setCurrentTank k x := rfl
@[simp] theorem setDemand_updTank : (s.setDemand ds).updTank t y = (s.updTank t y).setDemand ds := rfl
@[simp] theorem latchAll_updTank : (s.latchAll ev).updTank t y = (s.updTank t y).latchAll ev := rfl
@[simp] theorem updPort_updTank : (s.updPort p q).updTank t y = (s.updTank t y).updPort p q := rfl

@[simp] theorem setDemand_setCurrentTank : (s.setDemand ds).setCurrentTank l x = (s.setCurrentTank l x).setDemand ds := rfl
@[simp] theorem latchAll_setCurrentTank : (s.latchAll ev).setCurrentTank l x = (s.setCurrentTank l x).latchAll ev := rfl
@[simp] theorem updPort_setCurrentTank : (s.updPort p q).setCurrentTank l x = (s.setCurrentTank l x).updPort p q := rfl
@[simp] theorem latchAll_setDemand : (s.latchAll ev).setDemand ds = (s.setDemand ds).latchAll ev := rfl
@[simp] theorem updPort_setDemand : (s.updPort p q).setDemand ds = (s.setDemand ds).updPort p q := rfl

@[simp] theorem updSeq_updSeq (b : Sequencer → Sequencer) : (s.updSeq l a).updSeq l b = s.updSeq l fun x => b (a x) := by
  simp [State.updSeq, PerLine.upd_upd]

@[simp] theorem updRec_updRec (b : Record → Record) : (s.updRec l r).updRec l b = s.updRec l fun x => b (r x) := by
  simp only [State.updRec, PerLine.upd_upd, Option.map_map]
  rfl

end Order

theorem updSeq_congr {s : State} {l : LineId} {f g : Sequencer → Sequencer} (h : f (s.seq.get l) = g (s.seq.get l)) :
    s.updSeq l f = s.updSeq l g := by
  simp only [State.updSeq, PerLine.upd_congr _ _ h]

theorem updRec_congr {s : State} {l : LineId} {f g : Record → Record}
    (h : (s.openRec.get l).map f = (s.openRec.get l).map g) : s.updRec l f = s.updRec l g := by
  simp only [State.updRec, PerLine.upd_congr _ _ h]

theorem updSeq_eq_self {s : State} {l : LineId} {f : Sequencer → Sequencer} (h : f (s.seq.get l) = s.seq.get l) :
    s.updSeq l f = s := by
  simp only [State.updSeq, PerLine.upd_id _ _ h]

end Sys2Proof.Machine


/-! SUPPORT. The invariant of a line in two halves, of its sequencer and of its drive, and what an operation at one line
leaves of the others. -/

namespace Sys2Proof.Machine

/-! ### The invariant of a line in two halves (R2, R3, R21 to R23, R29, R32, R39 to R41, R105) -/

/-- What `State.LineInv` says of a sequencer, from whether its line has an open record, stands on a waiting list and
is covered. -/
structure SequencerFits (q : Sequencer) (record listed covered : Bool) : Prop where
  record : record = q.state.hasStage
  resume : q.resume.isSome = (q.state == .held)
  mix : q.currentMix.isSome = q.state.isGrout
  uncovered : covered = true → q.state ≠ .testing ∧ q.state ≠ .charging ∧ q.state ≠ .injecting
  hold : q.waitHold = (q.state == .held && covered)
  supply : q.waitSupply = listed
  cause : q.state = .held → q.waitHold = true ∨ q.waitSupply = true ∨ q.resumeAfterBurst = true
  waits : q.waitSupply = true ∨ q.resumeAfterBurst = true → q.state = .held
  afterBurst : q.resumeAfterBurst = true → q.waitHold = false ∧ q.waitSupply = false

/-- What `State.LineInv` says of a drive behind its sequencer. -/
structure DriveFits (q : Sequencer) (d : Drive) : Prop where
  purpose : purposeFits q d.purpose = true
  stroke : ∀ k, d.stroke = some k → strokeFits q d k = true
  burst : d.burst.isSome = true → q.state.stands = true
  running : ∀ k, d.stroke = some k → k.running = true → k.purpose ≠ .circulate → 0 < d.rate
  zero : d.burst = none → d.rate = 0 → d.pendingRate = 0
  still : d.burst = none → q.state ≠ .testing → q.state ≠ .charging → q.state ≠ .injecting → q.state ≠ .flushing →
    d.rate = 0 ∧ d.pendingRate = 0
  afterBurst : q.resumeAfterBurst = true → d.burst.isSome = true

theorem lineInv_iff {s : State} {l : LineId} :
    s.LineInv l ↔
      SequencerFits (s.seq.get l) (s.openRec.get l).isSome (onList s.demand l) (s.covered l) ∧
        DriveFits (s.seq.get l) (s.drive.get l) := by
  constructor
  · intro h
    exact ⟨⟨h.record, h.resume, h.mix, h.uncovered, h.hold, h.supply, h.cause, h.waits, fun ha =>
        ⟨(h.afterBurst ha).1, (h.afterBurst ha).2.1⟩⟩,
      ⟨h.purpose, h.stroke, h.burst, h.running, h.zero, h.still, fun ha => (h.afterBurst ha).2.2⟩⟩
  · rintro ⟨h, k⟩
    exact ⟨h.record, h.resume, h.mix, h.uncovered, h.hold, h.supply, h.cause, h.waits, fun ha =>
      ⟨(h.afterBurst ha).1, (h.afterBurst ha).2, k.afterBurst ha⟩, k.purpose, k.stroke, k.burst, k.running, k.zero,
      k.still⟩

/-- The states in which a drive strokes for its sequencer (R32). -/
def LineState.works : LineState → Bool
  | .testing | .charging | .injecting | .flushing => true
  | .off | .idle | .seated | .ready | .held | .fault => false

/-! #### Drives -/

section Drives

variable {q r : Sequencer} {d e : Drive}

/-- What of a sequencer its drive has to fit. -/
def Sequencer.driveView (q : Sequencer) := (q.state, q.resume, q.waitSupply, q.resumeAfterBurst)

theorem DriveFits.of_view (h : DriveFits q d) (hv : r.driveView = q.driveView) : DriveFits r d := by
  simp only [Sequencer.driveView, Prod.mk.injEq] at hv
  obtain ⟨hs, hr, hw, ha⟩ := hv
  refine ⟨?_, ?_, ?_, h.running, h.zero, ?_, ?_⟩
  · rw [← h.purpose]; cases d.purpose <;> simp [purposeFits, hs, hr]
  · intro k hk
    rw [← h.stroke k hk]
    cases hp : k.purpose <;> simp [strokeFits, hp, hs, hr, hw]
  · rw [hs]; exact h.burst
  · rw [hs]; exact h.still
  · rw [ha]; exact h.afterBurst

theorem DriveFits.burst_none (h : DriveFits q d) (hs : q.state.stands = false) : d.burst = none := by
  cases hb : d.burst with
  | none => rfl
  | some n => simp [h.burst (by simp [hb])] at hs

theorem LineState.works_not_stands {st : LineState} (h : st.works = true) : st.stands = false := by
  cases st <;> simp_all [LineState.works, LineState.stands]

theorem purposeFits_none_not_works (h : purposeFits q .none = true) : q.state.works = false := by
  cases hs : q.state <;> simp_all [purposeFits, LineState.works]

/-- A drive at rest fits a line out of the states in which a drive works. -/
theorem driveFits_rest (hp : purposeFits q .none = true) (ha : q.resumeAfterBurst = false) :
    DriveFits q .powerOn :=
  ⟨hp, by simp [Drive.powerOn], by simp [Drive.powerOn], by simp [Drive.powerOn], fun _ _ => rfl,
    fun _ _ _ _ _ => ⟨rfl, rfl⟩, by simp [ha]⟩

/-- A stroke given up, or completed, leaves nothing that could misfit (R35, R37). -/
theorem DriveFits.strokeGone (h : DriveFits q d) : DriveFits q { d with stroke := none, watch := none } :=
  ⟨h.purpose, by simp, h.burst, by simp, h.zero, h.still, h.afterBurst⟩

theorem DriveFits.ratesGone (h : DriveFits q d) (hn : d.stroke = none) :
    DriveFits q { d with rate := 0, pendingRate := 0 } :=
  ⟨h.purpose, by simp [hn], h.burst, by simp [hn], fun _ _ => rfl, fun _ _ _ _ _ => ⟨rfl, rfl⟩, h.afterBurst⟩

/-- The static timer is nothing the invariant speaks of (R39). -/
theorem DriveFits.staticTimer (h : DriveFits q d) (x : Timer) : DriveFits q { d with staticTimer := x } :=
  ⟨h.purpose, h.stroke, h.burst, h.running, h.zero, h.still, h.afterBurst⟩

theorem strokeFits_paused {k : Stroke} (h : strokeFits q d k = true) :
    strokeFits q d { k with running := false } = true := by
  cases hp : k.purpose <;> simp_all [strokeFits]
  all_goals exact h.2.imp_right fun h => ⟨h.1.1, h.2⟩

theorem DriveFits.writeZero (h : DriveFits q d) : DriveFits q d.writeZero := by
  unfold Drive.writeZero
  split
  · exact h
  · refine ⟨h.purpose, ?_, h.burst, ?_, fun _ _ => rfl, fun _ _ _ _ _ => ⟨rfl, rfl⟩, h.afterBurst⟩
    · intro k hk
      obtain ⟨j, hj, rfl⟩ := Option.map_eq_some_iff.mp hk
      exact strokeFits_paused (h.stroke j hj)
    · intro k hk hr
      obtain ⟨j, hj, rfl⟩ := Option.map_eq_some_iff.mp hk
      simp at hr

theorem DriveFits.store_inBurst (h : DriveFits q d) (hb : d.burst.isSome = true) (x : Nat) :
    DriveFits q { d with pendingRate := x } := by
  have hn : d.burst ≠ none := by rintro he; simp [he] at hb
  exact ⟨h.purpose, h.stroke, h.burst, h.running, fun h0 => absurd h0 hn, fun h0 => absurd h0 hn, h.afterBurst⟩

/-- A rate step stored while a stroke runs in a working line (R31). -/
theorem DriveFits.store_running (h : DriveFits q d) (hw : q.state.works = true) (hr : d.isRunning = true) (x : Nat) :
    DriveFits q { d with pendingRate := x } := by
  obtain ⟨k, hk, hrun⟩ : ∃ k, d.stroke = some k ∧ k.running = true := by
    unfold Drive.isRunning at hr
    split at hr
    · exact ⟨_, ‹_›, hr⟩
    · simp at hr
  have hb : d.burst = none := h.burst_none (LineState.works_not_stands hw)
  have hc : k.purpose ≠ .circulate := by
    intro hc
    have := h.stroke k hk
    simp [strokeFits, hc, hb] at this
  refine ⟨h.purpose, h.stroke, h.burst, h.running, fun _ h0 => ?_, fun _ h1 h2 h3 h4 => ?_, h.afterBurst⟩
  · exact absurd h0 (h.running k hk hrun hc).ne'
  · cases hs : q.state <;> simp_all [LineState.works]

theorem strokeFits_restarted (h : DriveFits q d) (hw : q.state.works = true) {k : Stroke}
    (hk : d.stroke = some k) (p : Nat) : strokeFits q d { k with running := true, period := p } = true := by
  have := h.stroke k hk
  cases hp : k.purpose <;> cases hs : q.state <;> simp_all [strokeFits, LineState.works, LineState.stands]

/-- A paused stroke that restarts at a nonzero rate step in a working line (R36). -/
theorem DriveFits.restarted (h : DriveFits q d) (hw : q.state.works = true) {x : Nat} (hx : x ≠ 0) (tmin : Nat) :
    DriveFits q (({ d with pendingRate := x } : Drive).restarted tmin) := by
  have hst : q.state.stands = false := LineState.works_not_stands hw
  refine ⟨h.purpose, ?_, h.burst, ?_, fun _ h0 => absurd h0 hx, fun _ h1 h2 h3 h4 => ?_, h.afterBurst⟩
  · intro k hk
    obtain ⟨j, hj, rfl⟩ := Option.map_eq_some_iff.mp hk
    exact strokeFits_restarted h hw hj _
  · intro k _ _ _
    exact Nat.pos_of_ne_zero hx
  · cases hs : q.state <;> simp_all [LineState.works]

/-- The stroke purpose that a drive with a purpose starts (R33). -/
def Purpose.kind : Purpose → Option StrokePurpose
  | .none => Option.none
  | .test => some .test
  | .charge => some .charge
  | .inject => some .inject
  | .flush => some .flush

/-- A stroke that starts by the drive's purpose, in a working line at a nonzero rate step (R33). -/
theorem DriveFits.started (h : DriveFits q d) (hw : q.state.works = true) {x : Nat} (hx : x ≠ 0) {kind : StrokePurpose}
    (hk : d.purpose.kind = some kind) (source : Source) (volume period : Nat) :
    DriveFits q { d with
      rate := x, pendingRate := x, stroke := some ⟨kind, source, volume, true, period⟩, watch := some 0 } := by
  have hb : d.burst = none := h.burst_none (LineState.works_not_stands hw)
  refine ⟨h.purpose, ?_, h.burst, fun _ _ _ _ => Nat.pos_of_ne_zero hx, fun _ h0 => absurd h0 hx,
    fun _ h1 h2 h3 h4 => ?_, h.afterBurst⟩
  · intro k hk'
    obtain rfl : _ = k := Option.some.inj hk'
    have hp := h.purpose
    cases hd : d.purpose <;> rw [hd] at hk hp <;> simp only [Purpose.kind, Option.some.injEq, reduceCtorEq] at hk <;>
      subst hk <;> cases hs : q.state <;> simp_all [strokeFits, purposeFits, LineState.works]
  · cases hs : q.state <;> simp_all [LineState.works]

end Drives

/-! #### Waiting lists (R24, R106, R107) -/

theorem onList_iff {ds : List DemandEntry} {k : LineId} : onList ds k = true ↔ ∃ e ∈ ds, k ∈ e.waiting := by
  simp [onList]

theorem onList_strikeLine (ds : List DemandEntry) (l k : LineId) :
    onList (strikeLine ds l) k = (onList ds k && k != l) := by
  rw [Bool.eq_iff_iff]
  simp only [onList_iff, strikeLine, List.mem_map, Bool.and_eq_true, bne_iff_ne, ne_eq]
  constructor
  · rintro ⟨_, ⟨e, he, rfl⟩, hk⟩
    simp only [List.mem_filter, bne_iff_ne, ne_eq] at hk
    exact ⟨⟨e, he, hk.1⟩, hk.2⟩
  · rintro ⟨⟨e, he, hk⟩, hne⟩
    exact ⟨_, ⟨e, he, rfl⟩, by simp [hk, hne]⟩

theorem onList_dropEmptied (ds : List DemandEntry) (k : LineId) : onList (dropEmptied ds) k = onList ds k := by
  rw [Bool.eq_iff_iff]
  simp only [onList_iff, dropEmptied, List.mem_filter]
  constructor
  · rintro ⟨e, ⟨he, -⟩, hk⟩
    exact ⟨e, he, hk⟩
  · rintro ⟨e, he, hk⟩
    refine ⟨e, ⟨he, ?_⟩, hk⟩
    cases hw : e.waiting with
    | nil => simp [hw] at hk
    | cons a as => rfl

theorem onList_joinDemand (ds : List DemandEntry) (mix : Nat) (l : LineId) (now : Stamp) (k : LineId) :
    onList (joinDemand ds mix l now) k = (onList ds k || k == l) := by
  rw [Bool.eq_iff_iff]
  simp only [onList_iff, joinDemand, Bool.or_eq_true, beq_iff_eq]
  split
  · rename_i ha
    obtain ⟨m, hm, hmix⟩ := List.any_eq_true.mp ha
    simp only [beq_iff_eq] at hmix
    constructor
    · rintro ⟨e, he, hk⟩
      obtain ⟨d, hd, rfl⟩ := List.mem_map.mp he
      split at hk
      · rcases List.mem_append.mp hk with hk | hk
        · exact .inl ⟨d, hd, hk⟩
        · exact .inr (List.mem_singleton.mp hk)
      · exact .inl ⟨d, hd, hk⟩
    · rintro (⟨e, he, hk⟩ | rfl)
      · refine ⟨_, List.mem_map_of_mem he, ?_⟩
        split
        · exact List.mem_append_left _ hk
        · exact hk
      · refine ⟨_, List.mem_map_of_mem hm, ?_⟩
        simp [hmix]
  · simp only [List.mem_append, List.mem_singleton]
    constructor
    · rintro ⟨e, he | rfl, hk⟩
      · exact .inl ⟨e, he, hk⟩
      · exact .inr (List.mem_singleton.mp hk)
    · rintro (⟨e, he, hk⟩ | rfl)
      · exact ⟨e, .inl he, hk⟩
      · exact ⟨_, .inr rfl, List.mem_singleton_self k⟩

/-! #### What an operation at a line leaves to the other lines -/

/-- The operation touches no line but `l`, and takes no other line onto a waiting list or off one. -/
structure Apart (l : LineId) (s t : State) : Prop where
  only : LineOnly l s t
  waits : ∀ k, k ≠ l → onList t.demand k = onList s.demand k

section Apart

variable {l : LineId} {s t u : State}

theorem Apart.refl (l : LineId) (s : State) : Apart l s s := ⟨LineOnly.refl l s, fun _ _ => rfl⟩

theorem Apart.trans (h : Apart l s t) (k : Apart l t u) : Apart l s u :=
  ⟨h.only.trans k.only, fun j hj => (k.waits j hj).trans (h.waits j hj)⟩

theorem apart_of_demand (h : LineOnly l s t) (hd : t.demand = s.demand) : Apart l s t :=
  ⟨h, fun _ _ => by rw [hd]⟩

theorem LineOnly.covered (h : LineOnly l s t) (k : LineId) : t.covered k = s.covered k := by
  simp only [State.covered, h.holds]

/-- A line of which the invariant's parts are the same. -/
theorem State.LineInv.of_same {k : LineId} (h : s.LineInv k) (hq : t.seq.get k = s.seq.get k)
    (hd : t.drive.get k = s.drive.get k) (hr : (t.openRec.get k).isSome = (s.openRec.get k).isSome)
    (hw : onList t.demand k = onList s.demand k) (hc : t.covered k = s.covered k) : t.LineInv k := by
  rw [lineInv_iff] at h ⊢
  rwa [hq, hd, hr, hw, hc]

/-- A line is sound as it would be under a cover that the hold map has had or has (R21, R116). -/
def State.FitsUnder (s : State) (c : LineId → Bool) (k : LineId) : Prop :=
  SequencerFits (s.seq.get k) (s.openRec.get k).isSome (onList s.demand k) (c k) ∧
    DriveFits (s.seq.get k) (s.drive.get k)

theorem State.FitsUnder.of_same {c : LineId → Bool} {k : LineId} (h : s.FitsUnder c k) (hq : t.seq.get k = s.seq.get k)
    (hd : t.drive.get k = s.drive.get k) (hr : (t.openRec.get k).isSome = (s.openRec.get k).isSome)
    (hw : onList t.demand k = onList s.demand k) : t.FitsUnder c k := by
  unfold State.FitsUnder
  rwa [hq, hd, hr, hw]

/-- Every line but perhaps `l` is sound under its cover, and the cover of `l` is the one the hold map gives. -/
structure State.InvBut (c : LineId → Bool) (l : LineId) (s : State) : Prop where
  cover : c l = s.covered l
  fits : ∀ k, k ≠ l → s.FitsUnder c k

/-- Every line is sound under its cover, and the cover of `l` is the one the hold map gives. -/
structure State.InvAt (c : LineId → Bool) (l : LineId) (s : State) : Prop where
  cover : c l = s.covered l
  fits : ∀ k, s.FitsUnder c k

theorem State.InvAt.line {c : LineId → Bool} (h : s.InvAt c l) : s.LineInv l := by
  have := h.fits l
  rwa [State.FitsUnder, h.cover, ← lineInv_iff] at this

theorem State.InvAt.but {c : LineId → Bool} (h : s.InvAt c l) : s.InvBut c l := ⟨h.cover, fun k _ => h.fits k⟩

theorem State.LinesInv.at (h : s.LinesInv) (l : LineId) : s.InvAt s.covered l := ⟨rfl, fun k => lineInv_iff.mp (h k)⟩

theorem State.InvAt.lines {c : LineId → Bool} (h : s.InvAt c l) (hc : ∀ k, c k = s.covered k) : s.LinesInv := by
  intro k
  have := h.fits k
  rwa [State.FitsUnder, hc, ← lineInv_iff] at this

theorem State.InvBut.of_apart {c : LineId → Bool} (h : s.InvBut c l) (ha : Apart l s t) (hl : t.LineInv l) :
    t.InvAt c l := by
  have hc : c l = t.covered l := h.cover.trans (ha.only.covered l).symm
  refine ⟨hc, fun k => ?_⟩
  by_cases hk : k = l
  · subst hk
    rw [State.FitsUnder, hc, ← lineInv_iff]
    exact hl
  · obtain ⟨hq, hd, -, hr, -, -⟩ := ha.only.lines k hk
    exact (h.fits k hk).of_same hq hd (by rw [hr]) (ha.waits k hk)

theorem State.InvAt.of_apart {c : LineId → Bool} (h : s.InvAt c l) (ha : Apart l s t) (hl : t.LineInv l) :
    t.InvAt c l := h.but.of_apart ha hl

theorem State.InvAt.of_same {c : LineId → Bool} (h : s.InvAt c l) (hq : t.seq = s.seq) (hd : t.drive = s.drive)
    (hr : ∀ k, (t.openRec.get k).isSome = (s.openRec.get k).isSome) (hw : t.demand = s.demand) (hc : t.holds = s.holds) :
    t.InvAt c l :=
  ⟨by rw [h.cover, State.covered, State.covered, hc], fun k =>
    (h.fits k).of_same (by rw [hq]) (by rw [hd]) (hr k) (by rw [hw])⟩

end Apart
end Sys2Proof.Machine


/-! SUPPORT. The line invariant through updates, stage ends and the demand queue. -/

namespace Sys2Proof.Machine

section InvAt

variable {c : LineId → Bool} {l : LineId} {s t u : State}

/-! #### Changes the invariant does not see -/

theorem apart_updSeq (u : State) (l : LineId) (f : Sequencer → Sequencer) : Apart l u (u.updSeq l f) :=
  apart_of_demand ((LineOnly.refl l u).updSeq f) rfl

theorem apart_updDrive (u : State) (l : LineId) (f : Drive → Drive) : Apart l u (u.updDrive l f) :=
  apart_of_demand ((LineOnly.refl l u).updDrive f) rfl

theorem State.InvAt.updReg (h : u.InvAt c l) (f : Regulator → Regulator) : (u.updReg l f).InvAt c l :=
  h.of_same rfl rfl (fun _ => rfl) rfl rfl

theorem State.InvAt.updRec (h : u.InvAt c l) (f : Record → Record) : (u.updRec l f).InvAt c l :=
  h.of_same rfl rfl (fun k => by simp only [State.updRec_openRec, PerLine.get_upd]; split <;> simp) rfl rfl

theorem State.InvAt.latchAll (h : u.InvAt c l) (e : Event) : (u.latchAll e).InvAt c l :=
  h.of_same rfl rfl (fun _ => rfl) rfl rfl

theorem State.InvAt.updPort (h : u.InvAt c l) (p : Port) (f : PortState → PortState) : (u.updPort p f).InvAt c l :=
  h.of_same rfl rfl (fun _ => rfl) rfl rfl

theorem State.InvAt.updTank (h : u.InvAt c l) (k : TankId) (f : Tank → Tank) : (u.updTank k f).InvAt c l :=
  h.of_same rfl rfl (fun _ => rfl) rfl rfl

theorem State.InvAt.payFrom (h : u.InvAt c l) (k : TankId) (e : Nat) : (u.payFrom l k e).InvAt c l :=
  h.of_same rfl rfl (fun _ => rfl) rfl rfl

/-- What `LineInv` reads of a sequencer. -/
def Sequencer.invView (q : Sequencer) :=
  (q.state, q.resume, q.currentMix.isSome, q.waitHold, q.waitSupply, q.resumeAfterBurst)

theorem SequencerFits.of_view {q r : Sequencer} {record listed covered : Bool}
    (h : SequencerFits q record listed covered) (hv : r.invView = q.invView) : SequencerFits r record listed covered := by
  simp only [Sequencer.invView, Prod.mk.injEq] at hv
  obtain ⟨hs, hr, hm, hw, hp, ha⟩ := hv
  exact ⟨by rw [hs]; exact h.record, by rw [hr, hs]; exact h.resume, by rw [hm, hs]; exact h.mix,
    by rw [hs]; exact h.uncovered, by rw [hw, hs]; exact h.hold, by rw [hp]; exact h.supply,
    by rw [hs, hw, hp, ha]; exact h.cause, by rw [hs, hp, ha]; exact h.waits, by rw [ha, hw, hp]; exact h.afterBurst⟩

theorem Sequencer.driveView_of_invView {q r : Sequencer} (h : r.invView = q.invView) : r.driveView = q.driveView := by
  simp only [Sequencer.invView, Sequencer.driveView, Prod.mk.injEq] at h ⊢
  exact ⟨h.1, h.2.1, h.2.2.2.2⟩

/-- A sequencer changed in fields that the invariant does not read. -/
theorem State.InvAt.updSeq (h : u.InvAt c l) {f : Sequencer → Sequencer}
    (hf : (f (u.seq.get l)).invView = (u.seq.get l).invView) : (u.updSeq l f).InvAt c l := by
  refine h.of_apart (apart_updSeq u l f) (lineInv_iff.mpr ?_)
  obtain ⟨hq, hd⟩ := lineInv_iff.mp h.line
  simp only [State.updSeq_seq, PerLine.get_upd_self, State.updSeq_drive, State.updSeq_openRec, State.updSeq_demand]
  exact ⟨hq.of_view hf, hd.of_view (Sequencer.driveView_of_invView hf)⟩

/-- A line whose sequencer and drive are changed together, and no other line. -/
theorem State.InvAt.updBoth (h : u.InvAt c l) {f : Sequencer → Sequencer} {g : Drive → Drive}
    (hq : SequencerFits (f (u.seq.get l)) (u.openRec.get l).isSome (onList u.demand l) (u.covered l))
    (hd : DriveFits (f (u.seq.get l)) (g (u.drive.get l))) : ((u.updSeq l f).updDrive l g).InvAt c l := by
  refine h.of_apart ((apart_updSeq u l f).trans (apart_updDrive _ l g)) (lineInv_iff.mpr ⟨?_, ?_⟩)
  · simp only [State.updDrive_seq, State.updSeq_seq, PerLine.get_upd_self]
    exact hq
  · simp only [State.updDrive_seq, State.updSeq_seq, PerLine.get_upd_self, State.updDrive_drive, State.updSeq_drive]
    exact hd

theorem State.InvAt.moveSeq (h : u.InvAt c l) {f : Sequencer → Sequencer}
    (hq : SequencerFits (f (u.seq.get l)) (u.openRec.get l).isSome (onList u.demand l) (u.covered l))
    (hd : DriveFits (f (u.seq.get l)) (u.drive.get l)) : (u.updSeq l f).InvAt c l := by
  have := h.updBoth (g := id) hq hd
  rwa [updDrive_eq_self rfl] at this

theorem State.InvAt.updDrive (h : u.InvAt c l) {g : Drive → Drive}
    (hd : DriveFits (u.seq.get l) (u.drive.get l) → DriveFits (u.seq.get l) (g (u.drive.get l))) :
    (u.updDrive l g).InvAt c l := by
  obtain ⟨hq, hd'⟩ := lineInv_iff.mp h.line
  refine h.of_apart (apart_updDrive u l g) (lineInv_iff.mpr ⟨hq, ?_⟩)
  simpa only [State.updDrive_seq, State.updDrive_drive, PerLine.get_upd_self] using hd hd'

theorem State.InvAt.seqFits (h : u.InvAt c l) :
    SequencerFits (u.seq.get l) (u.openRec.get l).isSome (onList u.demand l) (u.covered l) :=
  (lineInv_iff.mp h.line).1

theorem State.InvAt.driveFits (h : u.InvAt c l) : DriveFits (u.seq.get l) (u.drive.get l) :=
  (lineInv_iff.mp h.line).2

theorem State.InvAt.staticTimer (h : u.InvAt c l) (x : Timer) :
    (u.updDrive l fun d => { d with staticTimer := x }).InvAt c l :=
  h.updDrive fun hd => hd.staticTimer x

theorem State.InvAt.abandonStroke (h : u.InvAt c l) : (u.abandonStroke l).InvAt c l := by
  unfold State.abandonStroke
  split
  · exact h
  · split
    · exact (h.updRec _).updDrive fun hd => hd.strokeGone
    · exact h.updDrive fun hd => hd.strokeGone

/-! #### The end of a stage (R24, R26) -/

/-- A line whose stage, if it had one, has ended: nothing of it is left but its line state (R24). -/
structure State.Cleared (s : State) (l : LineId) : Prop where
  record : s.openRec.get l = none
  resume : (s.seq.get l).resume = none
  mix : (s.seq.get l).currentMix = none
  hold : (s.seq.get l).waitHold = false
  supply : (s.seq.get l).waitSupply = false
  afterBurst : (s.seq.get l).resumeAfterBurst = false
  listed : onList s.demand l = false
  drive : s.drive.get l = .powerOn

theorem closeRecord_demand (u : State) (l : LineId) (fin : FinalValues) (reason : EndReason) (origin : Option Port)
    (quiet : Bool) : (u.closeRecord l fin reason origin quiet).demand = u.demand := by
  have hroom : ∀ n, (u.makeRoom n quiet).demand = u.demand := by
    intro n
    unfold State.makeRoom
    split
    · rfl
    · split <;> rfl
  unfold State.closeRecord
  split
  · rfl
  · unfold State.latchUnless
    dsimp only
    split <;> exact hroom _

theorem dropSlot_demand (u : State) (l : LineId) (quiet : Bool) : (u.dropSlot l quiet).demand = u.demand := by
  unfold State.dropSlot State.latchUnless
  split
  · rfl
  · split <;> rfl

theorem addHeld_demand (u : State) (l : LineId) : (u.addHeld l).demand = u.demand := by
  unfold State.addHeld
  split <;> rfl

theorem abandonStroke_demand (u : State) (l : LineId) : (u.abandonStroke l).demand = u.demand := by
  unfold State.abandonStroke
  split
  · rfl
  · split <;> rfl

theorem onList_leaveDemand (u : State) (l : LineId) (quiet : Bool) (k : LineId) :
    onList (u.leaveDemand l quiet).demand k = (onList u.demand k && k != l) := by
  unfold State.leaveDemand State.latchUnless
  dsimp only
  split
  · have : onList (dropEmptied (strikeLine u.demand l)) k = (onList u.demand k && k != l) := by
      rw [onList_dropEmptied, onList_strikeLine]
    split <;> exact this
  · rename_i hl
    simp only [State.setCurrentTank]
    by_cases hk : k = l
    · simp [hk, hl]
    · simp [hk]

theorem onList_endStage (u : State) (l : LineId) (reason : EndReason) (origin : Option Port) (quiet : Bool)
    (k : LineId) : onList (u.endStage l reason origin quiet).demand k = (onList u.demand k && k != l) := by
  have hq : ∀ v : State, (v.endTimers l).demand = v.demand := by
    intro v
    unfold State.endTimers
    dsimp only
    split
    · exact addHeld_demand v l
    · rfl
  unfold State.endStage State.clearCauses
  rw [closeRecord_demand, dropSlot_demand, State.updSeq_demand, hq, onList_leaveDemand]
  simp only [State.stopDrive, State.updDrive_demand, abandonStroke_demand]

theorem apart_endStage (u : State) (l : LineId) (reason : EndReason) (origin : Option Port) (quiet : Bool) :
    Apart l u (u.endStage l reason origin quiet) :=
  ⟨(LineOnly.refl l u).endStage reason origin quiet, fun k hk => by simp [onList_endStage, hk]⟩

theorem dropSlot_seq (u : State) (l : LineId) (quiet : Bool) :
    (u.dropSlot l quiet).seq.get l = { u.seq.get l with slot := none } := by
  unfold State.dropSlot State.latchUnless
  split
  · rename_i hs
    rw [← hs]
  · split <;> simp [State.latchAll]

theorem cleared_endStage (u : State) (l : LineId) (reason : EndReason) (origin : Option Port) (quiet : Bool) :
    (u.endStage l reason origin quiet).Cleared l := by
  have hseq : (u.endStage l reason origin quiet).seq.get l =
      { (((u.stopDrive l).leaveDemand l quiet).endTimers l).seq.get l with
        waitHold := false, waitSupply := false, resume := none, resumeAfterBurst := false, currentMix := none
        slot := none } := by
    unfold State.endStage State.clearCauses
    rw [closeRecord_seq, dropSlot_seq, State.updSeq_seq, PerLine.get_upd_self]
  exact ⟨closeRecord_openRec .., by rw [hseq], by rw [hseq], by rw [hseq], by rw [hseq], by rw [hseq],
    by simp [onList_endStage], endStage_drive ..⟩

/-- A line without a stage, in a state out of which no grout flows, fits whatever its cover is. -/
theorem State.Cleared.seqFits (h : s.Cleared l) {f : Sequencer → Sequencer} {st : LineState}
    (hf : f (s.seq.get l) = { f (s.seq.get l) with
      state := st, resume := none, currentMix := none, waitHold := false, waitSupply := false, resumeAfterBurst := false })
    (hst : st = .idle ∨ st = .fault ∨ st = .flushing) :
    SequencerFits (f (s.seq.get l)) (s.openRec.get l).isSome (onList s.demand l) (s.covered l) := by
  rw [hf, h.record, h.listed]
  rcases hst with rfl | rfl | rfl <;>
    exact ⟨rfl, rfl, rfl, by simp, rfl, rfl, by simp, by simp, by simp⟩

end InvAt
end Sys2Proof.Machine


/-! SUPPORT. The line invariant through faults and supply waits. -/

namespace Sys2Proof.Machine

section InvAt

variable {c : LineId → Bool} {l : LineId} {s t u : State}

theorem State.Cleared.driveFits (h : s.Cleared l) {q : Sequencer} (hq : q.state = .idle ∨ q.state = .fault)
    (ha : q.resumeAfterBurst = false) : DriveFits q (s.drive.get l) := by
  rw [h.drive]
  refine driveFits_rest ?_ ha
  rcases hq with hq | hq <;> simp [purposeFits, hq]

theorem State.InvAt.enterFault_endStage (h : u.InvAt c l) (reason : EndReason) (origin : Option Port)
    (quiet : Bool) (cause : FaultCause) : ((u.endStage l reason origin quiet).enterFault l cause).InvAt c l := by
  have hc := cleared_endStage u l reason origin quiet
  have ha := apart_endStage u l reason origin quiet
  generalize u.endStage l reason origin quiet = v at hc ha
  refine State.InvAt.latchAll (h.of_apart (ha.trans (apart_updSeq v l _)) (lineInv_iff.mpr ?_)) _
  simp only [State.updSeq_seq, PerLine.get_upd_self]
  refine ⟨hc.seqFits (f := fun q => { q.released with state := .fault, faultCause := some cause }) (st := .fault) ?_
    (by simp), hc.driveFits (.inr rfl) hc.afterBurst⟩
  simp [Sequencer.released, hc.resume, hc.mix, hc.hold, hc.supply, hc.afterBurst]

theorem State.InvAt.enterIdle_endStage (h : u.InvAt c l) (reason : EndReason) (origin : Option Port) (quiet : Bool) :
    ((u.endStage l reason origin quiet).enterIdle l).InvAt c l := by
  have hc := cleared_endStage u l reason origin quiet
  have ha := apart_endStage u l reason origin quiet
  generalize u.endStage l reason origin quiet = v at hc ha
  refine h.of_apart (ha.trans (apart_updSeq v l fun q => { q.released with state := .idle })) (lineInv_iff.mpr ?_)
  unfold State.enterIdle
  simp only [State.updSeq_seq, PerLine.get_upd_self]
  refine ⟨hc.seqFits (f := fun q => { q.released with state := .idle }) (st := .idle) ?_ (by simp),
    hc.driveFits (.inl rfl) hc.afterBurst⟩
  simp [Sequencer.released, hc.resume, hc.mix, hc.hold, hc.supply, hc.afterBurst]

theorem State.InvAt.dropSlot (h : u.InvAt c l) (quiet : Bool) : (u.dropSlot l quiet).InvAt c l := by
  unfold State.dropSlot State.latchUnless
  split
  · exact h
  · split
    · exact h.updSeq rfl
    · exact (h.updSeq rfl).latchAll _

/-- A line without a stage keeps fitting when its drive is stopped and it goes to FAULT (R26). -/
theorem State.InvAt.enterFault_stopped (h : u.InvAt c l) (hs : u.lineState l = .flushing ∨ u.lineState l = .idle)
    {f : Sequencer → Sequencer} (hf : (f (u.seq.get l)).invView = (u.seq.get l).invView) (cause : FaultCause) :
    (((u.stopDrive l).updSeq l f).enterFault l cause).InvAt c l := by
  have hd : ∀ v : State, v.updDrive l (fun _ => .powerOn) = v.updDrive l fun _ => .powerOn := fun _ => rfl
  have hab := h.abandonStroke 
  have hq := hab.seqFits
  have hst : (u.abandonStroke l).lineState l = u.lineState l := by simp only [State.lineState, abandonStroke_seq]
  have hf' : (f ((u.abandonStroke l).seq.get l)).invView = ((u.abandonStroke l).seq.get l).invView := by
    rw [abandonStroke_seq]; exact hf
  rw [← hst] at hs
  unfold State.stopDrive
  generalize u.abandonStroke l = v at hab hq hs hf'
  have hq' := hq.of_view hf'
  have hstate : (f (v.seq.get l)).state = .flushing ∨ (f (v.seq.get l)).state = .idle := by
    have : (f (v.seq.get l)).state = v.lineState l := congrArg Prod.fst hf'
    rwa [this]
  refine State.InvAt.latchAll ?_ _
  refine hab.of_apart (((apart_updDrive v l _).trans (apart_updSeq _ l _)).trans (apart_updSeq _ l _)) (lineInv_iff.mpr ?_)
  simp only [State.updSeq_seq, State.updDrive_seq, PerLine.get_upd_self, State.updSeq_drive, State.updDrive_drive,
    State.updSeq_openRec, State.updDrive_openRec, State.updSeq_demand, State.updDrive_demand]
  have hno : (f (v.seq.get l)).resumeAfterBurst = false ∧ (f (v.seq.get l)).waitSupply = false := by
    have := hq'.waits
    rcases hstate with h1 | h1 <;> simp_all
  have hcov : ∀ x : State, (x.covered l = true → LineState.fault ≠ .testing ∧ LineState.fault ≠ .charging ∧
      LineState.fault ≠ .injecting) := fun _ _ => by simp
  refine ⟨⟨?_, ?_, ?_, hcov _, ?_, hq'.supply, by simp, by simp [Sequencer.released, hno],
    by simp [Sequencer.released, hno]⟩, driveFits_rest (by simp [purposeFits]) hno.1⟩
  · rw [hq'.record]; rcases hstate with h1 | h1 <;> rw [h1] <;> rfl
  · exact hq'.resume.trans (by rcases hstate with h1 | h1 <;> rw [h1] <;> rfl)
  · exact hq'.mix.trans (by rcases hstate with h1 | h1 <;> rw [h1] <;> rfl)
  · exact hq'.hold.trans (by rcases hstate with h1 | h1 <;> rw [h1] <;> rfl)

theorem State.InvAt.lineFault (h : u.InvAt c l) (cause : FaultCause) : (u.lineFault l cause).InvAt c l := by
  unfold State.lineFault
  split
  iterate 6 exact h.enterFault_endStage _ _ _ _
  · rename_i hs
    unfold State.dropSlot State.latchUnless
    split
    · exact h.enterFault_stopped (.inl hs) rfl cause
    · have := h.enterFault_stopped (.inl hs) (f := fun q => { q with flushCount := 0, nf := 0, slot := none }) rfl cause
      rw [← updSeq_updSeq (a := fun q => { q with flushCount := 0, nf := 0 })
        (b := fun q => { q with slot := none })] at this
      exact this.of_same rfl rfl (fun _ => rfl) rfl rfl
  · exact h.enterFault_stopped (.inr ‹_›) rfl cause
  · exact h.updSeq rfl
  · exact h

theorem State.InvAt.strokeFailure (h : u.InvAt c l) : (u.strokeFailure l).InvAt c l :=
  State.InvAt.lineFault (h.abandonStroke.updDrive fun hd => hd.ratesGone (abandonStroke_stroke u l)) _

/-! #### Strokes started, and supply waited for (R22, R33, R101) -/

/-! What a supply wait makes of each block (R22, R106). -/

section SupplyWait

variable {r : Resume} (hr : (u.lineState l).asResume = some r) (mix : Nat)

include hr

theorem supplyWait_eq :
    u.supplyWait l mix =
      (((((u.setDemand (joinDemand u.demand mix l u.stamp)).latchAll .supplyWait).updDrive l
        fun d => { d with rate := 0, pendingRate := 0, staticTimer := u.staticStart l }).updSeq l
        fun q => { q.heldAs u r with waitSupply := true }).updReg l Regulator.standing).updRec l
        fun k => { k with supplyEpisodes := min 65535 (k.supplyEpisodes + 1) } := by
  unfold State.supplyWait
  simp only [hr]
  simp [State.enterHeld, State.updSeq, State.updDrive, State.updReg, State.updRec, State.latchAll, State.setDemand,
    PerLine.upd_upd, State.staticStart]
  exact ⟨rfl, rfl, rfl, rfl⟩

theorem supplyWait_seq : (u.supplyWait l mix).seq.get l = { (u.seq.get l).heldAs u r with waitSupply := true } := by
  simp [supplyWait_eq hr, State.latchAll, State.setDemand]

theorem supplyWait_drive : (u.supplyWait l mix).drive.get l =
    { u.drive.get l with rate := 0, pendingRate := 0, staticTimer := u.staticStart l } := by
  simp [supplyWait_eq hr, State.latchAll, State.setDemand]

theorem supplyWait_reg : (u.supplyWait l mix).reg.get l = (u.reg.get l).standing := by
  simp [supplyWait_eq hr, State.latchAll, State.setDemand]

theorem supplyWait_openRec : (u.supplyWait l mix).openRec.get l =
    (u.openRec.get l).map fun k => { k with supplyEpisodes := min 65535 (k.supplyEpisodes + 1) } := by
  simp [supplyWait_eq hr, State.latchAll, State.setDemand]

theorem supplyWait_demand : (u.supplyWait l mix).demand = joinDemand u.demand mix l u.stamp := by
  simp [supplyWait_eq hr, State.latchAll, State.setDemand]

end SupplyWait

/-- A line in CHARGING or INJECTING without a stroke that waits for supply (R22). -/
theorem State.InvAt.supplyWait (h : u.InvAt c l) (hn : (u.drive.get l).stroke = none)
    (hs : u.lineState l = .charging ∨ u.lineState l = .injecting) (x mix : Nat) :
    ((u.updDrive l fun d => { d with pendingRate := x }).supplyWait l mix).InvAt c l := by
  obtain ⟨r, hr, hstate⟩ : ∃ r, (u.lineState l).asResume = some r ∧ (u.seq.get l).state = r.lineState := by
    rcases hs with hs | hs
    · exact ⟨.charging, by rw [hs]; rfl, hs⟩
    · exact ⟨.injecting, by rw [hs]; rfl, hs⟩
  have hq := h.seqFits
  have hd := h.driveFits
  have hr' : ((u.updDrive l fun d => { d with pendingRate := x }).lineState l).asResume = some r := hr
  have ha : Apart l u ((u.updDrive l fun d => { d with pendingRate := x }).supplyWait l mix) := by
    refine ⟨((LineOnly.refl l u).updDrive _).supplyWait mix, fun k hk => ?_⟩
    rw [supplyWait_demand hr', onList_joinDemand]
    simp [hk]
  have hb : (u.drive.get l).burst = none := hd.burst_none (by rw [hstate]; cases r <;> rfl)
  have hcov : u.covered l = false := by
    by_contra hc
    have := hq.uncovered (by simpa using hc)
    cases r <;> simp_all [Resume.lineState]
  have hafter : (u.seq.get l).resumeAfterBurst = false := by
    by_contra hc
    have := hq.waits (.inr (by simpa using hc))
    cases r <;> simp_all [Resume.lineState]
  refine h.of_apart ha (lineInv_iff.mpr ?_)
  rw [ha.only.covered, hcov, supplyWait_seq hr', supplyWait_drive hr', supplyWait_openRec hr', supplyWait_demand hr',
    onList_joinDemand]
  simp only [State.updDrive_seq, State.updDrive_drive, PerLine.get_upd_self, State.updDrive_openRec, Option.isSome_map,
    Sequencer.heldAs, BEq.rfl, Bool.or_true]
  refine ⟨⟨?_, rfl, ?_, by simp, ?_, rfl, by simp, fun _ => rfl, by simp [hafter]⟩, ⟨?_, by simp [hn], by simp [hb],
    by simp [hn], fun _ _ => rfl, fun _ _ _ _ _ => ⟨rfl, rfl⟩, by simp [hafter]⟩⟩
  · rw [hq.record, hstate]; cases r <;> rfl
  · rw [hq.mix, hstate]; cases r <;> rfl
  · rw [hq.hold, hstate]; cases r <;> rfl
  · have := hd.purpose
    cases hp : (u.drive.get l).purpose <;> cases r <;> simp_all [purposeFits, Resume.lineState]

end InvAt
end Sys2Proof.Machine


/-! SUPPORT. The line invariant through stroke starts and writes of the rate step. -/

namespace Sys2Proof.Machine

section InvAt

variable {c : LineId → Bool} {l : LineId} {s t u : State}

/-- A pending rate step stored and nothing else (R31). -/
abbrev State.storeRate (u : State) (l : LineId) (x : Nat) : State := u.updDrive l fun d => { d with pendingRate := x }

theorem State.InvAt.runStroke (h : u.InvAt c l) (hw : (u.lineState l).works = true) {x : Nat} (hx : x ≠ 0)
    {kind : StrokePurpose} (hk : (u.drive.get l).purpose.kind = some kind) (source : Source) :
    ((u.storeRate l x).runStroke l kind source).InvAt c l := by
  have hd := (h.driveFits).started hw hx hk source (u.strokeVolume l) (u.period l x)
  refine h.of_apart (apart_of_demand (((LineOnly.refl l u).updDrive _).runStroke _ _) rfl) (lineInv_iff.mpr ?_)
  simp only [State.runStroke, State.updSeq_seq, State.updDrive_seq, State.updSeq_drive, State.updDrive_drive,
    PerLine.get_upd_self, State.storeRate]
  exact ⟨(h.seqFits).of_view rfl, hd.of_view rfl⟩

theorem State.InvAt.runGrout (h : u.InvAt c l) (hw : (u.lineState l).works = true) {x : Nat} (hx : x ≠ 0)
    {kind : StrokePurpose} (hk : (u.drive.get l).purpose.kind = some kind) (k : TankId) :
    ((u.storeRate l x).runGrout l kind k).InvAt c l :=
  (h.runStroke hw hx hk _).updSeq rfl

theorem mix_of_grout (h : u.InvAt c l) (hs : u.lineState l = .charging ∨ u.lineState l = .injecting) :
    ∃ mix, (u.seq.get l).currentMix = some mix := by
  refine Option.isSome_iff_exists.mp ((h.seqFits).mix.trans ?_)
  rcases hs with hs | hs <;> rw [show (u.seq.get l).state = _ from hs] <;> rfl

theorem State.InvAt.startGrout (h : u.InvAt c l) (hn : (u.drive.get l).stroke = none)
    (hs : u.lineState l = .charging ∨ u.lineState l = .injecting) {x : Nat} (hx : x ≠ 0) {kind : StrokePurpose}
    (hk : (u.drive.get l).purpose.kind = some kind) (given : Option TankId) :
    ((u.storeRate l x).startGrout l kind given).InvAt c l := by
  have hw : (u.lineState l).works = true := by rcases hs with hs | hs <;> rw [hs] <;> rfl
  obtain ⟨mix, hmix⟩ := mix_of_grout h hs
  unfold State.startGrout
  split
  · exact h.runGrout hw hx hk _
  · rw [show ((u.storeRate l x).seq.get l).currentMix = some mix from hmix]
    dsimp only
    split
    · rename_i k _
      exact State.InvAt.runGrout (u := u.payFrom l k (u.strokeVolume l)) (h.payFrom _ _) hw hx hk _
    · exact h.supplyWait hn hs x mix

theorem worksWith_purpose {q : Sequencer} {p : Purpose} (h : purposeFits q p = true) (hw : q.state.works = true) :
    (p = .test ∧ q.state = .testing) ∨ (p = .flush ∧ q.state = .flushing) ∨ (p = .charge ∧ q.state = .charging) ∨
      (p = .inject ∧ q.state = .injecting) := by
  cases hs : q.state <;> cases p <;> simp_all [purposeFits, LineState.works]

theorem State.InvAt.startStroke (h : u.InvAt c l) (hn : (u.drive.get l).stroke = none)
    (hw : (u.lineState l).works = true) {x : Nat} (hx : x ≠ 0) (given : Option TankId) :
    ((u.storeRate l x).startStroke l given).InvAt c l := by
  have hp : ((u.storeRate l x).drive.get l).purpose = (u.drive.get l).purpose := by simp
  unfold State.startStroke
  rw [hp]
  rcases worksWith_purpose (h.driveFits).purpose hw with ⟨hd, -⟩ | ⟨hd, -⟩ | ⟨hd, hs⟩ | ⟨hd, hs⟩ <;> rw [hd]
  · exact h.runStroke hw hx (by rw [hd]; rfl) _
  · exact h.runStroke hw hx (by rw [hd]; rfl) _
  · exact h.startGrout hn (.inl hs) hx (by rw [hd]; rfl) given
  · exact h.startGrout hn (.inr hs) hx (by rw [hd]; rfl) given

/-! #### Writes of the rate step (R31, R36) -/

theorem State.InvAt.restartStroke (h : u.InvAt c l) (hw : (u.lineState l).works = true) {x : Nat} (hx : x ≠ 0) :
    ((u.storeRate l x).restartStroke l).InvAt c l := by
  have hr : ((u.storeRate l x).updDrive l (·.restarted (u.lineTable.get l).tmin)).InvAt c l := by
    rw [State.storeRate, updDrive_updDrive]
    exact h.updDrive fun hd => hd.restarted hw hx _
  unfold State.restartStroke
  dsimp only
  split
  · exact hr.strokeFailure
  · exact hr

theorem State.InvAt.writeRate (h : u.InvAt c l) {x : Nat} (hw : x = 0 ∨ (u.lineState l).works = true)
    (given : Option TankId) : (u.writeRate l x given).InvAt c l := by
  unfold State.writeRate
  dsimp only
  split
  · rename_i hb
    exact h.updDrive fun hd => hd.store_inBurst hb x
  · split
    · exact h.updDrive fun hd => hd.writeZero
    · rename_i hx
      have hw := hw.resolve_left hx
      have hp : (u.drive.get l).purpose ≠ .none := by
        intro hp
        have := purposeFits_none_not_works (hp ▸ (h.driveFits).purpose)
        rw [show (u.seq.get l).state.works = true from hw] at this
        cases this
      split
      · rename_i hr
        have hr : (u.drive.get l).isRunning = true := by simpa [hp] using hr
        exact h.updDrive fun hd => hd.store_running hw hr x
      · split
        · exact h.restartStroke hw hx
        · rename_i hn
          exact h.startStroke (by simpa using hn) hw hx given

theorem State.InvAt.writeZero (h : u.InvAt c l) (given : Option TankId) : (u.writeRate l 0 given).InvAt c l :=
  h.writeRate (.inl rfl) given

theorem State.InvAt.nextStroke (h : u.InvAt c l) : (u.nextStroke l).InvAt c l := by
  unfold State.nextStroke
  dsimp only
  split
  · rename_i hc
    simp only [Bool.and_eq_true, decide_eq_true_eq, Option.isNone_iff_eq_none, ne_eq] at hc
    obtain ⟨⟨⟨-, hn⟩, hb⟩, hx⟩ := hc
    have hw : (u.lineState l).works = true := by
      have := fun h1 h2 h3 h4 => hx ((h.driveFits).still hb h1 h2 h3 h4).2
      unfold State.lineState
      cases hs : (u.seq.get l).state <;> simp_all [LineState.works]
    have := h.startStroke hn hw hx none
    rwa [State.storeRate, updDrive_eq_self rfl] at this
  · exact h

/-- A line moved to a working state with its drive's purpose, when no stroke is in progress and the drive stands
still (R32). -/
theorem State.InvAt.setPurpose {f : Sequencer → Sequencer} {v : State} (h : u.InvAt c l) (hv : v.seq.get l = f (u.seq.get l))
    (ha : Apart l u v) (hrec : (v.openRec.get l).isSome = (u.openRec.get l).isSome)
    (hdem : onList v.demand l = onList u.demand l) {purpose : Purpose}
    (hq : SequencerFits (f (u.seq.get l)) (u.openRec.get l).isSome (onList u.demand l) (u.covered l))
    (hd : DriveFits (f (u.seq.get l)) { v.drive.get l with purpose := purpose })
    (hw : (f (u.seq.get l)).state.works = true) (x : Nat) : (v.setPurpose l purpose x).InvAt c l := by
  have hmid : (v.updDrive l fun d => { d with purpose := purpose }).InvAt c l := by
    refine h.of_apart (ha.trans (apart_updDrive v l _)) (lineInv_iff.mpr ?_)
    simp only [State.updDrive_seq, State.updDrive_drive, PerLine.get_upd_self, State.updDrive_openRec,
      State.updDrive_demand, hv, hrec, hdem]
    refine ⟨?_, hd⟩
    rw [((LineOnly.refl l v).updDrive _).covered, ha.only.covered]
    exact hq
  refine hmid.writeRate (.inr ?_) none
  rw [State.lineState, State.updDrive_seq, hv]
  exact hw

end InvAt
end Sys2Proof.Machine


/-! SUPPORT. The line invariant where a line flushes or leaves HELD. -/

namespace Sys2Proof.Machine

section InvAt

variable {c : LineId → Bool} {l : LineId} {s t u : State}

/-! #### The sequencer (R9 to R25) -/

/-- A drive that stands still without a stroke fits every line whose purpose it has. -/
theorem driveFits_still {q : Sequencer} {d : Drive} (hp : purposeFits q d.purpose = true) (hn : d.stroke = none)
    (hb : d.burst = none) (hr : d.rate = 0) (hz : d.pendingRate = 0) (ha : q.resumeAfterBurst = false) :
    DriveFits q d :=
  ⟨hp, by simp [hn], by simp [hb], by simp [hn], fun _ _ => hz, fun _ _ _ _ _ => ⟨hr, hz⟩, by simp [ha]⟩

/-- The sequencer of a line in FLUSHING (R25). -/
theorem SequencerFits.flushing {q : Sequencer} {covered : Bool} (hs : q.state = .flushing) (hr : q.resume = none)
    (hm : q.currentMix = none) (hw : q.waitHold = false) (hp : q.waitSupply = false) (ha : q.resumeAfterBurst = false) :
    SequencerFits q false false covered :=
  ⟨by rw [hs]; rfl, by rw [hr, hs]; rfl, by rw [hm, hs]; rfl, by simp [hs], by rw [hw, hs]; rfl, hp, by simp [hs],
    by simp [hp, ha], by simp [ha]⟩

theorem State.InvAt.enterFlushing_endStage (h : u.InvAt c l) (reason : EndReason) (origin : Option Port) (quiet : Bool) :
    ((u.endStage l reason origin quiet).enterFlushing l).InvAt c l := by
  have hc := cleared_endStage u l reason origin quiet
  have ha := apart_endStage u l reason origin quiet
  generalize u.endStage l reason origin quiet = v at hc ha
  unfold State.enterFlushing
  dsimp only
  set f : Sequencer → Sequencer := fun q =>
    { q.released with
      state := .flushing
      nf := ceilDiv ((v.lineTable.get l).lineVolume * v.timing.flushFactor) (v.lineTable.get l).strokeVolume
      flushCount := 0 } with hf
  have hmid : ((v.updSeq l f).updDrive l fun d => { d with purpose := .flush }).InvAt c l := by
    refine h.of_apart ((ha.trans (apart_updSeq v l f)).trans (apart_updDrive _ l _)) (lineInv_iff.mpr ?_)
    simp only [State.updDrive_seq, State.updSeq_seq, PerLine.get_upd_self, State.updDrive_drive, State.updSeq_drive,
      State.updDrive_openRec, State.updSeq_openRec, State.updDrive_demand, State.updSeq_demand, hc.record, hc.listed,
      hc.drive]
    exact ⟨.flushing rfl hc.resume hc.mix hc.hold hc.supply hc.afterBurst,
      driveFits_still rfl rfl rfl rfl rfl hc.afterBurst⟩
  refine hmid.writeRate (.inr ?_) none
  simp [State.lineState, hf, LineState.works]

theorem State.InvAt.stageEnd (h : u.InvAt c l) (reason : EndReason) (origin : Option Port) :
    (u.stageEnd l reason origin).InvAt c l := by
  unfold State.stageEnd
  split
  iterate 4 exact h.enterFlushing_endStage _ _ _
  iterate 2 exact h.enterIdle_endStage _ _ _
  iterate 4 exact h

/-- A line in HELD whose last wait cause has gone, so that it may leave for its resume state (R23). -/
structure State.Leaves (s : State) (l : LineId) (r : Resume) : Prop where
  record : (s.openRec.get l).isSome = true
  state : (s.seq.get l).state = .held
  resume : (s.seq.get l).resume = some r
  mix : (s.seq.get l).currentMix.isSome = true
  uncovered : s.covered l = false
  hold : (s.seq.get l).waitHold = false
  supply : (s.seq.get l).waitSupply = false
  listed : onList s.demand l = false
  purpose : purposeFits (s.seq.get l) (s.drive.get l).purpose = true
  stroke : ∀ k, (s.drive.get l).stroke = some k → strokeFits (s.seq.get l) (s.drive.get l) k = true
  burst : (s.drive.get l).burst = none
  still : (s.drive.get l).rate = 0 ∧ (s.drive.get l).pendingRate = 0

theorem resumed_works (r : Resume) : r.lineState.works = true := by cases r <;> rfl

/-- A line that has left HELD is sound before its drive is told to go on (R23 steps 1 to 4). -/
theorem SequencerFits.resumed {q : Sequencer} {r : Resume} (hm : q.currentMix.isSome = true) (hw : q.waitHold = false)
    (hp : q.waitSupply = false) : SequencerFits (q.resumed r) true false false :=
  ⟨by cases r <;> rfl, by cases r <;> rfl, by rw [show (q.resumed r).currentMix = q.currentMix from rfl, hm]; cases r <;> rfl,
    by simp, by rw [show (q.resumed r).waitHold = false from hw]; cases r <;> rfl, hp, by cases r <;> simp [Sequencer.resumed, Resume.lineState],
    by simp [Sequencer.resumed, hp], by simp [Sequencer.resumed]⟩

theorem DriveFits.resumed {q : Sequencer} {d : Drive} {r : Resume} (hs : q.state = .held) (hr : q.resume = some r)
    (hp : purposeFits q d.purpose = true) (hk : ∀ k, d.stroke = some k → strokeFits q d k = true) (hb : d.burst = none)
    (hz : d.rate = 0 ∧ d.pendingRate = 0) : DriveFits (q.resumed r) { d with staticTimer := .stopped } := by
  have hstroke : ∀ k, d.stroke = some k → k.running = false ∧ strokeFits (q.resumed r) d k = true := by
    intro k hk'
    have := hk k hk'
    cases hkp : k.purpose <;> cases r <;>
      simp_all [strokeFits, Sequencer.resumed, Resume.lineState]
  refine ⟨?_, fun k hk' => (hstroke k hk').2, by simp [hb], fun k hk' hrun => ?_, fun _ _ => hz.2,
    fun _ h1 h2 h3 h4 => hz, by simp [Sequencer.resumed]⟩
  · cases hdp : d.purpose <;> cases r <;> simp_all [purposeFits, Sequencer.resumed, Resume.lineState]
  · rw [(hstroke k hk').1] at hrun
    cases hrun

theorem apart_addHeld (u : State) (l : LineId) : Apart l u (u.addHeld l) :=
  apart_of_demand (LineOnly.refl l u).addHeld (addHeld_demand u l)

theorem addHeld_seq (u : State) (l : LineId) : (u.addHeld l).seq.get l = { u.seq.get l with heldSince := none } := by
  unfold State.addHeld
  split
  · rename_i hn
    rw [← hn]
  · simp

theorem addHeld_openRec_isSome (u : State) (l : LineId) :
    ((u.addHeld l).openRec.get l).isSome = (u.openRec.get l).isSome := by
  unfold State.addHeld
  split <;> simp

/-- The line leaves HELD; what was sound of the others stays so. -/
theorem State.InvBut.leaveHeld {v : State} (h : u.InvBut c l) (ha : Apart l u v) {r : Resume} (hl : v.Leaves l r)
    (given : Option TankId) : (v.leaveHeld l given).InvAt c l := by
  unfold State.leaveHeld
  rw [hl.resume]
  dsimp only
  have hmid : (((v.addHeld l).updSeq l (·.resumed r)).updDrive l fun d => { d with staticTimer := .stopped }).InvAt c l := by
    have hap := ((ha.trans (apart_addHeld v l)).trans (apart_updSeq _ l (·.resumed r))).trans
      (apart_updDrive _ l fun d => { d with staticTimer := .stopped })
    refine h.of_apart hap (lineInv_iff.mpr ?_)
    have hcov : (((v.addHeld l).updSeq l (·.resumed r)).updDrive l fun d => { d with staticTimer := .stopped }).covered l
        = false := by
      rw [hap.only.covered, ← ha.only.covered, hl.uncovered]
    rw [hcov]
    simp only [State.updDrive_seq, State.updSeq_seq, PerLine.get_upd_self, State.updDrive_drive, State.updSeq_drive,
      State.updDrive_openRec, State.updSeq_openRec, State.updDrive_demand, State.updSeq_demand, addHeld_seq, addHeld_drive,
      addHeld_openRec_isSome, addHeld_demand, hl.record, hl.listed]
    exact ⟨.resumed hl.mix hl.hold hl.supply, (DriveFits.resumed hl.state hl.resume hl.purpose hl.stroke hl.burst
      hl.still).of_view rfl⟩
  refine (hmid.updReg _).writeRate (.inr ?_) given
  simp only [State.lineState, State.updReg_seq, State.updDrive_seq, State.updSeq_seq, PerLine.get_upd_self]
  exact resumed_works r

/-- A wait cause taken off a line in HELD, and what R23 makes of it. -/
theorem State.InvBut.causeRemoved {v : State} (h : u.InvBut c l) (ha : Apart l u v) {r : Resume}
    (hrec : (v.openRec.get l).isSome = true) (hs : (v.seq.get l).state = .held) (hr : (v.seq.get l).resume = some r)
    (hm : (v.seq.get l).currentMix.isSome = true) (hw : (v.seq.get l).waitHold = v.covered l)
    (hp : (v.seq.get l).waitSupply = onList v.demand l) (hd : DriveFits (v.seq.get l) (v.drive.get l))
    (hafter : (v.seq.get l).resumeAfterBurst = true → (v.seq.get l).waitHold = false ∧ (v.seq.get l).waitSupply = false)
    (given : Option TankId) : (v.causeRemoved l given).InvAt c l := by
  have hfits : ∀ b, (b = true → (v.seq.get l).waitHold = false ∧ (v.seq.get l).waitSupply = false) →
      ((v.seq.get l).waitHold = true ∨ (v.seq.get l).waitSupply = true ∨ b = true) →
      SequencerFits { v.seq.get l with resumeAfterBurst := b } (v.openRec.get l).isSome (onList v.demand l) (v.covered l) :=
    fun b hb hcause =>
      ⟨by rw [hrec, hs]; rfl, by rw [hr, hs]; rfl, by rw [hm, hs]; rfl, fun _ => by simp [hs], by rw [hw, hs]; rfl, hp,
        fun _ => hcause, fun _ => hs, hb⟩
  unfold State.causeRemoved
  split
  · rename_i hcause
    refine h.of_apart ha (lineInv_iff.mpr ⟨?_, hd⟩)
    have := hfits (v.seq.get l).resumeAfterBurst hafter (by
      rcases Bool.or_eq_true_iff.mp hcause with hc | hc
      · exact .inl hc
      · exact .inr (.inl hc))
    exact this
  · rename_i hcause
    simp only [Bool.or_eq_true, not_or, Bool.not_eq_true] at hcause
    split
    · rename_i hb
      have hap := ha.trans (apart_updSeq v l fun q => { q with resumeAfterBurst := true })
      refine h.of_apart hap (lineInv_iff.mpr ?_)
      rw [hap.only.covered, ← ha.only.covered]
      simp only [State.updSeq_seq, PerLine.get_upd_self, State.updSeq_drive, State.updSeq_openRec, State.updSeq_demand]
      refine ⟨hfits true (fun _ => hcause) (.inr (.inr rfl)), ?_⟩
      exact ⟨by simpa [purposeFits] using hd.purpose, by simpa [strokeFits] using hd.stroke, hd.burst, hd.running, hd.zero,
        hd.still, fun _ => hb⟩
    · rename_i hb
      have hb : (v.drive.get l).burst = none := by simpa using hb
      exact h.leaveHeld ha ⟨hrec, hs, hr, hm, hw ▸ hcause.1, hcause.1, hcause.2, hp ▸ hcause.2, hd.purpose, hd.stroke, hb,
        hd.still hb (by simp [hs]) (by simp [hs]) (by simp [hs]) (by simp [hs])⟩ given

end InvAt
end Sys2Proof.Machine


/-! SUPPORT. The line invariant through requests taken and the end of a test. -/

namespace Sys2Proof.Machine

section InvAt

variable {c : LineId → Bool} {l : LineId} {s t u : State}

/-! #### Requests taken (R9, R11, R12, R14, R18 to R20) -/

theorem DriveFits.stroke_none {q : Sequencer} {d : Drive} (h : DriveFits q d)
    (hs : q.state = .idle ∨ q.state = .seated ∨ q.state = .ready ∧ d.burst = none) : d.stroke = none := by
  cases hk : d.stroke with
  | none => rfl
  | some k =>
    have hf := h.stroke k hk
    rcases hs with hs | hs | ⟨hs, hb⟩ <;> cases hp : k.purpose <;> simp_all [strokeFits, LineState.stands]

/-- Out of HELD a line has no wait cause, and stands on no list (R21 to R23, R105). -/
theorem SequencerFits.notHeld {q : Sequencer} {record listed covered : Bool} (h : SequencerFits q record listed covered)
    (hs : q.state ≠ .held) :
    q.resume = none ∧ q.waitHold = false ∧ q.waitSupply = false ∧ listed = false ∧ q.resumeAfterBurst = false := by
  have hr := h.resume
  have hw := h.hold
  have hwaits : ¬(q.waitSupply = true ∨ q.resumeAfterBurst = true) := fun hc => hs (h.waits hc)
  simp only [beq_eq_false_iff_ne.mpr hs, Option.isSome_eq_false_iff, Option.isNone_iff_eq_none, Bool.false_and] at hr hw
  simp only [not_or, Bool.not_eq_true] at hwaits
  exact ⟨hr, hw, hwaits.1, h.supply ▸ hwaits.1, hwaits.2⟩

/-- A line in a stage and out of HELD, uncovered where its state asks for it. -/
theorem SequencerFits.inStage {q : Sequencer} {covered : Bool} (hs : q.state.hasStage = true) (hh : q.state ≠ .held)
    (hm : q.currentMix.isSome = q.state.isGrout) (hr : q.resume = none) (hw : q.waitHold = false)
    (hp : q.waitSupply = false) (ha : q.resumeAfterBurst = false)
    (hc : covered = false ∨ q.state = .seated ∨ q.state = .ready) : SequencerFits q true false covered := by
  refine ⟨hs.symm, by rw [hr, beq_eq_false_iff_ne.mpr hh]; rfl, hm, ?_, by rw [hw, beq_eq_false_iff_ne.mpr hh]; rfl, hp,
    fun h => absurd h hh, by simp [hp, ha], by simp [ha]⟩
  rcases hc with hc | hc | hc <;> simp [hc]

/-- A line in a stage and out of HELD goes into one of the states in which its drive works (R11, R12, R14). -/
theorem State.InvAt.beginWork (h : u.InvAt c l) {v : State} {f : Sequencer → Sequencer} (hv : v.seq.get l = f (u.seq.get l))
    (ha : Apart l u v) (hrec : (v.openRec.get l).isSome = (u.openRec.get l).isSome) (hdem : v.demand = u.demand)
    (hstage : (u.lineState l).hasStage = true) (hheld : u.lineState l ≠ .held) (hc : u.covered l = false)
    (hf : (f (u.seq.get l)).resume = (u.seq.get l).resume ∧ (f (u.seq.get l)).waitHold = (u.seq.get l).waitHold ∧
      (f (u.seq.get l)).waitSupply = (u.seq.get l).waitSupply ∧
      (f (u.seq.get l)).resumeAfterBurst = (u.seq.get l).resumeAfterBurst)
    (hstage' : (f (u.seq.get l)).state.hasStage = true) (hwork : (f (u.seq.get l)).state.works = true)
    (hm : (f (u.seq.get l)).currentMix.isSome = (f (u.seq.get l)).state.isGrout)
    {purpose : Purpose} (hpur : purposeFits (f (u.seq.get l)) purpose = true)
    (hn : (u.drive.get l).stroke = none)
    (hdrive : (v.drive.get l).stroke = (u.drive.get l).stroke ∧ (v.drive.get l).burst = (u.drive.get l).burst ∧
      (v.drive.get l).rate = (u.drive.get l).rate ∧ (v.drive.get l).pendingRate = (u.drive.get l).pendingRate)
    (hb : (u.drive.get l).burst = none) (x : Nat) : (v.setPurpose l purpose x).InvAt c l := by
  obtain ⟨hr, hw, hp, hlist, haf⟩ := h.seqFits.notHeld hheld
  obtain ⟨fr, fw, fp, fa⟩ := hf
  have hheld' : (f (u.seq.get l)).state ≠ .held := by intro hh; rw [hh] at hwork; cases hwork
  have hrec' : (u.openRec.get l).isSome = true := h.seqFits.record.trans hstage
  refine h.setPurpose hv ha hrec (by rw [hdem]) ?_ ?_ hwork x
  · rw [hrec', hlist]
    exact .inStage hstage' hheld' hm (fr.trans hr) (fw.trans hw) (fp.trans hp) (fa.trans haf) (.inl hc)
  · obtain ⟨h1, h2, h3, h4⟩ := hdrive
    refine ⟨hpur, by simp [h1, hn], by simp [h2, hb], by simp [h1, hn], ?_, ?_, by simp [fa, haf]⟩
    · dsimp only
      rw [h2, h3, h4]
      exact h.driveFits.zero
    · intro _ h5 h6 h7 h8
      cases hs : (f (u.seq.get l)).state <;> simp_all [LineState.works]

/-- What a request asks of the line that takes it now (R5, R6). -/
def State.canTake (s : State) (l : LineId) : PendingReq → Prop
  | .seat _ => s.lineState l = .idle
  | .test _ _ | .charge => s.lineState l = .seated ∧ s.covered l = false
  | .inject =>
    (s.lineState l = .ready ∨ s.lineState l = .charging) ∧ s.covered l = false ∧
      (s.drive.get l).stroke = none ∧ (s.drive.get l).burst = none

theorem State.InvAt.takeSeat (h : u.InvAt c l) (hs : u.lineState l = .idle) (w : SeatParams) :
    (u.takeSeat l w).InvAt c l := by
  have hseq : (u.takeSeat l w).seq.get l =
      (u.seq.get l).seatedWith (.startSeconds u.timing.packerSettle) := by
    unfold State.takeSeat
    dsimp only
    split <;> simp [State.openRecord, State.latchAll]
  have hrec : ((u.takeSeat l w).openRec.get l).isSome = true := by
    unfold State.takeSeat
    dsimp only
    split <;> simp [State.openRecord]
  have hdrive : (u.takeSeat l w).drive = u.drive := by
    unfold State.takeSeat
    dsimp only
    split <;> rfl
  have hdem : (u.takeSeat l w).demand = u.demand := by
    unfold State.takeSeat
    dsimp only
    split <;> rfl
  have hst : (u.seq.get l).state = .idle := hs
  obtain ⟨hr, hw, hp, hlist, haf⟩ := h.seqFits.notHeld (by simp [hst])
  have hd := h.driveFits
  have hb := hd.burst_none (by rw [hst]; rfl)
  have hn := hd.stroke_none (.inl hst)
  have hz := hd.still hb (by simp [hst]) (by simp [hst]) (by simp [hst]) (by simp [hst])
  refine h.of_apart (apart_of_demand ((LineOnly.refl l u).takeSeat w) hdem) (lineInv_iff.mpr ?_)
  rw [hseq, hrec, hdrive, hdem, hlist]
  refine ⟨.inStage rfl (by simp [Sequencer.seatedWith]) rfl hr hw hp haf (.inr (.inl rfl)), driveFits_still ?_ hn hb hz.1 hz.2 haf⟩
  have := hd.purpose
  cases hpur : (u.drive.get l).purpose <;> simp_all [purposeFits, Sequencer.seatedWith]

/-- The drive of a line in SEATED (R11, R12). -/
theorem State.InvAt.seatedDrive (h : u.InvAt c l) (hs : u.lineState l = .seated) :
    (u.drive.get l).stroke = none ∧ (u.drive.get l).burst = none :=
  ⟨h.driveFits.stroke_none (.inr (.inl hs)),
    h.driveFits.burst_none (by rw [show (u.seq.get l).state = .seated from hs]; rfl)⟩

theorem State.InvAt.takeTest (h : u.InvAt c l) (hs : u.lineState l = .seated) (hc : u.covered l = false)
    (target duration : Nat) : (u.takeTest l target duration).InvAt c l := by
  obtain ⟨hn, hb⟩ := h.seatedDrive hs
  unfold State.takeTest
  refine h.beginWork (f := fun q => { q with state := .testing, testDuration := some duration, testTimer := some 0 })
    (by simp) (apart_of_demand (((LineOnly.refl l u).updReg _).updSeq _) rfl) rfl rfl (by rw [hs]; rfl) (by simp [hs]) hc
    ⟨rfl, rfl, rfl, rfl⟩ rfl rfl ?_ rfl hn ⟨rfl, rfl, rfl, rfl⟩ hb 1
  exact h.seqFits.mix.trans (by rw [show (u.seq.get l).state = .seated from hs]; rfl)

theorem State.InvAt.takeCharge (h : u.InvAt c l) (hs : u.lineState l = .seated) (hc : u.covered l = false) :
    (u.takeCharge l).InvAt c l := by
  obtain ⟨hn, hb⟩ := h.seatedDrive hs
  unfold State.takeCharge
  dsimp only
  set v := if (u.chargeMix l).2 = .clamped then u.latchAll .clamped else u with hv
  have hsame : v.seq = u.seq ∧ v.drive = u.drive ∧ v.demand = u.demand ∧ v.openRec = u.openRec ∧ LineOnly l u v := by
    rw [hv]
    split
    · exact ⟨rfl, rfl, rfl, rfl, (LineOnly.refl l u).latchAll _⟩
    · exact ⟨rfl, rfl, rfl, rfl, LineOnly.refl l u⟩
  obtain ⟨h1, h2, h3, h4, h5⟩ := hsame
  refine h.beginWork (f := fun q =>
    { q with
      state := .charging
      currentMix := some (u.chargeMix l).1
      nc := ceilDiv (u.lineTable.get l).lineVolume (u.lineTable.get l).strokeVolume
      chargeCount := 0
      returnOpen := true })
    (by simp [h1, State.appendMixStep]) (apart_of_demand ((((h5.updRec _).appendMixStep _).updSeq _).updReg _) h3)
    (by simp [h4, State.appendMixStep]) h3 (by rw [hs]; rfl) (by simp [hs]) hc ⟨rfl, rfl, rfl, rfl⟩ rfl rfl rfl
    rfl hn ?_ hb _
  simp [h2, State.appendMixStep]

theorem State.InvAt.takeInject (h : u.InvAt c l) (hs : u.lineState l = .ready ∨ u.lineState l = .charging)
    (hc : u.covered l = false) (hn : (u.drive.get l).stroke = none) (hb : (u.drive.get l).burst = none) :
    (u.takeInject l).InvAt c l := by
  unfold State.takeInject
  refine h.beginWork (f := fun q => { q with state := .injecting, returnOpen := false, standingTimer := .stopped })
    (by simp) (apart_of_demand ((((LineOnly.refl l u).updSeq _).updDrive _).updReg _) rfl) rfl rfl ?_ ?_ hc
    ⟨rfl, rfl, rfl, rfl⟩ rfl rfl ?_ rfl hn ?_ hb 1
  · rcases hs with hs | hs <;> rw [hs] <;> rfl
  · rcases hs with hs | hs <;> simp [hs]
  · refine h.seqFits.mix.trans ?_
    rcases hs with hs | hs <;> rw [show (u.seq.get l).state = _ from hs] <;> rfl
  · simp

theorem State.InvAt.takeDeferred (h : u.InvAt c l) {req : PendingReq} (hc : u.canTake l req) :
    (u.takeDeferred l req).InvAt c l := by
  cases req with
  | seat w => exact h.takeSeat hc w
  | test target duration => exact h.takeTest hc.1 hc.2 target duration
  | charge => exact h.takeCharge hc.1 hc.2
  | inject => exact h.takeInject hc.1 hc.2.1 hc.2.2.1 hc.2.2.2

theorem canTake_updSeq {f : Sequencer → Sequencer} (hf : ∀ q, (f q).state = q.state) {req : PendingReq} :
    (u.updSeq l f).canTake l req ↔ u.canTake l req := by
  have hs : (u.updSeq l f).lineState l = u.lineState l := by simp [State.lineState, hf]
  have hc : (u.updSeq l f).covered l = u.covered l := rfl
  cases req <;> simp [State.canTake, hs, hc]

theorem State.InvAt.runSlot (h : u.InvAt c l) {point : RunPoint}
    (hcan : ∀ req, req.runsAt point = true → u.dropsAtRun l req = false → u.canTake l req) :
    (u.runSlot l point).InvAt c l := by
  unfold State.runSlot
  split
  · exact h
  · rename_i req _
    have hempty : (u.updSeq l fun q => { q with slot := none }).InvAt c l := h.updSeq rfl
    split
    · rename_i hpoint
      dsimp only
      split
      · exact hempty.latchAll _
      · rename_i hdrop
        exact hempty.takeDeferred ((canTake_updSeq (f := fun q => { q with slot := none }) fun _ => rfl).mpr
           (hcan req hpoint (by simpa using hdrop)))
    · exact h

/-- In SEATED a waiting TEST or CHARGE can be taken where the line is not covered (R10, R19). -/
theorem canTake_seated (hs : u.lineState l = .seated) {point : RunPoint} (hp : point = .settleExpiry ∨ point = .testEnd)
    {req : PendingReq} (hr : req.runsAt point = true) (hd : u.dropsAtRun l req = false) : u.canTake l req := by
  rcases hp with rfl | rfl <;> cases req <;> simp_all [PendingReq.runsAt, State.canTake, State.dropsAtRun]

/-! #### The end of a test, and coverage (R11, R21, R23) -/

theorem State.InvBut.endTest {v : State} (h : u.InvBut c l) (ha : Apart l u v) (hs : (v.seq.get l).state = .testing)
    (hq : SequencerFits (v.seq.get l) (v.openRec.get l).isSome (onList v.demand l) false) (ending : TestEnd) :
    (v.endTest l ending).InvAt c l := by
  obtain ⟨hr, hw, hp, hlist, haf⟩ := hq.notHeld (by simp [hs])
  set f : Sequencer → Sequencer := fun q =>
    { q with state := .seated, settled := true, testTimer := none, testDuration := none } with hf
  have hmid : ((v.stopDrive l).updSeq l f).InvAt c l := by
    have hap : Apart l u ((v.stopDrive l).updSeq l f) :=
      (ha.trans (apart_of_demand (LineOnly.refl l v).stopDrive (abandonStroke_demand v l))).trans (apart_updSeq _ l f)
    refine h.of_apart hap (lineInv_iff.mpr ?_)
    have hrec : (((v.stopDrive l).updSeq l f).openRec.get l).isSome = true := by
      have : ∀ x : State, ((x.stopDrive l).openRec.get l).isSome = (x.openRec.get l).isSome := by
        intro x
        unfold State.stopDrive State.abandonStroke
        split
        · rfl
        · split <;> simp
      rw [State.updSeq_openRec, this, hq.record, hs]
      rfl
    have hdem : onList ((v.stopDrive l).updSeq l f).demand l = false := by
      rw [← hlist]
      exact congrArg (onList · l) (abandonStroke_demand v l)
    rw [hrec, hdem, State.updSeq_seq, PerLine.get_upd_self, State.updSeq_drive, stopDrive_drive,
      show (v.stopDrive l).seq = v.seq from abandonStroke_seq v l]
    refine ⟨.inStage rfl (by simp [hf]) ?_ hr hw hp haf (.inr (.inl rfl)), driveFits_rest rfl haf⟩
    exact hq.mix.trans (by rw [hs]; rfl)
  unfold State.endTest
  dsimp only
  have hseated : ∀ {x : State}, x.seq = ((v.stopDrive l).updSeq l f).seq → x.lineState l = .seated := by
    intro x hx
    simp [State.lineState, hx, hf]
  split
  · exact (hmid.updReg _).runSlot fun req => canTake_seated (hseated rfl) (.inr rfl)
  · exact ((hmid.updReg _).updRec _).runSlot fun req => canTake_seated (hseated rfl) (.inr rfl)

end InvAt
end Sys2Proof.Machine


/-! SUPPORT. The line invariant through a hold operation. -/

namespace Sys2Proof.Machine

section InvAt

variable {c : LineId → Bool} {l : LineId} {s t u : State}

/-! #### Becoming covered and uncovered (R21, R23) -/

/-- A line that a hold reaches at work: HELD with HOLD, its piston paused, its episode counted (R21, R36). -/
theorem holdLine_eq (hb : (u.drive.get l).burst = none) (r : Resume) :
    u.holdLine l r =
      (((u.updSeq l fun q => { q.heldAs u r with waitHold := true }).updDrive l fun d =>
        { d.writeZero with staticTimer := u.staticStart l }).updReg l Regulator.standing).updRec l fun k =>
        { k with holdEpisodes := min 65535 (k.holdEpisodes + 1) } := by
  have hz : (fun d : Drive => Drive.writeZero { d with staticTimer := u.staticStart l }) =
      fun d => { d.writeZero with staticTimer := u.staticStart l } := by
    funext d
    unfold Drive.writeZero
    split <;> rfl
  unfold State.holdLine
  rw [writeRate_zero (by simpa [State.enterHeld] using hb)]
  simp only [State.enterHeld, updReg_updSeq, updDrive_updSeq, updRec_updDrive, updReg_updDrive, updSeq_updSeq,
    updDrive_updDrive]
  rw [hz]
  rfl

theorem apart_holdLine (hb : (u.drive.get l).burst = none) (r : Resume) : Apart l u (u.holdLine l r) :=
  apart_of_demand ((LineOnly.refl l u).holdLine r) (by rw [holdLine_eq hb]; rfl)

theorem DriveFits.held {q : Sequencer} {d : Drive} (h : DriveFits q d) {r : Resume} (hs : q.state = r.lineState)
    (hp : q.waitSupply = false) {q' : Sequencer}
    (hq : q'.driveView = (.held, some r, false, false)) (x : Timer) :
    DriveFits q' { d.writeZero with staticTimer := x } := by
  simp only [Sequencer.driveView, Prod.mk.injEq] at hq
  obtain ⟨hs', hr', hp', ha'⟩ := hq
  have hb : d.burst = none := h.burst_none (by rw [hs]; cases r <;> rfl)
  have hz := h.writeZero
  have hb' : d.writeZero.burst = none := by unfold Drive.writeZero; split <;> exact hb
  have hrate : d.writeZero.rate = 0 ∧ d.writeZero.pendingRate = 0 := by
    unfold Drive.writeZero
    split
    · exact ⟨‹_›, h.zero hb ‹_›⟩
    · exact ⟨rfl, rfl⟩
  have hstill : ∀ k, d.writeZero.stroke = some k → k.running = false := by
    intro k hk
    by_contra hrun
    have hrun : k.running = true := by simpa using hrun
    have hc : k.purpose ≠ .circulate := by
      intro hc
      have := hz.stroke k hk
      simp [strokeFits, hc, hb'] at this
    have := hz.running k hk hrun hc
    omega
  refine ⟨?_, fun k hk => ?_, by simp [hb'], fun k hk hrun => ?_, fun _ _ => hrate.2, fun _ _ _ _ _ => hrate, by simp [ha']⟩
  · have := hz.purpose
    cases hd : d.writeZero.purpose <;> cases r <;> simp_all [purposeFits, Resume.lineState]
  · have hf := hz.stroke k hk
    have hrun := hstill k hk
    cases hkp : k.purpose <;> cases r <;> simp_all [strokeFits, Resume.lineState]
  · rw [hstill k hk] at hrun
    cases hrun

/-- A line told that it has become covered (R21). -/
theorem State.InvBut.becomeCovered (h : u.InvBut c l) (hc : u.covered l = true)
    (hq : SequencerFits (u.seq.get l) (u.openRec.get l).isSome (onList u.demand l) false)
    (hd : DriveFits (u.seq.get l) (u.drive.get l)) : (u.becomeCovered l).InvAt c l := by
  have hholdLine : ∀ r : Resume, (u.seq.get l).state = r.lineState → (u.holdLine l r).InvAt c l := by
    intro r hs
    obtain ⟨hr, hw, hp, hlist, haf⟩ := hq.notHeld (by rw [hs]; cases r <;> simp [Resume.lineState])
    have hb : (u.drive.get l).burst = none := hd.burst_none (by rw [hs]; cases r <;> rfl)
    have hap := apart_holdLine hb r
    refine h.of_apart hap (lineInv_iff.mpr ?_)
    rw [hap.only.covered, hc, holdLine_eq hb]
    simp only [State.updRec_seq, State.updReg_seq, State.updDrive_seq, State.updSeq_seq, PerLine.get_upd_self,
      State.updRec_drive, State.updReg_drive, State.updDrive_drive, State.updSeq_drive, State.updRec_openRec,
      State.updReg_openRec, State.updDrive_openRec, State.updSeq_openRec, State.updRec_demand, State.updReg_demand,
      State.updDrive_demand, State.updSeq_demand, Option.isSome_map, hlist]
    refine ⟨⟨?_, rfl, ?_, by simp [Sequencer.heldAs], rfl, hp, by simp, by simp [Sequencer.heldAs],
      by simp [Sequencer.heldAs, haf]⟩, hd.held hs hp (by simp [Sequencer.driveView, Sequencer.heldAs, hp, haf]) _⟩
    · rw [hq.record, hs]; cases r <;> rfl
    · rw [show ({ (u.seq.get l).heldAs u r with waitHold := true } : Sequencer).currentMix = (u.seq.get l).currentMix from rfl,
        hq.mix, hs]
      cases r <;> rfl
  have hsame : (u.seq.get l).state ≠ .testing → (u.seq.get l).state ≠ .charging → (u.seq.get l).state ≠ .injecting →
      (u.seq.get l).state ≠ .held → u.InvAt c l := by
    intro h1 h2 h3 h4
    refine h.of_apart (Apart.refl l u) (lineInv_iff.mpr ⟨?_, hd⟩)
    refine ⟨hq.record, hq.resume, hq.mix, fun _ => ⟨h1, h2, h3⟩, ?_, hq.supply, hq.cause, hq.waits, hq.afterBurst⟩
    rw [hq.hold, beq_eq_false_iff_ne.mpr h4]
    rfl
  unfold State.becomeCovered
  split
  · exact hholdLine .charging ‹_›
  · exact hholdLine .injecting ‹_›
  · rename_i hs
    have hs : (u.seq.get l).state = .held := hs
    have hw : (u.seq.get l).waitHold = false := by simp [hq.hold]
    rw [if_neg (by simp [hw])]
    have hap : Apart l u (u.addHold l) := apart_of_demand (LineOnly.refl l u).addHold rfl
    refine h.of_apart hap (lineInv_iff.mpr ?_)
    rw [hap.only.covered, hc]
    simp only [State.addHold, State.updRec_seq, State.updSeq_seq, PerLine.get_upd_self, State.updRec_drive,
      State.updSeq_drive, State.updRec_openRec, State.updSeq_openRec, State.updRec_demand, State.updSeq_demand,
      Option.isSome_map]
    exact ⟨⟨hq.record, hq.resume, hq.mix, by simp [hs], by simp [hs], hq.supply, by simp, by simp [hs], by simp⟩,
      ⟨by simpa [purposeFits] using hd.purpose, by simpa [strokeFits] using hd.stroke, hd.burst, hd.running, hd.zero,
        hd.still, by simp⟩⟩
  · exact h.endTest (Apart.refl l u) ‹_› hq _
  all_goals
    rename_i hs
    have hs : (u.seq.get l).state = _ := hs
    exact hsame (by simp [hs]) (by simp [hs]) (by simp [hs]) (by simp [hs])

/-- A line told that it has become uncovered (R21, R23). -/
theorem State.InvBut.becomeUncovered (h : u.InvBut c l) (hc : u.covered l = false)
    (hq : SequencerFits (u.seq.get l) (u.openRec.get l).isSome (onList u.demand l) true)
    (hd : DriveFits (u.seq.get l) (u.drive.get l)) : (u.becomeUncovered l).InvAt c l := by
  have hsame : (u.seq.get l).state ≠ .held → u.InvAt c l := by
    intro h4
    refine h.of_apart (Apart.refl l u) (lineInv_iff.mpr ⟨?_, hd⟩)
    refine ⟨hq.record, hq.resume, hq.mix, by simp [hc], ?_, hq.supply, hq.cause, hq.waits, hq.afterBurst⟩
    rw [hq.hold, beq_eq_false_iff_ne.mpr h4]
    rfl
  unfold State.becomeUncovered
  split
  · rename_i hs
    have hs : (u.seq.get l).state = .held := hs
    have hw : (u.seq.get l).waitHold = true := by simp [hq.hold, hs]
    rw [if_pos hw]
    obtain ⟨r, hr⟩ := Option.isSome_iff_exists.mp (hq.resume.trans (by simp [hs]))
    have hd' : DriveFits { u.seq.get l with waitHold := false } (u.drive.get l) := hd.of_view rfl
    refine h.causeRemoved (apart_updSeq u l _) (r := r) ?_ ?_ ?_ ?_ ?_ ?_ ?_ ?_ none
    · exact hq.record.trans (by rw [hs]; rfl)
    · simp [hs]
    · simp [hr]
    · simpa [hs, LineState.isGrout] using hq.mix
    · rw [(apart_updSeq u l _).only.covered, hc]; simp
    · simpa using hq.supply
    · simpa using hd'
    · intro ha
      have := hq.afterBurst (by simpa using ha)
      simp [hw] at this
  all_goals
    rename_i hs
    have hs : (u.seq.get l).state = _ := hs
    exact hsame (by simp [hs])

/-- The lines' covers, that of one line turned to what the hold map gives. -/
def turned (c : LineId → Bool) (u : State) (l : LineId) : LineId → Bool := fun k => if k = l then u.covered k else c k

/-- A line told of a cover that has changed (R116). -/
theorem tellLine_fits (h : ∀ k, u.FitsUnder c k) (hl : c l ≠ u.covered l) :
    ∀ k, (u.tellLine l).FitsUnder (turned c u l) k := by
  have hbut : u.InvBut (turned c u l) l := by
    refine ⟨by simp [turned], fun k hk => ?_⟩
    have := h k
    unfold State.FitsUnder at this ⊢
    rwa [turned, if_neg hk]
  obtain ⟨hq, hd⟩ := h l
  unfold State.tellLine
  split
  · rename_i hc
    rw [show c l = false by simpa [hc] using hl] at hq
    exact (hbut.becomeCovered hc hq hd).fits
  · rename_i hc
    have hc : u.covered l = false := by simpa using hc
    rw [show c l = true by simpa [hc] using hl] at hq
    exact (hbut.becomeUncovered hc hq hd).fits

theorem tellLines_fits {ls : List LineId} (hn : ls.Nodup) (h : ∀ k, u.FitsUnder c k)
    (hc : ∀ k, c k ≠ u.covered k ↔ k ∈ ls) : (u.tellLines ls).LinesInv := by
  induction ls generalizing u c with
  | nil =>
    intro k
    rw [lineInv_iff, ← show c k = (u.tellLines []).covered k from by simpa [State.tellLines] using hc k]
    exact h k
  | cons l ls ih =>
    obtain ⟨hl, hn⟩ := List.nodup_cons.mp hn
    have hlne := (hc l).mpr List.mem_cons_self
    refine ih hn (tellLine_fits h hlne) fun k => ?_
    rw [tellLine_covered, turned]
    by_cases hk : k = l
    · simp [hk, hl]
    · rw [if_neg hk, hc k, List.mem_cons]
      simp [hk]

theorem nodup_insertByRank {rank : LineId → Nat} {k : LineId} {ls : List LineId} (hk : k ∉ ls) (h : ls.Nodup) :
    (insertByRank rank k ls).Nodup := by
  induction ls with
  | nil => simp [insertByRank]
  | cons j js ih =>
    simp only [List.mem_cons, not_or] at hk
    obtain ⟨hj, hjs⟩ := List.nodup_cons.mp h
    unfold insertByRank
    split
    · simp [hk, hj, hjs]
    · refine List.nodup_cons.mpr ⟨?_, ih hk.2 hjs⟩
      rw [mem_insertByRank]
      rintro (rfl | hm)
      · exact hk.1 rfl
      · exact hj hm

theorem nodup_tellOrder {n : Nat} {ls : List LineId} (h : ls.Nodup) : (tellOrder n ls).Nodup := by
  induction ls with
  | nil => exact h
  | cons l ls ih =>
    obtain ⟨hl, hls⟩ := List.nodup_cons.mp h
    exact nodup_insertByRank (by rwa [mem_tellOrder]) (ih hls)

theorem State.LinesInv.holdOperation (h : u.LinesInv) (m : HoldMap) : (u.holdOperation m).LinesInv := by
  unfold State.holdOperation
  split
  · exact h
  · refine fun k => State.InvAt.line (((State.LinesInv.at (tellLines_fits (c := u.covered) ?_ ?_ ?_) k)).latchAll _)
    · exact nodup_tellOrder (LineId.nodup_all.filter _)
    · intro k
      exact lineInv_iff.mp (h k)
    · intro k
      rw [mem_tellOrder, mem_changedLines]
      rfl

end InvAt
end Sys2Proof.Machine


/-! SUPPORT. The line invariant through bursts, stroke completions and samples. -/

namespace Sys2Proof.Machine

section InvAt

variable {c : LineId → Bool} {l : LineId} {s t u : State}

/-! #### Bursts (R15, R40, R41) -/

theorem State.InvAt.startBurst (h : u.InvAt c l) (hs : (u.lineState l).stands = true) : (u.startBurst l).InvAt c l := by
  have hab := h.abandonStroke
  have hst : ((u.abandonStroke l).seq.get l).state.stands = true := by rw [abandonStroke_seq]; exact hs
  unfold State.startBurst State.startCirculate
  generalize u.abandonStroke l = v at hab hst
  refine State.InvAt.updReg (State.InvAt.updSeq ?_ rfl) _
  rw [updDrive_updDrive]
  refine hab.updDrive fun hd => ⟨hd.purpose, ?_, fun _ => hst, ?_, by simp, by simp, by simp⟩
  · rintro k hk
    obtain rfl : _ = k := Option.some.inj hk
    simp [strokeFits, hst]
  · rintro k hk
    obtain rfl : _ = k := Option.some.inj hk
    simp

theorem State.InvAt.endBurst (h : u.InvAt c l) (hn : (u.drive.get l).stroke = none)
    (hs : (u.lineState l).stands = true) : (u.endBurst l).InvAt c l := by
  have hq := h.seqFits
  have hd := h.driveFits
  have hst : (u.seq.get l).state = .ready ∨ (u.seq.get l).state = .held := by
    unfold State.lineState at hs
    cases hx : (u.seq.get l).state <;> simp_all [LineState.stands]
  have hap : ∀ f g k, Apart l u (((u.updDrive l f).updSeq l g).updReg l k) := fun f g k =>
    apart_of_demand ((((LineOnly.refl l u).updDrive f).updSeq g).updReg k) rfl
  unfold State.endBurst
  dsimp only
  split
  · rename_i ha
    have hheld := hq.waits (.inr ha)
    obtain ⟨hwait, hsup⟩ := hq.afterBurst ha
    obtain ⟨r, hr⟩ := Option.isSome_iff_exists.mp (hq.resume.trans (by simp [hheld]))
    have hpur := hd.purpose
    refine h.but.leaveHeld (hap _ _ _) (r := r) ⟨?_, ?_, ?_, ?_, ?_, ?_, ?_, ?_, ?_, ?_, ?_, ?_⟩ none
    · exact hq.record.trans (by rw [hheld]; rfl)
    · simpa using hheld
    · simpa using hr
    · simpa [hheld, LineState.isGrout] using hq.mix
    · rw [(hap _ _ _).only.covered]
      simpa [hheld, hwait] using hq.hold
    · simpa using hwait
    · simpa using hsup
    · exact hq.supply.symm.trans hsup
    · simpa [purposeFits] using hpur
    · simp [hn]
    · simp
    · simp
  · rename_i ha
    have ha : (u.seq.get l).resumeAfterBurst = false := by simpa using ha
    refine h.of_apart (hap _ _ _) (lineInv_iff.mpr ?_)
    rw [(hap _ _ _).only.covered]
    simp only [State.updReg_seq, State.updSeq_seq, State.updDrive_seq, PerLine.get_upd_self, State.updReg_drive,
      State.updSeq_drive, State.updDrive_drive, State.updReg_openRec, State.updSeq_openRec, State.updDrive_openRec,
      State.updReg_demand, State.updSeq_demand, State.updDrive_demand]
    exact ⟨hq.of_view rfl, DriveFits.of_view (driveFits_still hd.purpose hn rfl rfl rfl ha) rfl⟩

theorem State.InvAt.circulateDone (h : u.InvAt c l) (hn : (u.drive.get l).stroke = none) :
    (u.circulateDone l).InvAt c l := by
  unfold State.circulateDone
  split
  · exact h
  · rename_i n hb
    have hs : (u.lineState l).stands = true := h.driveFits.burst (by simp [hb])
    split
    · exact h.endBurst hn hs
    · unfold State.startCirculate
      rw [updDrive_updDrive]
      refine h.updDrive fun hd => ⟨hd.purpose, ?_, fun _ => hs, ?_, by simp, by simp, by simp⟩
      · rintro k hk
        obtain rfl : _ = k := Option.some.inj hk
        have : (u.seq.get l).state.stands = true := hs
        simp [strokeFits, this]
      · rintro k hk
        obtain rfl : _ = k := Option.some.inj hk
        simp

/-! #### Completions (R13, R25, R34, R35, R83 to R86) -/

/-- What a rate step written does to the line's state (R22, R26, R31). -/
theorem writeRate_lineState (hn : (u.drive.get l).stroke = none) (x : Nat) :
    (u.writeRate l x none).lineState l = u.lineState l ∨ (u.writeRate l x none).lineState l = .held := by
  have hrun : ∀ (v : State) (p : StrokePurpose) (k : Source), (v.runStroke l p k).lineState l = v.lineState l := by
    intro v p k
    simp [State.runStroke, State.lineState]
  have hgrout : ∀ (v : State) (p : StrokePurpose), (v.startGrout l p none).lineState l = v.lineState l ∨
      (v.startGrout l p none).lineState l = .held := by
    intro v p
    unfold State.startGrout
    dsimp only
    split
    · exact .inl rfl
    · split
      · exact .inl (by simp [State.runGrout, State.runStroke, State.lineState, State.payFrom, State.setCurrentTank])
      · cases hr : (v.lineState l).asResume with
        | none => exact .inl (by unfold State.supplyWait; rw [hr]; rfl)
        | some r => exact .inr (by rw [State.lineState, supplyWait_seq hr]; rfl)
  unfold State.writeRate
  dsimp only
  split
  · exact .inl rfl
  · split
    · exact .inl rfl
    · split
      · exact .inl rfl
      · rw [if_neg (by simp [hn])]
        unfold State.startStroke
        split
        · exact .inl rfl
        · exact .inl (hrun _ _ _)
        · exact .inl (hrun _ _ _)
        · exact hgrout _ _
        · exact hgrout _ _

theorem takeInject_not_charging (hn : (u.drive.get l).stroke = none) : (u.takeInject l).lineState l ≠ .charging := by
  unfold State.takeInject State.setPurpose
  rcases writeRate_lineState (u := ((((u.updSeq l fun q =>
    { q with state := .injecting, returnOpen := false, standingTimer := .stopped }).updDrive l fun d =>
    { d with staticTimer := .stopped }).updReg l Regulator.disarm).updDrive l fun d => { d with purpose := .inject }))
    (l := l) (by simp [hn]) 1 with h | h <;> rw [h] <;> simp [State.lineState]

theorem writeZero_stroke_none {d : Drive} (h : d.stroke = none) : d.writeZero.stroke = none := by
  unfold Drive.writeZero
  split <;> simp [h]

/-- The drive of a line outside a burst, after a write of rate step 0 (R31, R36). -/
theorem State.InvAt.writeRate_zero_drive (h : u.InvAt c l) (hb : (u.drive.get l).burst = none) :
    (u.writeRate l 0 none).drive.get l = (u.drive.get l).writeZero ∧ ((u.drive.get l).writeZero).burst = none ∧
      ((u.drive.get l).writeZero).rate = 0 ∧ ((u.drive.get l).writeZero).pendingRate = 0 := by
  refine ⟨by simp [writeRate_zero hb], ?_⟩
  unfold Drive.writeZero
  split
  · exact ⟨hb, ‹_›, h.driveFits.zero hb ‹_›⟩
  · exact ⟨hb, rfl, rfl⟩

theorem State.InvAt.chargeComplete (h : u.InvAt c l) (hs : u.lineState l = .charging)
    (hn : (u.drive.get l).stroke = none) : (u.chargeComplete l).InvAt c l := by
  have hb : (u.drive.get l).burst = none := h.driveFits.burst_none (by rw [show (u.seq.get l).state = _ from hs]; rfl)
  have hw := h.writeZero none
  have hseq := writeRate_zero_seq u l
  obtain ⟨hd, hdb, hdr, hdp⟩ := h.writeRate_zero_drive hb
  have hdn := writeZero_stroke_none hn
  unfold State.chargeComplete
  generalize u.writeRate l 0 none = v at hw hseq hd
  have hsv : v.lineState l = .charging := by rw [State.lineState, hseq]; exact hs
  have hq := hw.seqFits
  have hcov : v.covered l = false := by
    by_contra hc
    exact (hq.uncovered (by simpa using hc)).2.1 hsv
  have hrun : (v.runSlot l .chargeCompletion).InvAt c l := hw.runSlot fun req hr hdrop => by
    cases req <;> simp_all [PendingReq.runsAt, State.canTake]
  have hcases : v.runSlot l .chargeCompletion = v ∨ (v.runSlot l .chargeCompletion).lineState l ≠ .charging := by
    unfold State.runSlot
    split
    · exact .inl rfl
    · rename_i req _
      split
      · rename_i hr
        cases req <;> simp only [PendingReq.runsAt, Bool.false_eq_true] at hr
        dsimp only
        rw [if_neg (by simp [State.dropsAtRun, hcov])]
        exact .inr (takeInject_not_charging (by simp [hd, hdn]))
      · exact .inl rfl
  dsimp only
  split
  · rename_i hcharging
    rcases hcases with heq | hne
    · rw [heq]
      obtain ⟨hr, hwait, hp, hlist, haf⟩ := hq.notHeld (by rw [show (v.seq.get l).state = _ from hsv]; simp)
      refine State.InvAt.updReg ?_ _
      refine hw.updBoth (f := fun q => { q with
        state := .ready, standingTimer := .startSeconds u.envelope.standingLimit })
        (g := fun d => { d with staticTimer := u.staticStart l }) ?_ ?_
      · rw [hlist, show (v.openRec.get l).isSome = true from hq.record.trans
          (by rw [show (v.seq.get l).state = _ from hsv]; rfl)]
        exact .inStage rfl (by simp) (hq.mix.trans (by rw [show (v.seq.get l).state = _ from hsv]; rfl)) hr hwait hp haf
          (.inr (.inr rfl))
      · rw [hd]
        have hpur := hw.driveFits.purpose
        rw [hd] at hpur
        refine driveFits_still ?_ hdn hdb hdr hdp haf
        have hst : (v.seq.get l).state = .charging := hsv
        cases hx : (u.drive.get l).writeZero.purpose <;> rw [hx] at hpur <;> simp_all [purposeFits]
    · exact absurd hcharging hne
  · exact hrun

theorem State.InvAt.chargeDone (h : u.InvAt c l) (hs : u.lineState l = .charging) (hn : (u.drive.get l).stroke = none) :
    (u.chargeDone l).InvAt c l := by
  have hc : (u.updSeq l fun q => { q with chargeCount := q.chargeCount + 1 }).InvAt c l := h.updSeq rfl
  unfold State.chargeDone
  dsimp only
  split
  · exact hc.chargeComplete (by simpa [State.lineState] using hs) hn
  · exact hc

theorem State.InvAt.flushComplete (h : u.InvAt c l) (hs : u.lineState l = .flushing)
    (hn : (u.drive.get l).stroke = none) : (u.flushComplete l).InvAt c l := by
  have hst : (u.seq.get l).state = .flushing := hs
  have hb : (u.drive.get l).burst = none := h.driveFits.burst_none (by rw [hst]; rfl)
  have hw := h.writeZero none
  have hseq := writeRate_zero_seq u l
  obtain ⟨hd, hdb, hdr, hdp⟩ := h.writeRate_zero_drive hb
  unfold State.flushComplete
  generalize u.writeRate l 0 none = v at hw hseq hd
  have hstv : (v.seq.get l).state = .flushing := by rw [hseq]; exact hst
  have hq := hw.seqFits
  obtain ⟨hr, hwait, hp, hlist, haf⟩ := hq.notHeld (by simp [hstv])
  have hmid : (v.updSeq l fun q => { q with holdsGrout := false, state := .idle }).InvAt c l := by
    refine hw.moveSeq ⟨?_, ?_, ?_, by simp, ?_, hq.supply, by simp, by simp [hp, haf], by simp [haf]⟩ ?_
    · exact hq.record.trans (by rw [hstv]; rfl)
    · simp [hr]
    · exact hq.mix.trans (by rw [hstv]; rfl)
    · simp [hwait]
    · rw [hd]
      have hpur := hw.driveFits.purpose
      rw [hd] at hpur
      refine driveFits_still ?_ (writeZero_stroke_none hn) hdb hdr hdp haf
      cases hx : (u.drive.get l).writeZero.purpose <;> rw [hx] at hpur <;> simp_all [purposeFits]
  refine hmid.runSlot fun req hr _ => ?_
  cases req <;> simp_all [PendingReq.runsAt, State.canTake, State.lineState]

theorem State.InvAt.flushDone (h : u.InvAt c l) (hs : u.lineState l = .flushing) (hn : (u.drive.get l).stroke = none) :
    (u.flushDone l).InvAt c l := by
  have hc : (u.updSeq l fun q => { q with flushCount := q.flushCount + 1 }).InvAt c l := h.updSeq rfl
  unfold State.flushDone
  dsimp only
  split
  · exact hc.flushComplete (by simpa [State.lineState] using hs) hn
  · exact hc

theorem State.InvAt.evaluateInject (h : u.InvAt c l) : (u.evaluateInject l).InvAt c l := by
  unfold State.evaluateInject
  split
  · exact h
  · split
    · exact h.stageEnd _ _
    · unfold State.tryThicken
      split
      · exact h
      · rename_i mix hmix
        split
        · split
          · exact ((h.updSeq (f := fun q => { q with currentMix := some _ }) (by simp [Sequencer.invView, hmix])).updRec
              _).latchAll _
          · exact h
        · exact h

theorem State.InvAt.credit (h : u.InvAt c l) (k : Stroke) :
    ((u.creditStroke l k).updDrive l fun d => { d with stroke := none, watch := none }).InvAt c l := by
  have : (u.creditStroke l k).InvAt c l := by
    unfold State.creditStroke
    split
    · exact h.updReg _
    · exact h.updRec _
    · exact h.updRec _
    · exact h
    · exact h
  exact this.updDrive fun hd => hd.strokeGone

/-- The state in which a running stroke of each purpose finds its line (R32, R40). -/
theorem DriveFits.running_state {q : Sequencer} {d : Drive} (h : DriveFits q d) {k : Stroke} (hk : d.stroke = some k)
    (hr : k.running = true) : (k.purpose = .charge → q.state = .charging) ∧ (k.purpose = .flush → q.state = .flushing) := by
  have := h.stroke k hk
  constructor <;> intro hp <;> simp_all [strokeFits]

theorem State.InvAt.completeStroke (h : u.InvAt c l) {k : Stroke} (hk : (u.drive.get l).stroke = some k)
    (hr : k.running = true) : (u.completeStroke l k).InvAt c l := by
  have hcr := h.credit k
  have hls : ((u.creditStroke l k).updDrive l fun d => { d with stroke := none, watch := none }).lineState l = u.lineState l :=
    creditStroke_lineState u l k
  have hn : (((u.creditStroke l k).updDrive l fun d => { d with stroke := none, watch := none }).drive.get l).stroke = none := by
    simp
  obtain ⟨hcharge, hflush⟩ := h.driveFits.running_state hk hr
  have hact : (((u.creditStroke l k).updDrive l fun d => { d with stroke := none, watch := none }).completionAction l
      k.purpose).InvAt c l := by
    cases hp : k.purpose with
    | test => exact hcr
    | charge => exact hcr.chargeDone (hls.trans (hcharge hp)) hn
    | inject => exact hcr.evaluateInject
    | circulate => exact hcr.circulateDone hn
    | flush => exact hcr.flushDone (hls.trans (hflush hp)) hn
  unfold State.completeStroke
  dsimp only
  split
  · exact hact
  · exact hact.nextStroke

theorem State.InvAt.senseStroke (h : u.InvAt c l) : (u.senseStroke l).InvAt c l := by
  unfold State.senseStroke
  split
  · split
    · exact h.completeStroke ‹_› ‹_›
    · exact h
  · exact h

/-! #### Settling and samples (R10, R47, R57 to R64) -/

theorem State.InvAt.settle (h : u.InvAt c l) (hs : u.lineState l = .seated) : (u.settle l).InvAt c l := by
  have hmid : (u.updSeq l fun q => { q with settled := true, settleTimer := .stopped }).InvAt c l := h.updSeq rfl
  unfold State.settle State.captureFormation
  refine State.InvAt.runSlot (((hmid.updReg _).updRec _).updReg _) fun req => canTake_seated ?_ (.inl rfl)
  simpa [State.lineState] using hs

theorem State.InvAt.excursion (h : u.InvAt c l) : (u.excursion l).InvAt c l :=
  ((((h.writeZero none).updReg _).updRec _).latchAll _).updReg _

theorem State.InvAt.adjustRate (h : u.InvAt c l) (hw : (u.lineState l).works = true) (p : Pressures) :
    (u.adjustRate l p).InvAt c l := by
  unfold State.adjustRate
  dsimp only
  split
  · exact h.writeRate (.inr hw) none
  · split
    · exact h.writeRate (.inr hw) none
    · exact h

theorem State.InvAt.refusalStep (h : u.InvAt c l) (p : Pressures) : (u.refusalStep l p).InvAt c l := by
  unfold State.refusalStep
  split
  · split
    · exact h.updReg _
    · exact h.updReg _
  · exact h

theorem State.InvAt.clearStop (h : u.InvAt c l) (hw : (u.lineState l).works = true) (x : Nat) :
    (u.clearStop l x).InvAt c l :=
  (h.updReg _).writeRate (.inr hw) none

theorem State.InvAt.decideSample (h : u.InvAt c l) (p : Pressures) (gauge : Gauge) :
    (u.decideSample l p gauge).InvAt c l := by
  unfold State.decideSample
  split
  · rename_i hs
    have hw : (u.lineState l).works = true := by rw [hs]; rfl
    unfold State.decideInjecting
    split
    · split
      · exact (h.clearStop hw 1).refusalStep p
      · exact h.refusalStep p
    · split
      · exact h.excursion
      · exact (h.adjustRate hw p).refusalStep p
  · rename_i hs
    have hw : (u.lineState l).works = true := by rw [hs]; rfl
    unfold State.decideTesting
    split
    · have he := h.excursion
      have hst : (u.excursion l).lineState l = .testing := (excursion_lineState u l).trans hs
      refine he.but.endTest (Apart.refl l _) hst ?_ _
      have hq := he.seqFits
      have hc : (u.excursion l).covered l = false := by
        by_contra hc
        exact (hq.uncovered (by simpa using hc)).1 hst
      rwa [hc] at hq
    · exact h.adjustRate hw p
  · rename_i hs
    have hw : (u.lineState l).works = true := by rw [hs]; rfl
    unfold State.decideCharging
    split
    · split
      · exact h.clearStop hw _
      · exact h
    · split
      · exact h.excursion
      · exact h
  all_goals exact h

theorem State.LinesInv.handToWatch (h : u.LinesInv) (pe : Option Nat) : (u.handToWatch l pe).LinesInv := by
  unfold State.handToWatch
  split
  · exact h
  · unfold State.watchSample
    split
    · split
      · exact ((h.at l).updReg _).lines fun _ => rfl
      · split
        · unfold State.detectConnection
          dsimp only
          have hcap : ∀ x, ({ u with capture := x } : State).LinesInv := fun x =>
            ((h.at l).of_same (t := { u with capture := x }) rfl rfl (fun _ => rfl) rfl rfl).lines fun _ => rfl
          exact (((((State.LinesInv.holdOperation (hcap _) _).at l).updRec _).latchAll _).latchAll _).updReg _ |>.lines
            fun _ => rfl
        · exact h
    · exact h

theorem State.LinesInv.takeSample (h : u.LinesInv) (r : Reading) : (u.takeSample l r).LinesInv := by
  cases r with
  | value kPa =>
    have hm : (u.measured l kPa).LinesInv := (((h.at l).updReg _).updRec _).lines fun _ => rfl
    have hw := hm.handToWatch (l := l) (u.peOf l kPa)
    rw [takeSample_eq]
    cases u.pressuresOf l kPa with
    | none => exact hw
    | some p =>
      exact (((hw.at l).updReg (·.accumulate p.pn)).decideSample p (u.gaugeOf l kPa)).lines fun k =>
        (((LineOnly.refl l _).updReg _).decideSample _ _).covered k |>.symm
  | invalid =>
    have h1 := (h.at l).updReg fun g => { g with sampleTimer := .running 0 Config.samplePeriod }
    unfold State.takeSample State.invalidSample
    dsimp only
    split
    · exact ((h1.updReg Regulator.invalidReading).lineFault _).lines fun k =>
        ((((LineOnly.refl l u).updReg _).updReg _).lineFault _).covered k |>.symm
    · exact (h1.updReg Regulator.invalidReading).lines fun _ => rfl

end InvAt
end Sys2Proof.Machine


/-! SUPPORT. The line invariant through the requests. -/

namespace Sys2Proof.Machine

/-! ### The requests (R5, R6, R15 to R18, R27, R100, R107, R171) -/

section Owners

variable {c : LineId → Bool} {l : LineId} {s t u : State}

/-- An operation at one line under an unchanged hold map. -/
theorem State.InvAt.linesOf (h : t.InvAt s.covered l) (ho : LineOnly l s t) : t.LinesInv :=
  h.lines fun k => (ho.covered k).symm

/-- The lines that take a request at once, as R5's table has them. -/
theorem taking_atOnce_iff {req : PendingReq} :
    taking (u.seq.get l) (u.drive.get l).burst.isSome req = .atOnce ↔ u.takesAtOnce l req := by
  cases req <;> simp only [taking, State.takesAtOnce, State.lineState] <;> cases (u.seq.get l).state <;> simp

/-- The lines that defer a request, as R5's table has them. -/
theorem taking_deferred_iff {req : PendingReq} :
    taking (u.seq.get l) (u.drive.get l).burst.isSome req = .deferred ↔ u.defers l req := by
  cases req <;> simp only [taking, State.defers, State.lineState] <;> cases (u.seq.get l).state <;> simp
  split <;> simp

theorem lineStatus_ok_uncovered {req : PendingReq} (h : u.lineStatus l req = .ok) (hr : req.needsRelease = true) :
    u.covered l = false := by
  unfold State.lineStatus at h
  dsimp only at h
  split_ifs at h
  simp_all

theorem canTake_of_ok (h : u.LineInv l) {req : PendingReq} (hok : u.lineStatus l req = .ok) : u.canTake l req := by
  have ht := taking_atOnce_iff.mp (lineStatus_ok hok)
  obtain ⟨-, hd⟩ := lineInv_iff.mp h
  cases req with
  | seat w => exact ht
  | test target duration => exact ⟨ht.1, lineStatus_ok_uncovered hok rfl⟩
  | charge => exact ⟨ht.1, lineStatus_ok_uncovered hok rfl⟩
  | inject => exact ⟨.inl ht.1, lineStatus_ok_uncovered hok rfl, hd.stroke_none (.inr (.inr ht)), ht.2⟩

theorem State.LinesInv.deferrable (h : u.LinesInv) (req : PendingReq) : (deferrable req l u).1.LinesInv := by
  refine State.InvAt.linesOf (s := u) (l := l) ?_ (deferrable_lineOnly req l u)
  unfold Machine.deferrable
  split
  · exact (h.at l).takeDeferred (canTake_of_ok (h l) ‹_›)
  · exact (h.at l).updSeq rfl
  · exact h.at l

/-- A sequencer without a stage, in another state without one. -/
theorem SequencerFits.moved {q r : Sequencer} {record listed covered : Bool} (h : SequencerFits q record listed covered)
    (hq : q.state.hasStage = false) (hr : r.state.hasStage = false)
    (hv : (r.resume, r.currentMix, r.waitHold, r.waitSupply, r.resumeAfterBurst) =
      (q.resume, q.currentMix, q.waitHold, q.waitSupply, q.resumeAfterBurst)) :
    SequencerFits r record listed covered := by
  simp only [Prod.mk.injEq] at hv
  obtain ⟨h1, h2, h3, h4, h5⟩ := hv
  have hheld : ∀ st : LineState, st.hasStage = false → st ≠ .held ∧ st.isGrout = false ∧ st ≠ .testing ∧ st ≠ .charging ∧
      st ≠ .injecting := by
    intro st hst
    cases st <;> simp_all [LineState.hasStage, LineState.isGrout]
  obtain ⟨q1, q2, q3, q4, q5⟩ := hheld _ hq
  obtain ⟨r1, r2, r3, r4, r5⟩ := hheld _ hr
  obtain ⟨hres, hw, hp, -, haf⟩ := h.notHeld q1
  refine ⟨by rw [h.record, hq, hr], ?_, ?_, fun _ => ⟨r3, r4, r5⟩, ?_, h4.trans h.supply, fun hc => absurd hc r1, ?_, ?_⟩
  · rw [h1, hres, beq_eq_false_iff_ne.mpr r1]; rfl
  · rw [h2, h.mix, q2, r2]
  · rw [h3, hw, beq_eq_false_iff_ne.mpr r1]; rfl
  · simp [h4, h5, hp, haf]
  · simp [h5, haf]

/-- The drive of a line in OFF, IDLE or FAULT stands still (R32). -/
theorem DriveFits.rests {q : Sequencer} {d : Drive} (h : DriveFits q d) (hs : q.state = .off ∨ q.state = .idle ∨ q.state = .fault) :
    d.stroke = none ∧ d.burst = none ∧ d.rate = 0 ∧ d.pendingRate = 0 := by
  have hb := h.burst_none (by rcases hs with hs | hs | hs <;> rw [hs] <;> rfl)
  have hz := h.still hb (by rcases hs with hs | hs | hs <;> simp [hs]) (by rcases hs with hs | hs | hs <;> simp [hs])
    (by rcases hs with hs | hs | hs <;> simp [hs]) (by rcases hs with hs | hs | hs <;> simp [hs])
  refine ⟨?_, hb, hz.1, hz.2⟩
  cases hk : d.stroke with
  | none => rfl
  | some k =>
    have hf := h.stroke k hk
    rcases hs with hs | hs | hs <;> cases hp : k.purpose <;> simp_all [strokeFits, LineState.stands]

/-- A line in OFF, IDLE or FAULT moves to OFF or IDLE. -/
theorem State.InvAt.restSeq (h : u.InvAt c l) (hs : u.lineState l = .off ∨ u.lineState l = .idle ∨ u.lineState l = .fault)
    {f : Sequencer → Sequencer} (hf : (f (u.seq.get l)).state = .off ∨ (f (u.seq.get l)).state = .idle)
    (hv : ∀ q, ((f q).resume, (f q).currentMix, (f q).waitHold, (f q).waitSupply, (f q).resumeAfterBurst) =
      (q.resume, q.currentMix, q.waitHold, q.waitSupply, q.resumeAfterBurst)) : (u.updSeq l f).InvAt c l := by
  have hstage : (u.seq.get l).state.hasStage = false := by
    rcases hs with hs | hs | hs <;> rw [show (u.seq.get l).state = _ from hs] <;> rfl
  obtain ⟨hn, hb, hr, hz⟩ := h.driveFits.rests hs
  obtain ⟨-, -, -, -, haf⟩ := h.seqFits.notHeld (by intro hc; rw [hc] at hstage; cases hstage)
  have hsame := hv (u.seq.get l)
  simp only [Prod.mk.injEq] at hsame
  refine h.moveSeq (h.seqFits.moved hstage ?_ (hv _)) (driveFits_still ?_ hn hb hr hz (hsame.2.2.2.2.trans haf))
  · rcases hf with hf | hf <;> rw [hf] <;> rfl
  · have := h.driveFits.purpose
    have hst : (u.seq.get l).state = .off ∨ (u.seq.get l).state = .idle ∨ (u.seq.get l).state = .fault := hs
    cases hp : (u.drive.get l).purpose <;> rcases hst with hst | hst | hst <;> rcases hf with hf | hf <;>
      simp_all [purposeFits]

theorem State.InvAt.enterFlushing_fault (h : u.InvAt c l) (hs : u.lineState l = .fault) :
    (u.enterFlushing l).InvAt c l := by
  have hst : (u.seq.get l).state = .fault := hs
  obtain ⟨hn, hb, hr, hz⟩ := h.driveFits.rests (.inr (.inr hst))
  obtain ⟨-, -, -, -, haf⟩ := h.seqFits.notHeld (by simp [hst])
  unfold State.enterFlushing
  dsimp only
  set f : Sequencer → Sequencer := fun q =>
    { q.released with
      state := .flushing
      nf := ceilDiv ((u.lineTable.get l).lineVolume * u.timing.flushFactor) (u.lineTable.get l).strokeVolume
      flushCount := 0 }
  refine h.setPurpose (f := f) (by simp) (apart_updSeq u l f) rfl rfl
    (h.seqFits.moved (by rw [hst]; rfl) rfl rfl) ?_ rfl _
  simp only [State.updSeq_drive]
  exact driveFits_still rfl hn hb hr hz haf

theorem State.LinesInv.clearFaultAt (h : u.LinesInv) : (clearFaultAt l u).1.LinesInv := by
  refine State.InvAt.linesOf (s := u) (l := l) ?_ (clearFaultAt_lineOnly l u)
  unfold Machine.clearFaultAt
  split
  · exact h.at l
  · rename_i hs
    have hs : u.lineState l = .fault := by simpa using hs
    split
    · exact h.at l
    · have h1 : (u.updSeq l fun q => { q with faultCause := none }).InvAt u.covered l := (h.at l).updSeq rfl
      have hs1 : (u.updSeq l fun q => { q with faultCause := none }).lineState l = .fault := by
        simpa [State.lineState] using hs
      dsimp only
      split
      · exact h1.enterFlushing_fault hs1
      · exact h1.restSeq (.inr (.inr hs1)) (.inr rfl) fun _ => rfl

theorem State.LinesInv.followEnabled (h : u.LinesInv) (enabled : Bool) : (u.followEnabled l enabled).LinesInv := by
  unfold State.followEnabled
  split
  · exact (((h.at l).restSeq (f := fun q => { q.released with state := .idle }) (.inl ‹_›) (.inr rfl) fun _ => rfl).updReg
      _).lines fun _ => rfl
  · exact (((h.at l).restSeq (f := fun q => { q.released with state := .off }) (.inr (.inl ‹_›)) (.inl rfl) fun _ =>
      rfl).updReg _).lines fun _ => rfl
  · exact h

/-- An operation that leaves all that the invariant reads. -/
theorem State.LinesInv.of_same (h : s.LinesInv) (hq : t.seq = s.seq) (hd : t.drive = s.drive)
    (hr : t.openRec = s.openRec) (hw : t.demand = s.demand) (hh : t.holds = s.holds) : t.LinesInv := fun k =>
  (h k).of_same (by rw [hq]) (by rw [hd]) (by rw [hr]) (by rw [hw]) (by rw [State.covered, State.covered, hh])

end Owners
end Sys2Proof.Machine


/-! SUPPORT. The line invariant through a delivery. -/

namespace Sys2Proof.Machine

/-! ### Deliveries (R99, R107) -/

section Service

variable {c : LineId → Bool} {l : LineId} {s t u : State}

/-! A line without a burst has none after a rate step is written. -/

theorem abandonStroke_burst (u : State) (l : LineId) :
    ((u.abandonStroke l).drive.get l).burst = (u.drive.get l).burst := by
  unfold State.abandonStroke
  split
  · rfl
  · split <;> simp

theorem lineFault_burst (h : (u.drive.get l).burst = none) (cause : FaultCause) :
    ((u.lineFault l cause).drive.get l).burst = none := by
  have hend : ∀ (reason : EndReason) (origin : Option Port) (quiet : Bool),
      (((u.endStage l reason origin quiet).enterFault l cause).drive.get l).burst = none := by
    intro reason origin quiet
    simp [State.enterFault, State.latchAll, endStage_drive, Drive.powerOn]
  have hstop : (((u.stopDrive l)).drive.get l).burst = none := by simp [stopDrive_drive, Drive.powerOn]
  unfold State.lineFault
  split
  iterate 6 exact hend _ _ _
  · unfold State.dropSlot State.latchUnless
    split
    · simpa [State.enterFault, State.latchAll] using hstop
    · simpa [State.enterFault, State.latchAll] using hstop
  · simpa [State.enterFault, State.latchAll] using hstop
  · exact h
  · exact h

theorem strokeFailure_burst (h : (u.drive.get l).burst = none) : ((u.strokeFailure l).drive.get l).burst = none :=
  lineFault_burst (by simp [abandonStroke_burst, h]) _

theorem supplyWait_burst (u : State) (l : LineId) (mix : Nat) :
    ((u.supplyWait l mix).drive.get l).burst = (u.drive.get l).burst := by
  cases hr : (u.lineState l).asResume with
  | none => simp [State.supplyWait, hr, State.latchAll, State.setDemand]
  | some r => rw [supplyWait_drive hr]

theorem runStroke_burst (u : State) (l : LineId) (kind : StrokePurpose) (source : Source) :
    ((u.runStroke l kind source).drive.get l).burst = (u.drive.get l).burst := by
  simp [State.runStroke]

theorem startStroke_burst (u : State) (l : LineId) (given : Option TankId) :
    ((u.startStroke l given).drive.get l).burst = (u.drive.get l).burst := by
  have hgrout : ∀ kind, ((u.startGrout l kind given).drive.get l).burst = (u.drive.get l).burst := by
    intro kind
    unfold State.startGrout
    split
    · simp [State.runGrout, runStroke_burst]
    · split
      · rfl
      · split
        · simp [State.runGrout, runStroke_burst, State.payFrom, State.setCurrentTank]
        · exact supplyWait_burst ..
  unfold State.startStroke
  split
  · rfl
  · exact runStroke_burst ..
  · exact runStroke_burst ..
  · exact hgrout _
  · exact hgrout _

theorem writeRate_burst (h : (u.drive.get l).burst = none) (x : Nat) (given : Option TankId) :
    ((u.writeRate l x given).drive.get l).burst = none := by
  have hzero : (Drive.writeZero (u.drive.get l)).burst = none := by
    unfold Drive.writeZero
    split <;> exact h
  unfold State.writeRate
  dsimp only
  split
  · simpa using h
  · split
    · simpa using hzero
    · split
      · simpa using h
      · split
        · unfold State.restartStroke
          dsimp only
          split
          · exact strokeFailure_burst (by simpa [Drive.restarted] using h)
          · simpa [Drive.restarted] using h
        · rw [startStroke_burst]
          simpa using h

theorem leaveHeld_burst (h : (u.drive.get l).burst = none) (given : Option TankId) :
    ((u.leaveHeld l given).drive.get l).burst = none := by
  unfold State.leaveHeld
  split
  · exact h
  · refine writeRate_burst ?_ _ _
    simpa [addHeld_drive] using h

/-- A line that a service may come to: with a burst it is in HELD. -/
def State.Servable (s : State) (l : LineId) : Prop := (s.drive.get l).burst = none ∨ s.lineState l = .held

theorem State.Servable.causeRemoved (h : u.Servable l) (given : Option TankId) : (u.causeRemoved l given).Servable l := by
  unfold State.causeRemoved
  split
  · exact h
  · split
    · rename_i hb
      refine .inr ?_
      have := h.resolve_left (Option.isSome_iff_ne_none.mp hb)
      simpa [State.lineState] using this
    · rename_i hb
      exact .inl (leaveHeld_burst (by simpa using hb) given)

theorem State.Servable.freeWaiting (h : u.Servable l) (given : Option TankId) : (u.freeWaiting l given).Servable l := by
  refine State.Servable.causeRemoved ?_ given
  simpa [State.Servable, State.lineState, State.setDemand] using h

theorem State.InvAt.freeWaiting (h : u.InvAt c l) (hs : u.Servable l) (given : Option TankId) :
    (u.freeWaiting l given).InvAt c l := by
  have hq := h.seqFits
  have hap : Apart l u ((u.setDemand (strikeLine u.demand l)).updSeq l fun q => { q with waitSupply := false }) := by
    refine ⟨((LineOnly.refl l u).setDemand _).updSeq _, fun k hk => ?_⟩
    simp [State.setDemand, onList_strikeLine, hk]
  unfold State.freeWaiting
  by_cases hheld : (u.seq.get l).state = .held
  · obtain ⟨r, hr⟩ := Option.isSome_iff_exists.mp (hq.resume.trans (by simp [hheld]))
    refine h.but.causeRemoved hap (r := r) ?_ ?_ ?_ ?_ ?_ ?_ ?_ ?_ given
    · exact hq.record.trans (by rw [hheld]; rfl)
    · simpa [State.setDemand] using hheld
    · simpa [State.setDemand] using hr
    · simpa [State.setDemand, hheld, LineState.isGrout] using hq.mix
    · rw [hap.only.covered]
      simpa [State.setDemand, hheld] using hq.hold
    · simp [State.setDemand, onList_strikeLine]
    · have hd := h.driveFits
      simp only [State.updSeq_seq, State.setDemand, PerLine.get_upd_self, State.updSeq_drive]
      refine ⟨by simpa [purposeFits] using hd.purpose, fun k hk => ?_, hd.burst, hd.running, hd.zero, hd.still,
        hd.afterBurst⟩
      have := hd.stroke k hk
      cases hp : k.purpose <;> simp_all [strokeFits]
    · intro ha
      have := hq.afterBurst (by simpa [State.setDemand] using ha)
      simpa [State.setDemand] using this.1
  · obtain ⟨hr, hw, hp, hlist, haf⟩ := hq.notHeld hheld
    have hstay : ((u.setDemand (strikeLine u.demand l)).updSeq l fun q => { q with waitSupply := false }).InvAt c l := by
      refine h.of_apart hap (lineInv_iff.mpr ?_)
      rw [hap.only.covered]
      have hv : ({ u.seq.get l with waitSupply := false } : Sequencer).invView = (u.seq.get l).invView := by
        simp [Sequencer.invView, hp]
      simp only [State.updSeq_seq, State.setDemand, PerLine.get_upd_self, State.updSeq_drive, State.updSeq_openRec,
        State.updSeq_demand, onList_strikeLine, bne_self_eq_false, Bool.and_false]
      exact ⟨(hlist ▸ hq).of_view hv, h.driveFits.of_view (Sequencer.driveView_of_invView hv)⟩
    have hb : (u.drive.get l).burst = none := hs.resolve_right hheld
    unfold State.causeRemoved State.leaveHeld
    simp only [State.updSeq_seq, State.setDemand, PerLine.get_upd_self, hw, hr, State.updSeq_drive, hb]
    exact hstay

/-- Every line sound, and a service may come to each of a list. -/
theorem serveLine_lines {mix : Nat} {acc : State × Nat} (h : acc.1.LinesInv) (hs : acc.1.Servable l) :
    (serveLine mix acc l).1.LinesInv ∧ ∀ k, acc.1.Servable k → (serveLine mix acc l).1.Servable k := by
  have other : ∀ {v : State}, LineOnly l acc.1 v → v.Servable l → ∀ k, acc.1.Servable k → v.Servable k := by
    intro v ho hv k hk
    by_cases hkl : k = l
    · exact hkl ▸ hv
    · obtain ⟨hq, hd, -⟩ := ho.lines k hkl
      simpa only [State.Servable, State.lineState, hq, hd] using hk
  have hfree : ∀ given, LineOnly l acc.1 (acc.1.freeWaiting l given) := fun given =>
    (((LineOnly.refl l acc.1).setDemand _).updSeq _).causeRemoved given
  unfold serveLine
  dsimp only
  split
  · exact ⟨h, fun _ hk => hk⟩
  · rename_i k _
    split
    · have hpaid : (acc.1.payFrom l k (acc.1.strokeVolume l)).Servable l := hs
      have ho : LineOnly l acc.1 ((acc.1.payFrom l k (acc.1.strokeVolume l)).freeWaiting l (some k)) :=
        ((((LineOnly.refl l acc.1).payFrom _ _).setDemand _).updSeq _).causeRemoved _
      exact ⟨(((h.at l).payFrom k _).freeWaiting hpaid _).linesOf ho, other ho (hpaid.freeWaiting _)⟩
    · exact ⟨((h.at l).freeWaiting hs _).linesOf (hfree _), other (hfree _) (hs.freeWaiting _)⟩

theorem serveLines_lines {mix : Nat} {ls : List LineId} {acc : State × Nat} (h : acc.1.LinesInv)
    (hs : ∀ k ∈ ls, acc.1.Servable k) : (ls.foldl (serveLine mix) acc).1.LinesInv := by
  induction ls generalizing acc with
  | nil => exact h
  | cons l ls ih =>
    obtain ⟨hi, hk⟩ := serveLine_lines (mix := mix) h (hs l List.mem_cons_self)
    exact ih hi fun k hm => hk k (hs k (List.mem_cons_of_mem l hm))

/-- The lines of a mix's waiting list are in HELD (R105). -/
theorem servable_of_waiting (h : u.LinesInv) {mix : Nat} (hl : l ∈ u.waitingFor mix) : u.Servable l := by
  refine .inr ((h l).waits (.inl ((h l).supply.trans (onList_iff.mpr ?_))))
  unfold State.waitingFor at hl
  split at hl
  · exact ⟨_, List.mem_of_find?_eq_some ‹_›, hl⟩
  · cases hl

theorem State.LinesInv.serve (h : u.LinesInv) (mix : Nat) : (u.serve mix).1.LinesInv := by
  have hr : ((u.waitingFor mix).foldl (serveLine mix) (u, 0)).1.LinesInv :=
    serveLines_lines (acc := (u, 0)) h fun k hk => servable_of_waiting h hk
  have hd : ∀ {v : State}, v.LinesInv → (v.setDemand (dropEmptied v.demand)).LinesInv := fun hv k =>
    (hv k).of_same rfl rfl rfl (onList_dropEmptied _ k) rfl
  unfold State.serve
  dsimp only
  split
  · exact hd hr
  · exact (hd hr).of_same rfl rfl rfl rfl rfl

end Service
end Sys2Proof.Machine


/-! SUPPORT. The walk through every command, once for all properties that the operations of the lines keep. -/

namespace Sys2Proof.Machine

/-! ### What every step keeps

The commands walked through once: a property of the lines, the demand queue and the hold map that the operations of
the lines keep is kept by every step. -/

section Steps

variable {P : State → Prop} {l : LineId} {s t u : State}

/-- What of the part the properties of the lines speak of is the same. -/
structure SameWork (s t : State) : Prop where
  seq : t.seq = s.seq
  drive : t.drive = s.drive
  openRec : t.openRec = s.openRec
  demand : t.demand = s.demand
  holds : t.holds = s.holds

/-- A property kept by every operation of a line, by a hold operation, a delivery, a cabinet reset and a millisecond. -/
structure KeptByWork (P : State → Prop) : Prop where
  same : ∀ {s t : State}, SameWork s t → P s → P t
  deferrable : ∀ {s : State} {l : LineId} (req : PendingReq), P s → P (deferrable req l s).1
  stageEnd : ∀ {s : State} {l : LineId} (reason : EndReason) (origin : Option Port), P s → P (s.stageEnd l reason origin)
  clearFaultAt : ∀ {s : State} {l : LineId}, P s → P (clearFaultAt l s).1
  startBurst : ∀ {s : State} {l : LineId}, (s.lineState l).stands = true → P s → P (s.startBurst l)
  followEnabled : ∀ {s : State} {l : LineId} (enabled : Bool), P s → P (s.followEnabled l enabled)
  holdOperation : ∀ {s : State} (m : HoldMap), P s → P (s.holdOperation m)
  serve : ∀ {s : State} (mix : Nat), P s → P (s.serve mix).1
  takeSample : ∀ {s : State} {l : LineId} (r : Reading), P s → P (s.takeSample l r)
  settle : ∀ {s : State} {l : LineId}, s.lineState l = .seated → P s → P (s.settle l)
  endTest : ∀ {s : State} {l : LineId} (ending : TestEnd), s.lineState l = .testing → P s → P (s.endTest l ending)
  senseStroke : ∀ {s : State} {l : LineId}, P s → P (s.senseStroke l)
  strokeFailure : ∀ {s : State} {l : LineId}, P s → P (s.strokeFailure l)
  nextStroke : ∀ {s : State} {l : LineId}, P s → P (s.nextStroke l)
  cabinetReset : ∀ {s : State}, P s → P s.cabinetReset
  tick : ∀ {s : State}, P s → P s.tick
  reset : P State.reset

theorem SameWork.refl (s : State) : SameWork s s := ⟨rfl, rfl, rfl, rfl, rfl⟩

/-! #### Owners that do nothing to a line -/

theorem sameWork_dumpAt (k : TankId) (u : State) : SameWork u (dumpAt k u).1 := by
  unfold dumpAt
  split <;> exact ⟨rfl, rfl, rfl, rfl, rfl⟩

theorem sameWork_writeTankAt (capacity ageLimit : Nat) (k : TankId) (u : State) :
    SameWork u (writeTankAt capacity ageLimit k u).1 := by
  unfold writeTankAt
  split
  · exact .refl u
  · split
    · exact .refl u
    · dsimp only
      split <;> exact ⟨rfl, rfl, rfl, rfl, rfl⟩

theorem sameWork_writeMixOwner (code : Nat) (q : MixWrite) (u : State) : SameWork u (writeMixOwner code q u).1 := by
  unfold writeMixOwner
  split
  · exact .refl u
  · split
    · exact .refl u
    · split <;> exact ⟨rfl, rfl, rfl, rfl, rfl⟩

theorem sameWork_writeBandsOwner (q : BandTable) (u : State) : SameWork u (writeBandsOwner q u).1 := by
  unfold writeBandsOwner
  split <;> exact ⟨rfl, rfl, rfl, rfl, rfl⟩

theorem sameWork_writeTimingOwner (q : TimingTable) (u : State) : SameWork u (writeTimingOwner q u).1 := by
  unfold writeTimingOwner
  split <;> exact ⟨rfl, rfl, rfl, rfl, rfl⟩

theorem sameWork_writeEnvelopeOwner (q : EnvelopeTable) (u : State) : SameWork u (writeEnvelopeOwner q u).1 := by
  unfold writeEnvelopeOwner
  split <;> exact ⟨rfl, rfl, rfl, rfl, rfl⟩

theorem sameWork_setClockOwner (day second : Nat) (u : State) : SameWork u (setClockOwner day second u).1 := by
  unfold setClockOwner
  split <;> exact ⟨rfl, rfl, rfl, rfl, rfl⟩

theorem sameWork_readSettingsOwner (table index : Nat) (u : State) : SameWork u (readSettingsOwner table index u).1 := by
  unfold readSettingsOwner
  split <;> exact ⟨rfl, rfl, rfl, rfl, rfl⟩

theorem sameWork_setCeilingAt (ceiling : Nat) (l : LineId) (u : State) : SameWork u (setCeilingAt ceiling l u).1 := by
  unfold setCeilingAt
  split <;> exact ⟨rfl, rfl, rfl, rfl, rfl⟩

theorem sameWork_superviseOwner (p : Port) (interval : Nat) (u : State) : SameWork u (superviseOwner p interval u).1 := by
  unfold superviseOwner
  split
  · exact .refl u
  · split <;> exact ⟨rfl, rfl, rfl, rfl, rfl⟩

theorem sameWork_readSnapshotOwner (p : Port) (part : Nat) (u : State) : SameWork u (readSnapshotOwner p part u).1 := by
  unfold readSnapshotOwner
  split
  · exact .refl u
  · split <;> exact ⟨rfl, rfl, rfl, rfl, rfl⟩

theorem sameWork_noteOwner (p : Port) (code : Nat) (u : State) : SameWork u (noteOwner p code u).1 := by
  unfold noteOwner
  split <;> exact ⟨rfl, rfl, rfl, rfl, rfl⟩

theorem sameWork_markReadOwner (p : Port) (entry : Nat) (u : State) : SameWork u (markReadOwner p entry u).1 := by
  unfold markReadOwner
  split <;> exact ⟨rfl, rfl, rfl, rfl, rfl⟩

/-! #### The walk through the commands -/

variable (hP : KeptByWork P)
include hP

theorem KeptByWork.on (h : P s) (w : SameWork s t) : P t := hP.same w h

theorem KeptByWork.updPort (h : P u) (p : Port) (f : PortState → PortState) : P (u.updPort p f) :=
  hP.on h ⟨rfl, rfl, rfl, rfl, rfl⟩

theorem KeptByWork.latchAll (h : P u) (e : Event) : P (u.latchAll e) := hP.on h ⟨rfl, rfl, rfl, rfl, rfl⟩

/-! #### Requests -/

theorem KeptByWork.request (h : P u) {owner : State → State × Answer} (ho : ∀ v, P v → P (owner v).1) (p : Port)
    (code : Nat) (allowed : List Port) : P (u.request p code allowed owner) := by
  unfold State.request
  split
  · exact hP.updPort h _ _
  · dsimp only
    split
    · exact hP.updPort (ho _ (hP.updPort h _ _)) _ _
    · exact hP.updPort (hP.updPort h _ _) _ _

theorem KeptByWork.lineRequest (h : P u) {f : LineId → State → State × Answer} (hf : ∀ l v, P v → P (f l v).1) (p : Port)
    (line code : Nat) (allowed : List Port) : P (u.request p code allowed (onLine line f)) := by
  refine hP.request h (fun v hv => ?_) p code allowed
  unfold onLine
  split
  · exact hf _ v hv
  · exact hv

theorem KeptByWork.tankRequest (h : P u) {f : TankId → State → State × Answer} (hf : ∀ k v, P v → P (f k v).1) (p : Port)
    (tank code : Nat) (allowed : List Port) : P (u.request p code allowed (onTank tank f)) := by
  refine hP.request h (fun v hv => ?_) p code allowed
  unfold onTank
  split
  · exact hf _ v hv
  · exact hv

theorem KeptByWork.finishAt (h : P u) : P (finishAt l u).1 := by
  unfold Machine.finishAt
  split
  iterate 6 exact hP.stageEnd _ _ h
  iterate 4 exact h

theorem KeptByWork.abortAt (h : P u) (p : Port) : P (abortAt p l u).1 := by
  unfold Machine.abortAt
  split
  · exact hP.stageEnd _ _ h
  · exact h

theorem KeptByWork.circulateAt (h : P u) : P (circulateAt l u).1 := by
  unfold Machine.circulateAt
  split
  · rename_i hm
    refine hP.startBurst ?_ h
    unfold State.mayCirculate at hm
    cases hs : u.lineState l <;> simp_all [LineState.stands]
  · exact h

theorem KeptByWork.holdOwner (h : P u) (p : Port) (lines : Byte) : P (holdOwner p lines u).1 := by
  unfold Machine.holdOwner
  split
  · exact h
  · exact hP.holdOperation _ h

theorem KeptByWork.releaseAt (h : P u) (k : HoldKey) (lines : Byte) : P (releaseAt k lines u).1 := by
  unfold Machine.releaseAt
  split
  · exact h
  · exact hP.holdOperation _ h

theorem KeptByWork.releaseHoldOwner (h : P u) (p : Port) (reason : Nat) (lines : Byte) :
    P (releaseHoldOwner p reason lines u).1 := by
  unfold Machine.releaseHoldOwner
  split
  · exact h
  · split
    · exact h
    · exact hP.releaseAt h _ _

theorem KeptByWork.releaseConnectionOwner (h : P u) (lines : Byte) : P (releaseConnectionOwner lines u).1 := by
  unfold Machine.releaseConnectionOwner
  split
  · exact h
  · exact hP.releaseAt h _ _

theorem KeptByWork.deliverAt (h : P u) (mix litres : Nat) (k : TankId) : P (deliverAt mix litres k u).1 := by
  have hf : ∀ f, P (u.updTank k f) := fun f => hP.on h ⟨rfl, rfl, rfl, rfl, rfl⟩
  unfold Machine.deliverAt
  split
  · dsimp only
    split
    · exact hP.serve mix (hP.latchAll (hf _) _)
    · exact hP.serve mix (hf _)
  · exact h

theorem KeptByWork.writeLineAt (h : P u) (q : LineWrite) : P (writeLineAt q l u).1 := by
  have written : P { u with lineTable := u.lineTable.set l (lineEntryOf q) } := hP.on h ⟨rfl, rfl, rfl, rfl, rfl⟩
  unfold Machine.writeLineAt
  split
  · exact h
  · split
    · exact h
    · exact hP.followEnabled _ written

theorem KeptByWork.runRequest (h : P s) {i : Instr} (hr : runRequest i s = .next t) : P t := by
  have still {v : State} (w : SameWork s v) : P v := hP.same w h
  cases i with
  | seat p line q => cases hr; exact hP.lineRequest h (fun _ _ hv => hP.deferrable _ hv) p line _ _
  | test p line target duration => cases hr; exact hP.lineRequest h (fun _ _ hv => hP.deferrable _ hv) p line _ _
  | charge p line => cases hr; exact hP.lineRequest h (fun _ _ hv => hP.deferrable _ hv) p line _ _
  | inject p line => cases hr; exact hP.lineRequest h (fun _ _ hv => hP.deferrable _ hv) p line _ _
  | finish p line => cases hr; exact hP.lineRequest h (fun _ _ hv => hP.finishAt hv) p line _ _
  | abort p line => cases hr; exact hP.lineRequest h (fun _ _ hv => hP.abortAt hv p) p line _ _
  | clearFault p line => cases hr; exact hP.lineRequest h (fun _ _ hv => hP.clearFaultAt hv) p line _ _
  | circulate p line => cases hr; exact hP.lineRequest h (fun _ _ hv => hP.circulateAt hv) p line _ _
  | hold p lines => cases hr; exact hP.request h (fun _ hv => hP.holdOwner hv p lines) p _ _
  | releaseHold p reason lines => cases hr; exact hP.request h (fun _ hv => hP.releaseHoldOwner hv p reason lines) p _ _
  | releaseConnection p lines => cases hr; exact hP.request h (fun _ hv => hP.releaseConnectionOwner hv lines) p _ _
  | deliver p tank mix litres => cases hr; exact hP.tankRequest h (fun k _ hv => hP.deliverAt hv mix litres k) p tank _ _
  | dump p tank => cases hr; exact hP.tankRequest h (fun k v hv => hP.same (sameWork_dumpAt k v) hv) p tank _ _
  | writeLine p line q => cases hr; exact hP.lineRequest h (fun _ _ hv => hP.writeLineAt hv q) p line _ _
  | setCeiling p line ceiling =>
    cases hr
    exact hP.lineRequest h (fun l v hv => hP.same (sameWork_setCeilingAt ceiling l v) hv) p line _ _
  | writeTank p tank capacity ageLimit =>
    cases hr
    exact hP.tankRequest h (fun k v hv => hP.same (sameWork_writeTankAt capacity ageLimit k v) hv) p tank _ _
  | supervise p interval => cases hr; exact hP.request h (fun v hv => hP.same (sameWork_superviseOwner p interval v) hv) p _ _
  | readSnapshot p part => cases hr; exact hP.request h (fun v hv => hP.same (sameWork_readSnapshotOwner p part v) hv) p _ _
  | note p code => cases hr; exact hP.request h (fun v hv => hP.same (sameWork_noteOwner p code v) hv) p _ _
  | markRead p entry => cases hr; exact hP.request h (fun v hv => hP.same (sameWork_markReadOwner p entry v) hv) p _ _
  | writeMix p code q => cases hr; exact hP.request h (fun v hv => hP.same (sameWork_writeMixOwner code q v) hv) p _ _
  | writeBands p q => cases hr; exact hP.request h (fun v hv => hP.same (sameWork_writeBandsOwner q v) hv) p _ _
  | writeTiming p q => cases hr; exact hP.request h (fun v hv => hP.same (sameWork_writeTimingOwner q v) hv) p _ _
  | writeEnvelope p q => cases hr; exact hP.request h (fun v hv => hP.same (sameWork_writeEnvelopeOwner q v) hv) p _ _
  | setClock p day second =>
    cases hr
    exact hP.request h (fun v hv => hP.same (sameWork_setClockOwner day second v) hv) p _ _
  | readSettings p table index =>
    cases hr
    exact hP.request h (fun v hv => hP.same (sameWork_readSettingsOwner table index v) hv) p _ _
  | readTanks p | readDemand p | logRange p | status p | readEvents p | readNote p | readClock p | readLog p =>
    cases hr; exact hP.request h (fun _ hv => hv) p _ _
  | readOpen p line | readCapture p line => cases hr; exact hP.lineRequest h (fun _ _ hv => hv) p line _ _
  | portReset p => cases hr; exact hP.request h (fun _ hv => hP.updPort hv p _) p _ _
  | snapshot p | clearEvents p | setMask p | restart p =>
    cases hr; exact hP.request h (fun _ hv => hP.updPort hv p _) p _ _
  | _ => cases hr; exact h

/-! #### The link and the events -/

theorem KeptByWork.takeFrame (h : P s) {p : Port} {frame : List Byte} (hr : takeFrame p frame s = .next t) : P t := by
  unfold Machine.takeFrame at hr
  split at hr
  · cases hr
    exact hP.updPort h _ _
  · split at hr
    · exact hP.runRequest h hr
    · cases hr
      unfold State.rejectFrame
      dsimp only
      split <;> exact hP.updPort (hP.updPort h _ _) _ _

theorem KeptByWork.byteReceived (h : P s) {p : Port} {b : Byte} (hr : execByteReceived p b s = .next t) : P t := by
  unfold execByteReceived at hr
  split at hr
  · cases hr
    split
    · exact hP.updPort h _ _
    · exact h
  · unfold keepByte at hr
    split at hr
    · cases hr
      exact hP.updPort (hP.updPort h _ _) _ _
    · split at hr
      · exact hP.takeFrame (hP.updPort h _ _) hr
      · cases hr
        exact hP.updPort h _ _

theorem KeptByWork.lapse (h : P u) (p : Port) : P (u.lapse p) :=
  hP.latchAll (hP.holdOperation _ (hP.updPort h _ _)) _

theorem KeptByWork.exec (h : P s) {i : Instr} (hr : exec i s = .next t) : P t := by
  by_cases hreq : (requestPort i).isSome = true
  · rw [exec_request hreq] at hr
    exact hP.runRequest h hr
  cases i with
  | powerOn => cases hr; exact hP.on hP.reset ⟨rfl, rfl, rfl, rfl, rfl⟩
  | cabinetReset =>
    cases hr
    split
    · exact h
    · exact hP.on (hP.cabinetReset h) ⟨rfl, rfl, rfl, rfl, rfl⟩
  | byteReceived p b => exact hP.byteReceived h hr
  | gapTimerExpiry p =>
    cases hr
    refine onEvent_induct h ?_
    split
    · exact h
    · exact hP.updPort (hP.updPort h _ _) _ _
  | responseSent p =>
    cases hr
    split
    · exact h
    · split
      · exact hP.cabinetReset (hP.updPort h _ _)
      · exact hP.updPort h _ _
  | sample l r =>
    cases hr
    split
    · exact h
    · exact hP.takeSample r h
  | packerSettleExpiry l =>
    cases hr
    refine onEvent_induct h ?_
    dsimp only
    split
    · rename_i hs
      simp only [Bool.and_eq_true, decide_eq_true_eq] at hs
      obtain ⟨⟨hs, -⟩, -⟩ := hs
      exact hP.settle hs h
    · exact h
  | testTimerExpiry l =>
    cases hr
    refine onEvent_induct h ?_
    dsimp only
    split
    · rename_i hs
      simp only [Bool.and_eq_true, decide_eq_true_eq] at hs
      exact hP.endTest _ hs.1 h
    · exact h
  | strokeComplete l => cases hr; exact onEvent_induct h (hP.senseStroke h)
  | strokeWatchExpiry l =>
    cases hr
    refine onEvent_induct h ?_
    split
    · exact hP.strokeFailure h
    · exact h
  | circulationStaticExpiry l =>
    cases hr
    refine onEvent_induct h ?_
    split
    · rename_i hs
      simp only [Bool.and_eq_true] at hs
      exact hP.startBurst hs.2 h
    · exact h
  | standingTimerExpiry l | refusalTimerExpiry l =>
    cases hr
    refine onEvent_induct h ?_
    split
    · exact hP.stageEnd _ _ h
    · exact h
  | silenceTimerExpiry p =>
    cases hr
    refine onEvent_induct h ?_
    dsimp only
    split
    · exact hP.lapse h p
    · exact h
  | ageExpiry k =>
    cases hr
    split
    · exact hP.on h ⟨rfl, rfl, rfl, rfl, rfl⟩
    · exact h
  | clockAdvance | runSecondsAdvance => cases hr; exact onEvent_induct h (hP.on h ⟨rfl, rfl, rfl, rfl, rfl⟩)
  | resetInputDeasserted => cases hr; exact hP.on h ⟨rfl, rfl, rfl, rfl, rfl⟩
  | _ => exact absurd rfl hreq

theorem KeptByWork.idle (h : P s) : P s.idle := by
  unfold State.idle
  split
  · exact hP.on h ⟨rfl, rfl, rfl, rfl, rfl⟩
  · split
    · exact hP.nextStroke h
    · exact hP.tick h

/-- A step keeps what the operations of the lines keep. -/
theorem KeptByWork.step (h : P s) (hr : step s = .next t) : P t := by
  unfold Machine.step at hr
  split at hr
  · cases hr
    exact hP.idle h
  · next i rest _ =>
    have taken : P { s with pending := rest } := hP.on h ⟨rfl, rfl, rfl, rfl, rfl⟩
    exact hP.exec taken hr

end Steps
end Sys2Proof.Machine


/-! SUPPORT. Every operation keeps the lines sound. -/

namespace Sys2Proof.Machine

/-! ### The lines stay sound -/

section Lines

variable {l : LineId} {s t u : State}

/-- A line's sequencer and drive one millisecond on. -/
theorem State.LinesInv.tick (h : u.LinesInv) : u.tick.LinesInv := by
  intro k
  obtain ⟨hq, hd⟩ := lineInv_iff.mp (h k)
  refine lineInv_iff.mpr ?_
  have hseq : u.tick.seq.get k = (u.seq.get k).tick := by simp [State.tick, State.tickTimers]
  have hdrive : u.tick.drive.get k = (u.drive.get k).tick := by simp [State.tick, State.tickTimers]
  rw [hseq, hdrive]
  refine ⟨hq.of_view rfl, DriveFits.of_view (q := u.seq.get k) ?_ rfl⟩
  exact ⟨hd.purpose, hd.stroke, hd.burst, hd.running, hd.zero, hd.still, hd.afterBurst⟩

/-- A line at its power-on values, or as a cabinet reset leaves it, under an empty hold map (R28, R29). -/
theorem lineInv_atRest (hs : (s.seq.get l).state = .off ∨ (s.seq.get l).state = .idle ∨ (s.seq.get l).state = .fault)
    (hq : (s.seq.get l).resume = none ∧ (s.seq.get l).currentMix = none ∧ (s.seq.get l).waitHold = false ∧
      (s.seq.get l).waitSupply = false ∧ (s.seq.get l).resumeAfterBurst = false)
    (hd : s.drive.get l = .powerOn) (hr : s.openRec.get l = none) (hw : s.demand = []) : s.LineInv l := by
  obtain ⟨h1, h2, h3, h4, h5⟩ := hq
  rw [lineInv_iff, hd, hr, hw]
  have hstate : (s.seq.get l).state.hasStage = false ∧ (s.seq.get l).state.isGrout = false ∧
      (s.seq.get l).state ≠ .held ∧ (s.seq.get l).state ≠ .testing ∧ (s.seq.get l).state ≠ .charging ∧
      (s.seq.get l).state ≠ .injecting ∧ purposeFits (s.seq.get l) .none = true := by
    rcases hs with hs | hs | hs <;> simp [hs, LineState.hasStage, LineState.isGrout, purposeFits]
  obtain ⟨hstage, hgrout, hheld, ht, hc, hi, hp⟩ := hstate
  refine ⟨⟨hstage.symm, ?_, ?_, fun _ => ⟨ht, hc, hi⟩, ?_, h4, fun hx => absurd hx hheld, ?_, ?_⟩, driveFits_rest hp h5⟩
  · rw [h1, beq_eq_false_iff_ne.mpr hheld]; rfl
  · rw [h2, hgrout]; rfl
  · rw [h3, beq_eq_false_iff_ne.mpr hheld]; rfl
  · simp [h4, h5]
  · simp [h5]

theorem reset_linesInv : State.reset.LinesInv := fun l =>
  lineInv_atRest (.inl (by cases l <;> rfl)) (by cases l <;> exact ⟨rfl, rfl, rfl, rfl, rfl⟩) (by cases l <;> rfl)
    (by cases l <;> rfl) rfl

/-! #### The cabinet reset (R28) -/

/-- An open record is that of a line with a stage (R3). -/
def State.RecordsStaged (s : State) : Prop := ∀ k, (s.openRec.get k).isSome = true → (s.lineState k).hasStage = true

theorem resetStage_openRec (h : u.RecordsStaged) (l : LineId) : (u.resetStage l).openRec.get l = none := by
  unfold State.resetStage
  split
  · exact (cleared_endStage u l .reset none true).record
  · rename_i hs
    by_contra hr
    exact hs (h l (Option.isSome_iff_ne_none.mpr hr))

theorem resetStage_recordsStaged (h : u.RecordsStaged) (l : LineId) : (u.resetStage l).RecordsStaged := by
  intro k hk
  by_cases hkl : k = l
  · subst hkl
    rw [resetStage_openRec h k] at hk
    cases hk
  · obtain ⟨hq, -, -, hr, -⟩ := resetStage_same (u := u) hkl
    rw [hr] at hk
    rw [State.lineState, hq]
    exact h k hk

theorem resetStages_openRec (h : u.RecordsStaged) (ls : List LineId) {k : LineId} (hk : k ∈ ls ∨ u.openRec.get k = none) :
    (ls.foldl State.resetStage u).openRec.get k = none := by
  induction ls generalizing u with
  | nil => exact hk.resolve_left List.not_mem_nil
  | cons l ls ih =>
    refine ih (resetStage_recordsStaged h l) ?_
    by_cases hkl : k = l
    · exact .inr (hkl ▸ resetStage_openRec h l)
    · refine hk.imp (fun hm => (List.mem_cons.mp hm).resolve_left hkl) fun hn => ?_
      obtain ⟨-, -, -, hr, -⟩ := resetStage_same (u := u) hkl
      rw [hr, hn]

theorem State.LinesInv.recordsStaged (h : u.LinesInv) : u.RecordsStaged := fun k hk => (h k).record.symm.trans hk

theorem State.LinesInv.cabinetReset (h : u.LinesInv) : u.cabinetReset.LinesInv := by
  intro k
  have hr : u.resetStages.openRec.get k = none :=
    resetStages_openRec h.recordsStaged LineId.all (.inl (LineId.mem_all k))
  have hseq : u.cabinetReset.seq.get k = (u.resetStages.seq.get k).cabinetReset := by
    simp [State.cabinetReset, State.resetBlocks]
  refine lineInv_atRest ?_ (by rw [hseq]; exact ⟨rfl, rfl, rfl, rfl, rfl⟩) (by simp [State.cabinetReset, State.resetBlocks])
    hr rfl
  rw [hseq]
  unfold Sequencer.cabinetReset Sequencer.afterReset
  dsimp only
  split
  · exact .inl rfl
  iterate 3 exact .inr (.inl rfl)
  all_goals
    split
    · exact .inr (.inr rfl)
    · exact .inr (.inl rfl)

theorem linesInv_kept : KeptByWork State.LinesInv where
  same w h := h.of_same w.seq w.drive w.openRec w.demand w.holds
  deferrable req h := h.deferrable req
  stageEnd {s l} reason origin h := ((h.at l).stageEnd reason origin).linesOf ((LineOnly.refl l s).stageEnd reason origin)
  clearFaultAt h := h.clearFaultAt
  startBurst {s l} hs h := ((h.at l).startBurst hs).linesOf (LineOnly.refl l s).startBurst
  followEnabled enabled h := h.followEnabled enabled
  holdOperation m h := h.holdOperation m
  serve mix h := h.serve mix
  takeSample r h := h.takeSample r
  settle {s l} hs h := ((h.at l).settle hs).linesOf (LineOnly.refl l s).settle
  endTest {s l} ending hs h := by
    refine ((h.at l).but.endTest (Apart.refl l s) hs ?_ ending).linesOf ((LineOnly.refl l s).endTest ending)
    have hq := (h.at l).seqFits
    have hc : s.covered l = false := by
      by_contra hc
      exact (hq.uncovered (by simpa using hc)).1 hs
    rwa [hc] at hq
  senseStroke {s l} h := (h.at l).senseStroke.linesOf (LineOnly.refl l s).senseStroke
  strokeFailure {s l} h := (h.at l).strokeFailure.linesOf (LineOnly.refl l s).strokeFailure
  nextStroke {s l} h := (h.at l).nextStroke.linesOf (LineOnly.refl l s).nextStroke
  cabinetReset h := h.cabinetReset
  tick h := h.tick
  reset := reset_linesInv

end Lines
end Sys2Proof.Machine


/-! SUPPORT. No operation but a SEAT makes a line name a new stage. -/

namespace Sys2Proof.Machine

/-! ### The stages the lines name (R3, R8) -/

/-- No line names a stage that it did not name before. -/
def Narrows (s t : State) : Prop := ∀ k, t.claims k ⊆ s.claims k

section Narrows

variable {l : LineId} {s t u : State}

theorem Narrows.refl (s : State) : Narrows s s := fun _ => List.Subset.refl _

theorem Narrows.trans (h : Narrows s t) (k : Narrows t u) : Narrows s u := fun j => List.Subset.trans (k j) (h j)

theorem Narrows.distinct (h : Narrows s t) (hs : s.StagesDistinct) : t.StagesDistinct :=
  fun j k hjk c hc hk => hs j k hjk c (h j hc) (h k hk)

/-- The stages named are those of the open records and the slots. -/
theorem Narrows.of_same (h : Narrows s u) (hr : t.openRec = u.openRec) (hq : t.seq = u.seq) : Narrows s t := fun k => by
  unfold State.claims
  rw [hr, hq]
  exact h k

theorem Narrows.updSeq (h : Narrows s u) {f : Sequencer → Sequencer}
    (hf : ∀ q, slotClaim (f q).slot ⊆ slotClaim q.slot) : Narrows s (u.updSeq l f) := by
  refine h.trans fun k => ?_
  unfold State.claims
  simp only [State.updSeq_seq, State.updSeq_openRec, PerLine.get_upd]
  refine List.append_subset.mpr ⟨List.subset_append_left _ _, List.subset_append_of_subset_right _ ?_⟩
  split
  · exact hf _
  · exact List.Subset.refl _

/-- A sequencer changed beside its slot. -/
theorem Narrows.seq (h : Narrows s u) {f : Sequencer → Sequencer} (hf : ∀ q, (f q).slot = q.slot) :
    Narrows s (u.updSeq l f) := h.updSeq fun q => by rw [hf]; exact List.Subset.refl _

theorem Narrows.emptySlot (h : Narrows s u) {f : Sequencer → Sequencer} (hf : ∀ q, (f q).slot = none) :
    Narrows s (u.updSeq l f) := h.updSeq fun q => by rw [hf]; exact List.nil_subset _

/-- A record written beside its hole and stage. -/
theorem Narrows.record (h : Narrows s u) {f : Record → Record} (hf : ∀ r, ((f r).hole, (f r).stage) = (r.hole, r.stage)) :
    Narrows s (u.updRec l f) := by
  refine h.trans fun k => ?_
  unfold State.claims
  have hr : ((u.updRec l f).openRec.get k).map (fun r => (r.hole, r.stage)) =
      (u.openRec.get k).map fun r => (r.hole, r.stage) := by
    simp only [State.updRec_openRec, PerLine.get_upd]
    split
    · simp only [Option.map_map, Function.comp_def, hf]
    · rfl
  rw [hr, State.updRec_seq]
  exact List.Subset.refl _

theorem Narrows.updDrive (h : Narrows s u) (f : Drive → Drive) : Narrows s (u.updDrive l f) := h
theorem Narrows.updReg (h : Narrows s u) (f : Regulator → Regulator) : Narrows s (u.updReg l f) := h
theorem Narrows.latchAll (h : Narrows s u) (e : Event) : Narrows s (u.latchAll e) := h
theorem Narrows.payFrom (h : Narrows s u) (k : TankId) (e : Nat) : Narrows s (u.payFrom l k e) := h
theorem Narrows.setDemand (h : Narrows s u) (ds : List DemandEntry) : Narrows s (u.setDemand ds) := h

theorem Narrows.latchUnless (h : Narrows s u) (quiet : Bool) (e : Event) : Narrows s (u.latchUnless quiet e) := by
  unfold State.latchUnless
  split <;> exact h

/-! #### The end of a stage -/

theorem Narrows.makeRoom (h : Narrows s u) (n : Nat) (quiet : Bool) : Narrows s (u.makeRoom n quiet) := by
  unfold State.makeRoom
  split
  · exact h
  · split <;> exact h

/-- A record closed is no longer open. -/
theorem Narrows.dropRecord (h : Narrows s u) (hr : t.openRec = u.openRec.set l none) (hq : t.seq = u.seq) :
    Narrows s t := by
  refine h.trans fun k => ?_
  unfold State.claims
  rw [hr, hq, PerLine.get_set]
  split
  · exact List.subset_append_right _ _
  · exact List.Subset.refl _

theorem Narrows.closeRecord (h : Narrows s u) (fin : FinalValues) (reason : EndReason) (origin : Option Port)
    (quiet : Bool) : Narrows s (u.closeRecord l fin reason origin quiet) := by
  unfold State.closeRecord
  split
  · exact h
  · refine Narrows.latchUnless (Narrows.dropRecord (l := l) (h.makeRoom u.nextEntry quiet) ?_ ?_) _ _ <;> rfl

theorem Narrows.abandonStroke (h : Narrows s u) : Narrows s (u.abandonStroke l) := by
  unfold State.abandonStroke
  split
  · exact h
  · split
    · exact h.record fun _ => rfl
    · exact h

theorem Narrows.stopDrive (h : Narrows s u) : Narrows s (u.stopDrive l) := h.abandonStroke

theorem Narrows.leaveDemand (h : Narrows s u) (quiet : Bool) : Narrows s (u.leaveDemand l quiet) := by
  have hleft : ∀ ds, Narrows s ((u.setCurrentTank l none).setDemand ds) := fun _ => h
  unfold State.leaveDemand
  dsimp only
  split
  · exact (hleft _).latchUnless _ _
  · exact h

theorem Narrows.addHeld (h : Narrows s u) : Narrows s (u.addHeld l) := by
  unfold State.addHeld
  split
  · exact h
  · exact (h.record fun _ => by rfl).seq fun _ => rfl

theorem Narrows.dropSlot (h : Narrows s u) (quiet : Bool) : Narrows s (u.dropSlot l quiet) := by
  unfold State.dropSlot
  split
  · exact h
  · exact (h.emptySlot fun _ => by rfl).latchUnless _ _

theorem Narrows.endTimers (h : Narrows s u) : Narrows s (u.endTimers l) := by
  unfold State.endTimers
  dsimp only
  split
  · exact h.addHeld.seq fun _ => rfl
  · exact h.seq fun _ => rfl

theorem Narrows.endStage (h : Narrows s u) (reason : EndReason) (origin : Option Port) (quiet : Bool) :
    Narrows s (u.endStage l reason origin quiet) :=
  (((((h.stopDrive).leaveDemand quiet).endTimers).seq fun _ => by rfl).dropSlot quiet).closeRecord _ _ _ _

theorem Narrows.enterFault (h : Narrows s u) (cause : FaultCause) : Narrows s (u.enterFault l cause) :=
  h.seq fun _ => rfl

theorem Narrows.lineFault (h : Narrows s u) (cause : FaultCause) : Narrows s (u.lineFault l cause) := by
  unfold State.lineFault
  split
  iterate 6 exact (h.endStage _ _ _).enterFault _
  · exact ((h.stopDrive.seq fun _ => by rfl).dropSlot _).enterFault _
  · exact (h.stopDrive.seq fun _ => by rfl).enterFault _
  · exact h.seq fun _ => rfl
  · exact h

theorem Narrows.strokeFailure (h : Narrows s u) : Narrows s (u.strokeFailure l) := by
  unfold State.strokeFailure
  exact (h.abandonStroke.updDrive (l := l) _).lineFault _

/-! #### Strokes and rate steps -/

theorem Narrows.supplyWait (h : Narrows s u) (mix : Nat) : Narrows s (u.supplyWait l mix) := by
  cases hr : (u.lineState l).asResume with
  | none =>
    unfold State.supplyWait
    rw [hr]
    exact h
  | some r =>
    have hw : Narrows s (((u.setDemand (joinDemand u.demand mix l u.stamp)).latchAll .supplyWait).updDrive l fun d =>
        { d with rate := 0, pendingRate := 0, staticTimer := u.staticStart l }) := h
    rw [supplyWait_eq hr]
    exact ((hw.seq fun _ => by rfl).updReg _).record fun _ => rfl

theorem Narrows.runStroke (h : Narrows s u) (kind : StrokePurpose) (source : Source) :
    Narrows s (u.runStroke l kind source) := (h.updDrive (l := l) _).seq fun _ => rfl

theorem Narrows.startStroke (h : Narrows s u) (given : Option TankId) : Narrows s (u.startStroke l given) := by
  have hgrout : ∀ kind, Narrows s (u.startGrout l kind given) := by
    intro kind
    unfold State.startGrout
    split
    · exact (h.runStroke _ _).seq fun _ => rfl
    · split
      · exact h
      · split
        · exact (Narrows.runStroke (h.payFrom (l := l) _ _) _ _).seq fun _ => rfl
        · exact h.supplyWait _
  unfold State.startStroke
  split
  · exact h
  · exact h.runStroke _ _
  · exact h.runStroke _ _
  · exact hgrout _
  · exact hgrout _

theorem Narrows.restartStroke (h : Narrows s u) : Narrows s (u.restartStroke l) := by
  unfold State.restartStroke
  dsimp only
  split
  · exact (h.updDrive (l := l) _).strokeFailure
  · exact h

theorem Narrows.writeRate (h : Narrows s u) (x : Nat) (given : Option TankId) : Narrows s (u.writeRate l x given) := by
  unfold State.writeRate
  dsimp only
  split
  · exact h
  · split
    · exact h
    · split
      · exact h
      · split
        · exact (h.updDrive (l := l) _).restartStroke
        · exact (h.updDrive (l := l) _).startStroke _

theorem Narrows.setPurpose (h : Narrows s u) (purpose : Purpose) (x : Nat) : Narrows s (u.setPurpose l purpose x) :=
  (h.updDrive (l := l) _).writeRate _ _

theorem Narrows.nextStroke (h : Narrows s u) : Narrows s (u.nextStroke l) := by
  unfold State.nextStroke
  dsimp only
  split
  · exact h.startStroke _
  · exact h

/-! #### The sequencer -/

theorem Narrows.enterFlushing (h : Narrows s u) : Narrows s (u.enterFlushing l) :=
  (h.seq fun _ => by rfl).setPurpose _ _

theorem Narrows.enterIdle (h : Narrows s u) : Narrows s (u.enterIdle l) := h.seq fun _ => rfl

theorem Narrows.stageEnd (h : Narrows s u) (reason : EndReason) (origin : Option Port) :
    Narrows s (u.stageEnd l reason origin) := by
  unfold State.stageEnd
  split
  iterate 4 exact (h.endStage _ _ _).enterFlushing
  iterate 2 exact (h.endStage _ _ _).enterIdle
  iterate 4 exact h

theorem Narrows.leaveHeld (h : Narrows s u) (given : Option TankId) : Narrows s (u.leaveHeld l given) := by
  unfold State.leaveHeld
  split
  · exact h
  · exact (((h.addHeld.seq fun _ => by rfl).updDrive (l := l) _).updReg (l := l) _).writeRate _ _

theorem Narrows.causeRemoved (h : Narrows s u) (given : Option TankId) : Narrows s (u.causeRemoved l given) := by
  unfold State.causeRemoved
  split
  · exact h
  · split
    · exact h.seq fun _ => rfl
    · exact h.leaveHeld _

theorem Narrows.takeTest (h : Narrows s u) (target duration : Nat) : Narrows s (u.takeTest l target duration) :=
  (Narrows.seq (h.updReg (l := l) _) fun _ => by rfl).setPurpose _ _

theorem Narrows.takeCharge (h : Narrows s u) : Narrows s (u.takeCharge l) := by
  have hmix : ∀ {v : State} (code : Nat), Narrows s v → Narrows s (v.appendMixStep l code) := fun _ hv =>
    hv.record fun _ => rfl
  unfold State.takeCharge
  dsimp only
  refine Narrows.setPurpose (Narrows.updReg (Narrows.seq (hmix _ (Narrows.record ?_ fun _ => by rfl)) fun _ => by rfl) _) _ _
  split <;> exact h

theorem Narrows.takeInject (h : Narrows s u) : Narrows s (u.takeInject l) :=
  (((h.seq fun _ => by rfl).updDrive (l := l) _).updReg (l := l) _).setPurpose _ _

/-- The stages named once a line has taken a SEAT: its own, and what its slot names. -/
theorem takeSeat_claims (u : State) (l k : LineId) (w : SeatParams) :
    (u.takeSeat l w).claims k =
      if k = l then (w.hole, w.stage) :: slotClaim (u.seq.get l).slot else u.claims k := by
  have hseq : ((u.takeSeat l w).seq.get k).slot = (u.seq.get k).slot := by
    unfold State.takeSeat
    dsimp only
    split <;> simp only [State.updReg_seq, State.updSeq_seq, PerLine.get_upd] <;> split <;> rfl
  have hrec : ((u.takeSeat l w).openRec.get k).map (fun r => (r.hole, r.stage)) =
      if k = l then some (w.hole, w.stage) else (u.openRec.get k).map fun r => (r.hole, r.stage) := by
    unfold State.takeSeat
    dsimp only
    split <;> simp only [State.updReg_openRec, State.updSeq_openRec, State.openRecord, PerLine.get_set] <;> split <;> rfl
  unfold State.claims
  rw [hseq, hrec]
  split
  · rename_i hk
    subst hk
    rfl
  · rfl

/-- A SEAT run from the slot: its stage is named by the record in place of the slot (R18). -/
theorem Narrows.runSlot (h : Narrows s u) (point : RunPoint) : Narrows s (u.runSlot l point) := by
  unfold State.runSlot
  split
  · exact h
  · rename_i req hslot
    have hempty : Narrows s (u.updSeq l fun q => { q with slot := none }) := h.emptySlot fun _ => rfl
    split
    · dsimp only
      split
      · exact hempty
      · cases req with
        | test target duration => exact hempty.takeTest _ _
        | charge => exact hempty.takeCharge
        | inject => exact hempty.takeInject
        | seat w =>
          refine h.trans fun k => ?_
          rw [State.takeDeferred, takeSeat_claims]
          split
          · rename_i hk
            subst hk
            simp [State.claims, hslot, slotClaim]
          · rename_i hk
            simp [State.claims, PerLine.get_upd_of_ne _ hk]
    · exact h

theorem Narrows.endTest (h : Narrows s u) (ending : TestEnd) : Narrows s (u.endTest l ending) := by
  unfold State.endTest
  dsimp only
  have hmid : ∀ g, Narrows s (((u.stopDrive l).updSeq l fun q =>
      { q with state := .seated, settled := true, testTimer := none, testDuration := none }).updReg l g) :=
    fun g => (h.stopDrive.seq fun _ => by rfl).updReg _
  split
  · exact (hmid _).runSlot _
  · exact ((hmid _).record fun _ => by rfl).runSlot _

/-! #### Holds -/

theorem Narrows.holdLine (h : Narrows s u) (r : Resume) : Narrows s (u.holdLine l r) := by
  have hheld : Narrows s (u.enterHeld l r) := by
    unfold State.enterHeld
    exact ((h.seq fun _ => by rfl).updDrive _).updReg _
  exact ((hheld.seq fun _ => by rfl).record fun _ => by rfl).writeRate _ _

theorem Narrows.tellLine (h : Narrows s u) : Narrows s (u.tellLine l) := by
  unfold State.tellLine State.becomeCovered State.becomeUncovered
  split
  · split
    · exact h.holdLine _
    · exact h.holdLine _
    · split
      · exact h
      · exact (h.seq fun _ => by rfl).record fun _ => rfl
    · exact h.endTest _
    all_goals exact h
  · split
    · split
      · exact (h.seq fun _ => by rfl).causeRemoved _
      · exact h
    all_goals exact h

theorem Narrows.holdOperation (h : Narrows s u) (m : HoldMap) : Narrows s (u.holdOperation m) := by
  have htell : ∀ {v : State} (ls : List LineId), Narrows s v → Narrows s (v.tellLines ls) := by
    intro v ls
    induction ls generalizing v with
    | nil => exact id
    | cons l ls ih => exact fun hv => ih hv.tellLine
  have hm : Narrows s { u with holds := m, tellCount := u.tellCount + 1 } := h
  unfold State.holdOperation
  split
  · exact h
  · exact (htell _ hm).latchAll _

/-! #### Bursts, completions and samples -/

theorem Narrows.startBurst (h : Narrows s u) : Narrows s (u.startBurst l) :=
  Narrows.updReg (Narrows.seq (Narrows.updDrive (Narrows.updDrive h.abandonStroke _) _) fun _ => by rfl) _

theorem Narrows.circulateDone (h : Narrows s u) : Narrows s (u.circulateDone l) := by
  unfold State.circulateDone
  split
  · exact h
  · split
    · unfold State.endBurst
      dsimp only
      have hmid : ∀ f g, Narrows s (((u.updDrive l f).updSeq l fun q =>
          { q with returnOpen := q.returnAtRest }).updReg l g) := fun f g =>
        ((h.updDrive f).seq fun _ => by rfl).updReg g
      split
      · exact (hmid _ _).leaveHeld _
      · exact hmid _ _
    · exact h

theorem Narrows.chargeDone (h : Narrows s u) : Narrows s (u.chargeDone l) := by
  have hc : Narrows s (u.updSeq l fun q => { q with chargeCount := q.chargeCount + 1 }) := h.seq fun _ => rfl
  unfold State.chargeDone
  dsimp only
  split
  · unfold State.chargeComplete
    dsimp only
    split
    · exact ((hc.writeRate _ _).runSlot _).seq fun _ => rfl
    · exact (hc.writeRate _ _).runSlot _
  · exact hc

theorem Narrows.flushDone (h : Narrows s u) : Narrows s (u.flushDone l) := by
  have hc : Narrows s (u.updSeq l fun q => { q with flushCount := q.flushCount + 1 }) := h.seq fun _ => rfl
  unfold State.flushDone
  dsimp only
  split
  · exact ((hc.writeRate _ _).seq fun _ => by rfl).runSlot _
  · exact hc

theorem Narrows.evaluateInject (h : Narrows s u) : Narrows s (u.evaluateInject l) := by
  unfold State.evaluateInject
  split
  · exact h
  · split
    · exact h.stageEnd _ _
    · unfold State.tryThicken
      split
      · exact h
      · split
        · split
          · exact (h.seq (l := l) fun _ => by rfl).record (l := l) fun _ => rfl
          · exact h
        · exact h

theorem Narrows.senseStroke (h : Narrows s u) : Narrows s (u.senseStroke l) := by
  have hcredit : ∀ k, Narrows s ((u.creditStroke l k).updDrive l fun d => { d with stroke := none, watch := none }) := by
    intro k
    unfold State.creditStroke
    split
    · exact h
    · exact h.record fun _ => rfl
    · exact h.record fun _ => rfl
    · exact h
    · exact h
  have hact : ∀ {v : State} (p : StrokePurpose), Narrows s v → Narrows s (v.completionAction l p) := by
    intro v p hv
    cases p with
    | test => exact hv
    | charge => exact hv.chargeDone
    | inject => exact hv.evaluateInject
    | circulate => exact hv.circulateDone
    | flush => exact hv.flushDone
  unfold State.senseStroke
  split
  · split
    · unfold State.completeStroke
      dsimp only
      split
      · exact hact _ (hcredit _)
      · exact (hact _ (hcredit _)).nextStroke
    · exact h
  · exact h

theorem Narrows.settle (h : Narrows s u) : Narrows s (u.settle l) := by
  unfold State.settle State.captureFormation
  exact (((((h.seq fun _ => by rfl).updReg (l := l) _).record (l := l) fun _ => by rfl).updReg (l := l) _).runSlot _)

theorem Narrows.excursion (h : Narrows s u) : Narrows s (u.excursion l) :=
  ((h.writeRate 0 none).updReg (l := l) _).record (l := l) fun _ => rfl

theorem Narrows.refusalStep (h : Narrows s u) (p : Pressures) : Narrows s (u.refusalStep l p) := by
  unfold State.refusalStep
  split
  · split <;> exact h
  · exact h

theorem Narrows.adjustRate (h : Narrows s u) (p : Pressures) : Narrows s (u.adjustRate l p) := by
  unfold State.adjustRate
  dsimp only
  split
  · exact h.writeRate _ _
  · split
    · exact h.writeRate _ _
    · exact h

theorem Narrows.clearStop (h : Narrows s u) (x : Nat) : Narrows s (u.clearStop l x) :=
  (h.updReg (l := l) _).writeRate _ _

theorem Narrows.decideSample (h : Narrows s u) (p : Pressures) (gauge : Gauge) :
    Narrows s (u.decideSample l p gauge) := by
  unfold State.decideSample State.decideInjecting State.decideTesting State.decideCharging
  split
  · split
    · split
      · exact (h.clearStop _).refusalStep _
      · exact h.refusalStep _
    · split
      · exact h.excursion
      · exact (h.adjustRate _).refusalStep _
  · split
    · exact h.excursion.endTest _
    · exact h.adjustRate _
  · split
    · split
      · exact h.clearStop _
      · exact h
    · split
      · exact h.excursion
      · exact h
  all_goals exact h

theorem Narrows.handToWatch (h : Narrows s u) (pe : Option Nat) : Narrows s (u.handToWatch l pe) := by
  unfold State.handToWatch State.watchSample
  split
  · exact h
  · split
    · split
      · exact h
      · split
        · have hcap : ∀ x, Narrows s { u with capture := x } := fun _ => h
          unfold State.detectConnection
          refine Narrows.updReg (Narrows.latchAll (Narrows.latchAll (Narrows.record ?_ ?_) _) _) _
          · exact Narrows.holdOperation (hcap _) _
          · intro r
            dsimp only
            split <;> rfl
        · exact h
    · exact h

theorem Narrows.takeSample (h : Narrows s u) (r : Reading) : Narrows s (u.takeSample l r) := by
  cases r with
  | invalid =>
    unfold State.takeSample State.invalidSample
    dsimp only
    split
    · exact ((h.updReg (l := l) _).updReg (l := l) _).lineFault _
    · exact h
  | value kPa =>
    unfold State.takeSample State.validSample
    dsimp only
    split
    · exact Narrows.handToWatch ((h.updReg (l := l) _).updReg (l := l) _) _
    · exact ((Narrows.handToWatch (Narrows.record ((h.updReg (l := l) _).updReg (l := l) _) fun _ => by rfl) _).updReg
        (l := l) _).decideSample _ _

end Narrows
end Sys2Proof.Machine


/-! PROOF of O54. The invariants through the walk of every command. -/

namespace Sys2Proof.Machine

section Distinct

variable {l : LineId} {s t u : State}

/-! #### The requests and the rest -/

theorem Narrows.clearFaultAt (u : State) (l : LineId) : Narrows u (clearFaultAt l u).1 := by
  unfold Machine.clearFaultAt
  split
  · exact .refl u
  · split
    · exact .refl u
    · have hc : Narrows u (u.updSeq l fun q => { q with faultCause := none }) := (Narrows.refl u).seq fun _ => rfl
      dsimp only
      split
      · exact hc.enterFlushing
      · exact hc.enterIdle

theorem Narrows.followEnabled (u : State) (l : LineId) (enabled : Bool) : Narrows u (u.followEnabled l enabled) := by
  unfold State.followEnabled State.enableLine State.disableLine
  split
  · exact ((Narrows.refl u).seq fun _ => by rfl).updReg _
  · exact ((Narrows.refl u).seq fun _ => by rfl).updReg _
  · exact .refl u

theorem Narrows.freeWaiting (h : Narrows s u) (given : Option TankId) : Narrows s (u.freeWaiting l given) := by
  unfold State.freeWaiting
  exact (Narrows.seq (h.setDemand _) fun _ => by rfl).causeRemoved _

theorem Narrows.serve (u : State) (mix : Nat) : Narrows u (u.serve mix).1 := by
  have hlines : ∀ (ls : List LineId) (acc : State × Nat), Narrows u acc.1 → Narrows u (ls.foldl (serveLine mix) acc).1 := by
    intro ls
    induction ls with
    | nil => exact fun _ h => h
    | cons l ls ih =>
      intro acc h
      refine ih _ ?_
      unfold serveLine
      dsimp only
      split
      · exact h
      · split
        · exact (h.payFrom (l := l) _ _).freeWaiting _
        · exact h.freeWaiting _
  have hr := hlines (u.waitingFor mix) (u, 0) (.refl u)
  unfold State.serve
  dsimp only
  split
  · exact hr
  · exact hr

theorem Narrows.cabinetReset (u : State) : Narrows u u.cabinetReset := by
  have hstages : ∀ (ls : List LineId) (v : State), Narrows u v → Narrows u (ls.foldl State.resetStage v) := by
    intro ls
    induction ls with
    | nil => exact fun _ h => h
    | cons l ls ih =>
      intro v h
      refine ih _ ?_
      unfold State.resetStage
      split
      · exact h.endStage _ _ _
      · exact h
  refine (hstages LineId.all u (.refl u)).trans fun k => ?_
  unfold State.claims
  refine List.append_subset.mpr ⟨List.subset_append_left _ _, ?_⟩
  have hslot : (u.cabinetReset.seq.get k).slot = none := by
    simp [State.cabinetReset, State.resetBlocks, Sequencer.cabinetReset, Sequencer.powerOn]
  rw [hslot]
  exact List.nil_subset _

theorem Narrows.tick (u : State) : Narrows u u.tick := fun k => by
  unfold State.claims
  have hslot : (u.tick.seq.get k).slot = (u.seq.get k).slot := by simp [State.tick, State.tickTimers, Sequencer.tick]
  rw [hslot]
  exact List.Subset.refl _

/-! #### A SEAT names a new stage (R8) -/

theorem seatConflict_iff {w : SeatParams} :
    u.seatConflict l (.seat w) = true ↔ ∃ k, k ≠ l ∧ (w.hole, w.stage) ∈ u.claims k := by
  have hnames : ∀ k, u.namesStage k w = true ↔ (w.hole, w.stage) ∈ u.claims k := by
    intro k
    unfold State.namesStage State.claims
    rw [Bool.or_eq_true, List.mem_append]
    refine or_congr ?_ ?_
    · cases u.openRec.get k with
      | none => simp
      | some r => simp [@eq_comm _ w.hole, @eq_comm _ w.stage]
    · cases (u.seq.get k).slot with
      | none => simp [slotClaim]
      | some req => cases req <;> simp [slotClaim, @eq_comm _ w.hole, @eq_comm _ w.stage]
  simp only [State.seatConflict, List.any_eq_true, Bool.and_eq_true, bne_iff_ne, hnames]
  exact ⟨fun ⟨k, _, hk⟩ => ⟨k, hk⟩, fun ⟨k, hk⟩ => ⟨k, LineId.mem_all k, hk⟩⟩

theorem lineStatus_free {req : PendingReq} (h : u.lineStatus l req = .ok ∨ u.lineStatus l req = .deferred) :
    u.seatConflict l req = false := by
  unfold State.lineStatus at h
  dsimp only at h
  split_ifs at h <;> simp_all

/-- A line that names one more stage, one that no other line names. -/
theorem State.StagesDistinct.grown (h : u.StagesDistinct) {c : Nat × Nat} (hc : ∀ k, k ≠ l → c ∉ u.claims k)
    (ht : ∀ k, k ≠ l → t.claims k ⊆ u.claims k) (hl : t.claims l ⊆ c :: u.claims l) : t.StagesDistinct := by
  intro j k hjk d hj hk
  by_cases hjl : j = l
  · subst hjl
    have hk' := ht k (Ne.symm hjk) hk
    rcases List.mem_cons.mp (hl hj) with rfl | hj'
    · exact hc k (Ne.symm hjk) hk'
    · exact h j k hjk d hj' hk'
  · have hj' := ht j hjl hj
    by_cases hkl : k = l
    · subst hkl
      rcases List.mem_cons.mp (hl hk) with rfl | hk'
      · exact hc j hjl hj'
      · exact h j k hjk d hj' hk'
    · exact h j k hjk d hj' (ht k hkl hk)

theorem deferTo_claims (u : State) (l k : LineId) (req : PendingReq) :
    (u.deferTo l req).claims k =
      if k = l then ((u.openRec.get k).map fun r => (r.hole, r.stage)).toList ++ slotClaim (some req)
      else u.claims k := by
  unfold State.claims State.deferTo
  simp only [State.updSeq_seq, State.updSeq_openRec, PerLine.get_upd]
  split <;> rfl

theorem State.StagesDistinct.deferrable (h : u.StagesDistinct) (req : PendingReq) :
    (deferrable req l u).1.StagesDistinct := by
  have hnew : ∀ w, req = .seat w → (u.lineStatus l req = .ok ∨ u.lineStatus l req = .deferred) →
      ∀ k, k ≠ l → (w.hole, w.stage) ∉ u.claims k := by
    rintro w rfl hst k hk hm
    have := lineStatus_free hst
    rw [seatConflict_iff.mpr ⟨k, hk, hm⟩] at this
    cases this
  unfold Machine.deferrable
  split
  · rename_i hok
    cases req with
    | seat w =>
      refine h.grown (hnew w rfl (.inl hok)) (fun k hk => ?_) ?_
      · rw [State.takeDeferred, takeSeat_claims, if_neg hk]
        exact List.Subset.refl _
      · rw [State.takeDeferred, takeSeat_claims, if_pos rfl]
        exact List.cons_subset_cons _ (List.subset_append_right _ _)
    | test target duration => exact ((Narrows.refl u).takeTest _ _).distinct h
    | charge => exact (Narrows.refl u).takeCharge.distinct h
    | inject => exact (Narrows.refl u).takeInject.distinct h
  · rename_i hdef
    cases req with
    | seat w =>
      refine h.grown (hnew w rfl (.inr hdef)) (fun k hk => ?_) ?_
      · rw [deferTo_claims, if_neg hk]
        exact List.Subset.refl _
      · rw [deferTo_claims, if_pos rfl]
        refine List.append_subset.mpr ⟨fun c hc => List.mem_cons_of_mem _ (List.mem_append_left _ hc), fun c hc => ?_⟩
        rw [List.mem_singleton.mp hc]
        exact List.mem_cons_self
    | test | charge | inject =>
      refine Narrows.distinct ?_ h
      exact (Narrows.refl u).updSeq fun q => by simp [slotClaim]
  · exact h

theorem reset_claims (k : LineId) : State.reset.claims k = [] := by cases k <;> rfl

theorem stagesDistinct_kept : KeptByWork State.StagesDistinct where
  same w h := ((Narrows.refl _).of_same w.openRec w.seq).distinct h
  deferrable req h := h.deferrable req
  stageEnd reason origin h := ((Narrows.refl _).stageEnd reason origin).distinct h
  clearFaultAt h := (Narrows.clearFaultAt _ _).distinct h
  startBurst _ h := (Narrows.refl _).startBurst.distinct h
  followEnabled enabled h := (Narrows.followEnabled _ _ enabled).distinct h
  holdOperation m h := ((Narrows.refl _).holdOperation m).distinct h
  serve mix h := (Narrows.serve _ mix).distinct h
  takeSample r h := ((Narrows.refl _).takeSample r).distinct h
  settle _ h := (Narrows.refl _).settle.distinct h
  endTest ending _ h := ((Narrows.refl _).endTest ending).distinct h
  senseStroke h := (Narrows.refl _).senseStroke.distinct h
  strokeFailure h := (Narrows.refl _).strokeFailure.distinct h
  nextStroke h := (Narrows.refl _).nextStroke.distinct h
  cabinetReset h := (Narrows.cabinetReset _).distinct h
  tick h := (Narrows.tick _).distinct h
  reset j k _ c hc := by rw [reset_claims] at hc; cases hc

end Distinct

/-- Settles O54: every operation of the lines keeps each line sound, and names no stage but that of a SEAT free of
conflict, which the walk through the commands carries to every step. -/
theorem linesInvariantIsKept : Obligations.LinesInvariantIsKept := fun _ _ h =>
  ⟨fun hs => linesInv_kept.step hs h, fun hs => stagesDistinct_kept.step hs h⟩

end Sys2Proof.Machine


/-! PROOF of O2, O3 and O57. The reset state field by field, and the idle step. -/

namespace Sys2Proof.Machine

/-- Settles O3: the reset state field by field. -/
theorem powerOnGivesInitialValues : Obligations.PowerOnGivesInitialValues := by
  intro s
  refine ⟨_, rfl, fun l => ?_, fun k => ?_, fun p => ?_, rfl, fun k => ?_, rfl, rfl, rfl, fun c h1 h8 => ?_, rfl, rfl, rfl,
    rfl, rfl, rfl⟩
  · cases l <;> exact ⟨rfl, rfl, rfl, rfl, rfl, rfl, rfl, rfl⟩
  · cases k <;> exact ⟨rfl, rfl⟩
  · cases p <;> rfl
  · cases k <;> rfl
  · interval_cases c <;> rfl

/-- The tanks of the part at power-on are fitted and empty (R97, R177). -/
theorem reset_tankInv (k : TankId) : State.reset.TankInv k := by
  cases k <;> exact ⟨by decide, by decide, rfl, rfl, rfl⟩

theorem reset_stagesDistinct : State.reset.StagesDistinct := stagesDistinct_kept.reset

/-- Settles O57: no line has a stage, no tank holds grout, and the log and the hold map are empty. -/
theorem invariantsHoldAtReset : Obligations.InvariantsHoldAtReset :=
  ⟨reset_linesInv, reset_stagesDistinct, reset_logInv, reset_tankInv, fun k e h => by cases k <;> cases h⟩

/-! ### The idle step -/

section Idle

variable {s : State}

theorem owesStroke_iff {l : LineId} : s.owesStroke l = true ↔ s.Owes l := by
  simp only [State.owesStroke, State.Owes, Bool.and_eq_true, beq_iff_eq, bne_iff_ne, Option.isNone_iff_eq_none,
    Option.isSome_iff_ne_none, and_assoc]

theorem idle_of_due {i : Instr} {rest : List Instr} (h : s.due = i :: rest) : s.idle = { s with pending := [i] } := by
  rw [State.idle, h]

theorem idle_of_quiet (hd : ∀ i, ¬s.IsDue i) (ho : ∀ l, ¬s.Owes l) : s.idle = s.tick := by
  have hdue : s.due = [] := List.eq_nil_iff_forall_not_mem.mpr fun i hi => hd i (s.mem_due.mp hi)
  have hnone : LineId.all.find? s.owesStroke = none :=
    List.find?_eq_none.mpr fun l _ hl => ho l (owesStroke_iff.mp hl)
  rw [State.idle, hdue]
  simp only [hnone]

theorem Drive.tick_eq (d : Drive) (x : Timer) (hx : d.staticTimer.tick = x) :
    d.tick = { d with
      watch := if (d.stroke.map (·.running)) = some true then d.watch.map (· + 1) else d.watch, staticTimer := x } := by
  have hw : (d.watch.map fun w => if d.isRunning then w + 1 else w) =
      if (d.stroke.map (·.running)) = some true then d.watch.map (· + 1) else d.watch := by
    unfold Drive.isRunning
    cases d.stroke with
    | none => simp
    | some k => cases hk : k.running <;> simp [hk]
  rw [Drive.tick, hw, hx]

/-- Settles O2: the list of the expiries due is what is due, and its front is queued. -/
theorem idleStepPassesTime : Obligations.IdleStepPassesTime := by
  intro s hp
  have hstep : step s = .next s.idle := by rw [step, hp]
  refine ⟨fun hd ho => ⟨s.tick, ?_, fun i => ?_, ?_⟩, fun ⟨i, hi⟩ => ?_, fun i => s.mem_due, fun i rest hdue => ?_⟩
  · rw [hstep, idle_of_quiet hd ho]
  · exact s.tick.mem_coming
  · unfold State.tick State.tickTimers
    dsimp only
    congr 2
    funext _ d
    refine d.tick_eq _ ?_
    cases d.staticTimer <;> rfl
  · cases hdue : s.due with
    | nil => exact absurd (s.mem_due.mpr hi) (by simp [hdue])
    | cons j rest =>
      exact ⟨j, s.mem_due.mp (by simp [hdue]), by rw [hstep, idle_of_due hdue]⟩
  · rw [hstep, idle_of_due hdue]

end Idle
end Sys2Proof.Machine


/-! SUPPORT. A request at a line answered in the state its operation leaves, and strokes that start from water. -/

namespace Sys2Proof.Machine

/-! ### A request at a line, answered in the state its operation leaves -/

section LineRequest

variable {s t u v : State} {l : LineId} {p : Port} {code : Nat}

/-- A request at a line is its owner's operation between the silence timer restarted and the answer begun. -/
theorem line_request (h : s.free p) {allowed : List Port} (hp : p ∈ allowed) {f : LineId → State → State × Answer}
    {st : Status} (hf : f l (s.restartSilence p) = (v, plain st)) :
    (.next (s.request p code allowed (onLine l.num f)) : Result) = .next (v.respond p ⟨code, st, []⟩) := by
  rw [request_taken h code hp, onLine_num, hf]
  rfl

/-- One whose owner changes nothing. -/
theorem line_request_unchanged (h : s.free p) {allowed : List Port} (hp : p ∈ allowed)
    {f : LineId → State → State × Answer} {st : Status}
    (hf : f l (s.restartSilence p) = (s.restartSilence p, plain st)) :
    (.next (s.request p code allowed (onLine l.num f)) : Result) = .next (s.answered p code st []) := by
  rw [line_request h hp hf, respond_restartSilence]

theorem no_line_request (h : s.free p) {allowed : List Port} (hp : p ∈ allowed) {f : LineId → State → State × Answer}
    {n : Nat} (hn : n = 0 ∨ 6 < n) :
    (.next (s.request p code allowed (onLine n f)) : Result) = .next (s.answered p code .range []) := by
  rw [request_noLine h code hp f hn]

/-- What an operation at a line leaves alone it leaves alone in a request. -/
theorem LineOnly.request (h : LineOnly l (s.restartSilence p) v) (r : Response) : OnlyLine l s (v.respond p r) :=
  ⟨h.steady.settings, h.steady.clock, h.lines, h.holds, h.capture⟩

theorem LineOnly.onlyLine (h : LineOnly l s t) : OnlyLine l s t :=
  ⟨h.steady.settings, h.steady.clock, h.lines, h.holds, h.capture⟩

/-- The events an operation latches are latched in the answered state (R156, R157). -/
theorem Latched.request {events : EventSet} (h : Latched (s.restartSilence p) v events) (st : Status) (bytes : List Byte) :
    AnsweredWith s (v.respond p ⟨code, st, bytes⟩) p code st bytes events := by
  intro q
  have hq := h q
  have hl : ((s.restartSilence p).port.get q).latches = (s.port.get q).latches := by
    simp only [State.restartSilence, State.updPort_port, PerPort.get_upd]
    split <;> rfl
  rw [← respond_restartSilence]
  simp only [State.respond, State.updPort_port, PerPort.get_upd, hq, hl]
  split <;> rfl

theorem answeredWith_quiet (h : v.port = (s.restartSilence p).port) {st : Status} {bytes : List Byte} :
    AnsweredWith s (v.respond p ⟨code, st, bytes⟩) p code st bytes 0 :=
  (latched_nothing h).request st bytes

theorem answeredWith_latch {e : Event} (h : v.port = ((s.restartSilence p).latchAll e).port) {st : Status}
    {bytes : List Byte} : AnsweredWith s (v.respond p ⟨code, st, bytes⟩) p code st bytes e.bit :=
  (latched_event h).request st bytes

theorem latched_trans {a b : EventSet} (h : Latched s t a) (k : Latched t u b) : Latched s u (a ||| b) := by
  intro p
  rw [k p, h p]
  simp [BitVec.or_assoc]

theorem latched_port {events : EventSet} (h : Latched s t events) (k : u.port = t.port) : Latched s u events := by
  intro p
  rw [k, h p]

end LineRequest

/-! ### Strokes that start from water (R30, R33) -/

section Water

variable {u : State} {l : LineId} {x : Nat}

/-- The purposes whose strokes start from water. -/
def Purpose.fromWater : Purpose → StrokePurpose → Prop
  | .test, .test | .flush, .flush => True
  | _, _ => False

/-- A purpose set on a drive at rest starts its first stroke (R32, R33). -/
theorem setPurpose_stopped (hn : (u.drive.get l).stroke = none) (hb : (u.drive.get l).burst = none) (hx : x ≠ 0)
    {purpose : Purpose} (hp : purpose ≠ .none) :
    u.setPurpose l purpose x =
      (u.updDrive l fun d => { d with purpose := purpose, pendingRate := x }).startStroke l none := by
  unfold State.setPurpose State.writeRate
  simp [hn, hb, hx, hp, Drive.isRunning, updDrive_updDrive]

/-- The first stroke of a test or a flush (R11, R25, R33). -/
theorem setPurpose_water (hn : (u.drive.get l).stroke = none) (hb : (u.drive.get l).burst = none) (hx : x ≠ 0)
    {purpose : Purpose} {kind : StrokePurpose} (hp : purpose.fromWater kind) :
    u.setPurpose l purpose x =
      (u.updSeq l fun q => { q with source := .water }).updDrive l fun d =>
        startedDrive u l purpose kind .water x d.staticTimer := by
  have hnone : purpose ≠ .none := by rintro rfl; cases kind <;> exact hp
  rw [setPurpose_stopped hn hb hx hnone]
  have hrun : ∀ kind, (u.updDrive l fun d => { d with purpose := purpose, pendingRate := x }).runStroke l kind .water =
      (u.updSeq l fun q => { q with source := .water }).updDrive l fun d =>
        startedDrive u l purpose kind .water x d.staticTimer := by
    intro kind
    simp only [State.runStroke, updDrive_updSeq, updDrive_updDrive]
    refine updDrive_congr ?_
    simp only [State.updSeq_drive, startedDrive, hb]
    rfl
  unfold State.startStroke
  cases purpose <;> cases kind <;> simp only [Purpose.fromWater] at hp <;> simp [hrun]

end Water
end Sys2Proof.Machine


/-! PROOF of O36, O37 and O38. CLEAR_FAULT, the start of a burst and packer settle, block by block. -/

namespace Sys2Proof.Machine

section Simple

variable {s t u v : State} {l : LineId}

theorem State.LineInv.restartSilence (h : s.LineInv l) (p : Port) : (s.restartSilence p).LineInv l :=
  h.of_same rfl rfl rfl rfl rfl

/-! ### CLEAR_FAULT (R25, R27) -/

/-- A line that enters FLUSHING with its drive at rest strokes at once (R25). -/
theorem enterFlushing_eq (hn : (u.drive.get l).stroke = none) (hb : (u.drive.get l).burst = none)
    (hx : u.timing.flushStep ≠ 0) :
    u.enterFlushing l =
      (u.updSeq l fun q =>
        { q with
          state := .flushing, packerInflated := false, returnOpen := true, source := .water
          nf := ceilDiv ((u.lineTable.get l).lineVolume * u.timing.flushFactor) (u.lineTable.get l).strokeVolume
          flushCount := 0 }).updDrive l fun d =>
        startedDrive u l .flush .flush .water u.timing.flushStep d.staticTimer := by
  unfold State.enterFlushing
  dsimp only
  rw [setPurpose_water (purpose := .flush) (kind := .flush) (by exact hn) (by exact hb) hx trivial, updSeq_updSeq]
  rfl

/-- A CLEAR_FAULT that the sensor does not stop (R27). -/
theorem clearFaultAt_ok (hs : u.lineState l = .fault)
    (hr : (u.seq.get l).faultCause = some .sensor → (u.reg.get l).lastReading = .valid) :
    clearFaultAt l u =
      (if (u.seq.get l).holdsGrout then (u.updSeq l fun q => { q with faultCause := none }).enterFlushing l
        else (u.updSeq l fun q => { q with faultCause := none }).enterIdle l, plain .ok) := by
  unfold clearFaultAt
  rw [if_neg (by simp [hs]), if_neg]
  rintro hc
  simp only [Bool.and_eq_true, decide_eq_true_eq, beq_iff_eq] at hc
  simp [hr hc.1] at hc

/-- A sequencer whose fault is cleared, its outputs released (R27). -/
def Sequencer.faultCleared (q : Sequencer) : Sequencer :=
  { q with faultCause := none, packerInflated := false, returnOpen := true, source := .water }

theorem clearFaultAt_idle (hs : u.lineState l = .fault)
    (hr : (u.seq.get l).faultCause = some .sensor → (u.reg.get l).lastReading = .valid)
    (hg : (u.seq.get l).holdsGrout = false) :
    clearFaultAt l u = (u.updSeq l fun q => { q.faultCleared with state := .idle }, plain .ok) := by
  rw [clearFaultAt_ok hs hr, hg, if_neg Bool.false_ne_true, State.enterIdle, updSeq_updSeq]
  rfl

theorem clearFaultAt_flushing (hs : u.lineState l = .fault)
    (hr : (u.seq.get l).faultCause = some .sensor → (u.reg.get l).lastReading = .valid)
    (hg : (u.seq.get l).holdsGrout = true) (hn : (u.drive.get l).stroke = none) (hb : (u.drive.get l).burst = none)
    (hx : u.timing.flushStep ≠ 0) :
    clearFaultAt l u =
      ((u.updSeq l fun q =>
        { q.faultCleared with
          state := .flushing
          nf := ceilDiv ((u.lineTable.get l).lineVolume * u.timing.flushFactor) (u.lineTable.get l).strokeVolume
          flushCount := 0 }).updDrive l fun d =>
        startedDrive u l .flush .flush .water u.timing.flushStep d.staticTimer, plain .ok) := by
  rw [clearFaultAt_ok hs hr, hg, if_pos rfl, 
    enterFlushing_eq (u := u.updSeq l fun q => { q with faultCause := none }) hn hb hx, updSeq_updSeq]
  rfl

/-- Settles O36: by the holds-grout flag the line enters FLUSHING, its drive starting from rest, or IDLE. -/
theorem clearFaultFlushesOrIdles : Obligations.ClearFaultFlushesOrIdles := by
  intro s l hfree hs hinv hstep hsensor
  obtain ⟨hn, hb, -, -⟩ := (lineInv_iff.mp hinv).2.rests (.inr (.inr hs))
  cases hg : (s.seq.get l).holdsGrout with
  | false =>
    refine ⟨_, line_request hfree (by decide) (clearFaultAt_idle (u := s.restartSilence .gallery) hs hsensor hg),
      ((LineOnly.refl l _).updSeq _).request _, ⟨rfl, rfl⟩, ⟨rfl, rfl, rfl⟩, answeredWith_quiet (by rfl), rfl, rfl, rfl,
      fun _ => ⟨?_, rfl⟩, by simp⟩
    simp [State.respond, State.restartSilence, Sequencer.faultCleared]
  | true =>
    refine ⟨_, line_request hfree (by decide) (clearFaultAt_flushing (u := s.restartSilence .gallery) hs hsensor hg hn hb
      (Nat.one_le_iff_ne_zero.mp hstep)), (((LineOnly.refl l _).updSeq _).updDrive _).request _, ⟨rfl, rfl⟩,
      ⟨rfl, rfl, rfl⟩, answeredWith_quiet (by rfl), rfl, rfl, rfl, by simp, fun _ => ⟨?_, ?_⟩⟩
    · simp [State.respond, State.restartSilence, Sequencer.faultCleared, ceilDiv, LineEntry.strokeVolume]
    · simp [State.respond, State.restartSilence, startedDrive, State.strokeVolume]

/-! ### Bursts (R15, R37, R40) -/

/-- The grout in flight on a line put to the unplaced volume of its record (R37). -/
abbrev State.putUnplaced (u : State) (l : LineId) (ml : Nat) : State :=
  u.updRec l fun r => { r with unplaced := r.unplaced + ml }

/-- A drive set anew after its stroke has been given up (R37). -/
theorem abandonStroke_updDrive (u : State) (l : LineId) {f : Drive → Drive}
    (hf : ∀ d, f { d with stroke := none, watch := none } = f d) :
    (u.abandonStroke l).updDrive l f = (u.updDrive l f).putUnplaced l (u.inFlight l) := by
  have hzero : (u.updDrive l f).putUnplaced l 0 = u.updDrive l f := updRec_id _ l
  unfold State.abandonStroke State.inFlight
  cases hk : (u.drive.get l).stroke with
  | none => exact hzero.symm
  | some k =>
    cases hg : k.purpose.isGrout with
    | true => simp [hg, updDrive_updDrive, hf, State.putUnplaced]
    | false => simpa [hg, updDrive_updDrive, hf] using hzero.symm

/-- What a burst start makes of each block (R15, R37, R40). -/
theorem startBurst_eq (u : State) (l : LineId) :
    u.startBurst l =
      (((u.updSeq l fun q => { q with returnOpen := true }).updDrive l fun d =>
        { d with
          rate := u.timing.chargeStep
          pendingRate := u.timing.chargeStep
          burst := some u.timing.circStrokes
          staticTimer := .stopped
          watch := some 0
          stroke := some ⟨.circulate, (u.seq.get l).source, u.strokeVolume l, true, u.period l u.timing.chargeStep⟩ }).updReg
        l Regulator.disarm).updRec l fun r => { r with unplaced := r.unplaced + u.inFlight l } := by
  unfold State.startBurst State.startCirculate
  rw [updDrive_updDrive, abandonStroke_updDrive u l fun _ => by rfl]
  have hseq : (u.abandonStroke l).seq = u.seq := abandonStroke_seq u l
  have hline : (u.abandonStroke l).lineTable = u.lineTable := (LineOnly.refl l u).abandonStroke.steady.settings.1
  simp [State.putUnplaced, hseq, State.strokeVolume, State.period, hline]

theorem startBurst_seq (u : State) (l : LineId) :
    (u.startBurst l).seq.get l = { u.seq.get l with returnOpen := true } := by
  simp [startBurst_eq]

theorem startBurst_reg (u : State) (l : LineId) : (u.startBurst l).reg.get l = (u.reg.get l).disarm := by
  simp [startBurst_eq]

theorem startBurst_drive (u : State) (l : LineId) :
    (u.startBurst l).drive.get l =
      { u.drive.get l with
        rate := u.timing.chargeStep
        pendingRate := u.timing.chargeStep
        burst := some u.timing.circStrokes
        staticTimer := .stopped
        watch := some 0
        stroke := some ⟨.circulate, (u.seq.get l).source, u.strokeVolume l, true, u.period l u.timing.chargeStep⟩ } := by
  simp [startBurst_eq]

theorem startBurst_openRec (u : State) (l : LineId) :
    (u.startBurst l).openRec.get l =
      (u.openRec.get l).map fun r => { r with unplaced := r.unplaced + u.inFlight l } := by
  simp [startBurst_eq]

theorem Beside.startBurst (h : Beside l s u) : Beside l s (u.startBurst l) := by
  rw [startBurst_eq]
  exact (((h.updSeq _).updDrive _).updReg _).updRec _

theorem mayCirculate_iff : u.mayCirculate l = true ↔ (u.drive.get l).burst = none ∧
    (u.lineState l = .ready ∨ u.lineState l = .held ∧ (u.seq.get l).holdsGrout = true) := by
  simp [State.mayCirculate]

theorem LineState.stands_iff {st : LineState} : st.stands = true ↔ st = .ready ∨ st = .held := by
  cases st <;> simp [LineState.stands]

/-- Settles O37: whichever way a burst starts, it is `startBurst` of a line that stands. -/
theorem burstsStart : Obligations.BurstsStart := by
  intro s l i hb hi
  rcases hi with ⟨rfl, hfree, hs⟩ | ⟨rfl, hrun, hnot, hs⟩
  · have howner : circulateAt l (s.restartSilence .gallery) = ((s.restartSilence .gallery).startBurst l, plain .ok) :=
      if_pos (mayCirculate_iff.mpr ⟨hb, hs⟩)
    have hbeside : Beside l (s.restartSilence .gallery) ((s.restartSilence .gallery).startBurst l) :=
      (Beside.refl l _).startBurst
    exact ⟨_, line_request hfree (by decide) howner, hbeside.line.request _, hbeside.sameSupply, hbeside.log,
      congrArg (·.get l) hbeside.currentTank, fun _ => answeredWith_quiet (by rw [startBurst_eq]; rfl), nofun,
      startBurst_seq _ l, startBurst_reg _ l, startBurst_drive _ l, startBurst_openRec _ l⟩
  · have hexec : exec (.circulationStaticExpiry l) s = .next (s.startBurst l) := by
      refine congrArg Host.Outcome.next ((onEvent_of_not_overtaken hnot.overtaken _).trans (if_pos ?_))
      rw [Timer.isRunning_iff.mpr hrun, LineState.stands_iff.mpr hs]
      rfl
    have hbeside : Beside l s (s.startBurst l) := (Beside.refl l s).startBurst
    exact ⟨_, hexec, hbeside.onlyLine, hbeside.sameSupply, hbeside.log, congrArg (·.get l) hbeside.currentTank, nofun,
      fun _ => latched_nothing (by rw [startBurst_eq]; rfl), startBurst_seq s l, startBurst_reg s l, startBurst_drive s l,
      startBurst_openRec s l⟩

/-! ### Settling (R10, R51) -/

theorem runSlot_empty (h : (u.seq.get l).slot = none) (point : RunPoint) : u.runSlot l point = u := by
  rw [State.runSlot, h]

/-- A packer settle expiry that is taken (R10). -/
theorem exec_settle (hs : s.lineState l = .seated) (hset : (s.seq.get l).settled = false)
    (ht : (s.seq.get l).settleTimer ≠ .stopped) (hn : s.NotOvertaken (.packerSettleExpiry l)) :
    exec (.packerSettleExpiry l) s = .next (s.settle l) := by
  refine congrArg Host.Outcome.next ((onEvent_of_not_overtaken hn.overtaken _).trans (if_pos ?_))
  rw [show (s.seq.get l).state = .seated from hs, hset, Timer.isRunning_iff.mpr ht]
  rfl

/-- Settles O38: without a request in the slot, settling is the capture of the formation pressure and the watch armed. -/
theorem settleCapturesFormationPressure : Obligations.SettleCapturesFormationPressure := by
  intro s l
  refine ⟨fun hs hset ht hn hslot geo hgeo => ?_, fun hs => ?_⟩
  · rw [exec_settle hs hset ht hn, State.settle, runSlot_empty (by simpa [State.captureFormation] using hslot)]
    have hpf : (s.reg.get l).formationPressure = match (s.reg.get l).gauge with
        | some v => v.pg + (981 * geo.mid + 500) / 1000
        | none => 0 := by
      rw [Regulator.formationPressure, Option.mem_def.mp hgeo]
      rfl
    simp only [State.captureFormation, updRec_updReg, updReg_updReg, State.updSeq_reg, hpf]
    refine congrArg (fun v : State => Host.Outcome.next (v.updRec l _)) (updReg_congr ?_)
    rw [State.updSeq_reg, hpf]
    rfl
  · refine congrArg Host.Outcome.next (onEvent_induct (P := (· = s)) rfl (if_neg ?_))
    simp [show (s.seq.get l).state ≠ .seated from hs]

end Simple
end Sys2Proof.Machine


/-! PROOF of O22. WRITE_MIX and WRITE_LINE through their checks. -/

namespace Sys2Proof.Machine

/-! ### WRITE_MIX and WRITE_LINE (R4, R46, R171, R173) -/

section Writes

variable {s t u v : State} {l : LineId}

@[simp] theorem restartSilence_lineState (s : State) (p : Port) : (s.restartSilence p).lineState l = s.lineState l := rfl

theorem quiescent_iff {st : LineState} : st.quiescent = true ↔ st = .off ∨ st = .idle := by
  cases st <;> simp [LineState.quiescent]

theorem isYesNo_iff {n : Nat} : isYesNo n = true ↔ n ≤ 1 := by
  simp only [isYesNo, Bool.or_eq_true, beq_iff_eq]
  omega

theorem mixWriteValid_iff {m : MixWrite} :
    mixWriteValid m = true ↔ m.enabled ≤ 1 ∧ 50 ≤ m.ratio ∧ m.ratio ≤ 1000 ∧ 1000 ≤ m.gradient ∧ m.gradient ≤ 2200 ∧
      m.step ≤ 5000 := by
  simp only [mixWriteValid, Bool.and_eq_true, isYesNo_iff, inRange_iff, Nat.zero_le, true_and, and_assoc]

theorem neighbourValid_iff {n : Nat} : neighbourValid l n = true ↔ n ≤ 6 ∧ n ≠ l.num := by
  have hl : 1 ≤ l.num := by cases l <;> decide
  simp only [neighbourValid, Bool.or_eq_true, beq_iff_eq, Bool.and_eq_true, inRange_iff, bne_iff_ne]
  omega

theorem lineWriteValid_iff {q : LineWrite} :
    lineWriteValid l q = true ↔
      q.enabled ≤ 1 ∧ (q.displacement = 0 ∧ q.enabled = 0 ∨ 100 ≤ q.displacement ∧ q.displacement ≤ 5000) ∧
        70 ≤ q.efficiency ∧ q.efficiency ≤ 100 ∧ 300 ≤ q.tmin ∧ q.tmin ≤ 3000 ∧ q.k ≤ 500 ∧
        1000 ≤ q.lineVolume ∧ q.lineVolume ≤ 200000 ∧ 1000 ≤ q.fullScale ∧ q.fullScale ≤ 10000 ∧
        q.neighbour1 ≤ 6 ∧ q.neighbour1 ≠ l.num ∧ q.neighbour2 ≤ 6 ∧ q.neighbour2 ≠ l.num ∧
        (q.neighbour1 = 0 ∨ q.neighbour1 ≠ q.neighbour2) := by
  simp only [lineWriteValid, Bool.and_eq_true, isYesNo_iff, inRange_iff, neighbourValid_iff, Bool.or_eq_true,
    Bool.not_eq_true', Bool.and_eq_false_iff, beq_iff_eq, bne_iff_ne, beq_eq_false_iff_ne, ne_eq]
  omega

theorem exec_writeMix (h : s.free .gallery) (code : Nat) (m : MixWrite) :
    exec (.writeMix .gallery code m) s =
      .next (if code = 0 ∨ 8 < code then s.answered .gallery 0x51 .range []
        else if ∃ l ∈ LineId.all, s.lineState l ≠ .off ∧ s.lineState l ≠ .idle
          then s.answered .gallery 0x51 .notQuiet []
        else if m.enabled ≤ 1 ∧ 50 ≤ m.ratio ∧ m.ratio ≤ 1000 ∧ 1000 ≤ m.gradient ∧ m.gradient ≤ 2200 ∧
            m.step ≤ 5000
          then { s.answered .gallery 0x51 .ok [] with
            mixTable := s.mixTable.set code ⟨m.enabled == 1, some ⟨m.ratio, m.gradient, m.step⟩⟩ }
        else s.answered .gallery 0x51 .range []) := by
  have hquiet : (s.restartSilence .gallery).allQuiescent = true ↔
      ¬∃ l ∈ LineId.all, s.lineState l ≠ .off ∧ s.lineState l ≠ .idle := by
    simp only [State.allQuiescent, List.all_eq_true, quiescent_iff, not_exists, not_and_or, ne_eq, not_not]
    exact ⟨fun hq k => .inr (hq k (LineId.mem_all k)), fun hq k hk => (hq k).resolve_left (by simp [hk])⟩
  have hcode : inRange 1 8 code = true ↔ ¬(code = 0 ∨ 8 < code) := by rw [inRange_iff]; omega
  refine congrArg Host.Outcome.next ?_
  have unchanged (st : Status) (ho : writeMixOwner code m (s.restartSilence .gallery) =
      (s.restartSilence .gallery, plain st)) :
      s.request .gallery 0x51 [.gallery] (writeMixOwner code m) = s.answered .gallery 0x51 st [] :=
    request_unchanged h 0x51 (by decide) ho
  split
  · rename_i hc
    exact unchanged .range (if_pos (by simpa using mt hcode.mp (not_not.mpr hc)))
  · rename_i hc
    have h1 := hcode.mpr hc
    split
    · rename_i hq
      refine unchanged .notQuiet ?_
      rw [writeMixOwner, if_neg (by simp [h1]), if_pos (by simpa using mt hquiet.mp (not_not.mpr hq))]
    · rename_i hq
      have h2 := hquiet.mpr hq
      split
      · rename_i hv
        have h3 := mixWriteValid_iff.mpr hv
        rw [request_taken h 0x51 (by decide)]
        simp only [writeMixOwner, h1, h2, h3, Bool.not_true, Bool.false_eq_true, if_false]
        rfl
      · rename_i hv
        refine unchanged .range ?_
        rw [writeMixOwner, if_neg (by simp [h1]), if_neg (by simp [h2]), if_pos]
        simpa using mt mixWriteValid_iff.mp hv

/-- The sequencer and the regulator of a line once its enabled setting is written (R4, R46). -/
theorem followEnabled_eq (u : State) (l : LineId) (enabled : Bool) :
    u.followEnabled l enabled =
      if u.lineState l = .off ∧ enabled = true then u.enableLine l
      else if u.lineState l = .idle ∧ enabled = false then u.disableLine l
      else u := by
  unfold State.followEnabled
  cases u.lineState l <;> cases enabled <;> simp

theorem lineOnly_followEnabled (u : State) (l : LineId) (enabled : Bool) : LineOnly l u (u.followEnabled l enabled) := by
  rw [followEnabled_eq]
  split
  · exact ((LineOnly.refl l u).updSeq _).updReg _
  · split
    · exact ((LineOnly.refl l u).updSeq _).updReg _
    · exact LineOnly.refl l u

/-- What the move of R4 makes of a line's sequencer and regulator. -/
theorem followEnabled_blocks (u : State) (l : LineId) {n : Nat} (hn : n ≤ 1) :
    if u.lineState l = .off ∧ n = 1 then
      (u.followEnabled l (n == 1)).seq.get l =
        { u.seq.get l with state := .idle, packerInflated := false, returnOpen := true, source := .water } ∧
      (u.followEnabled l (n == 1)).reg.get l = { u.reg.get l with sampleTimer := .running 0 500 }
    else if u.lineState l = .idle ∧ n = 0 then
      (u.followEnabled l (n == 1)).seq.get l =
        { u.seq.get l with state := .off, packerInflated := false, returnOpen := true, source := .water } ∧
      (u.followEnabled l (n == 1)).reg.get l =
        { u.reg.get l with sampleTimer := .stopped, lastReading := .none, gauge := none, invalidCount := 0 }
    else (u.followEnabled l (n == 1)).seq.get l = u.seq.get l ∧ (u.followEnabled l (n == 1)).reg.get l = u.reg.get l := by
  have hoff : (n == 1) = false ↔ n = 0 := by rw [beq_eq_false_iff_ne]; omega
  simp only [followEnabled_eq, beq_iff_eq, hoff]
  split
  · simp [State.enableLine, Sequencer.released, Config.samplePeriod]
  · split
    · simp [State.disableLine, Sequencer.released]
    · exact ⟨rfl, rfl⟩

/-- A WRITE_LINE of an idle line with its fields in range (R171). -/
theorem writeLineAt_ok {q : LineWrite} (hs : u.lineState l = .off ∨ u.lineState l = .idle) (hv : lineWriteValid l q = true) :
    writeLineAt q l u =
      (({ u with lineTable := u.lineTable.set l (lineEntryOf q) } : State).followEnabled l (q.enabled == 1),
        plain .ok) := by
  rw [writeLineAt, if_neg (by simp [quiescent_iff.mpr hs]), if_neg (by simp [hv])]

/-- Settles O22: the checks of each write in order, and the move of the line written. -/
theorem mixAndLineWrites : Obligations.MixAndLineWrites := by
  intro s l q code m hfree
  refine ⟨exec_writeMix hfree code m, fun h1 h2 => ?_, fun n hn => no_line_request hfree (by decide) hn, fun hs => ?_⟩
  · refine line_request_unchanged hfree (by decide) (if_pos ?_)
    have : (s.lineState l).quiescent ≠ true := mt quiescent_iff.mp (by simp [h1, h2])
    simpa using this
  · split
    · rename_i hv
      have hv' := lineWriteValid_iff.mpr hv
      set w : State := { s.restartSilence .gallery with lineTable := s.lineTable.set l (lineEntryOf q) } with hw
      have hexec := line_request (code := 0x50) hfree (by decide : Port.gallery ∈ [Port.gallery])
        (writeLineAt_ok (u := s.restartSilence .gallery) hs hv')
      have ho := lineOnly_followEnabled w l (q.enabled == 1)
      have htable : (w.followEnabled l (q.enabled == 1)).lineTable = s.lineTable.set l (lineEntryOf q) :=
        ho.steady.settings.1
      refine ⟨_, hexec, ?_, fun k hk => ⟨ho.lines k hk, ?_⟩, ?_, ?_⟩
      · rw [followEnabled_eq]
        split
        · rfl
        · split <;> rfl
      · exact (congrArg (·.get k) htable).trans (PerLine.get_set_of_ne _ hk _)
      · exact (congrArg (·.get l) htable).trans (PerLine.get_set_self _ _ _)
      · exact followEnabled_blocks w l hv.1
    · rename_i hv
      refine line_request_unchanged hfree (by decide) ((if_neg ?_).trans (if_pos ?_))
      · simpa using quiescent_iff.mpr hs
      · simpa using mt lineWriteValid_iff.mp hv

end Writes
end Sys2Proof.Machine


/-! PROOF of O29. The checks of the line requests in their order. -/

namespace Sys2Proof.Machine

/-! ### The checks of the line requests (R5 to R8) -/

section Checks

variable {s t u v : State} {l : LineId} {req : PendingReq}

theorem seatValid_iff {q : SeatParams} : u.seatValid q = true ↔ SeatInRange u q := by
  simp only [State.seatValid, SeatInRange, Bool.and_eq_true, inRange_iff, decide_eq_true_eq, Bool.or_eq_true, beq_iff_eq]
  constructor
  · rintro ⟨⟨⟨⟨⟨⟨⟨⟨⟨⟨⟨⟨h1, h2⟩, h3⟩, h4⟩, h5⟩, h6⟩, h7⟩, h8⟩, h9⟩, h10⟩, h11⟩, h12⟩, h13⟩
    exact ⟨h1.1, h1.2, h2.1, h2.2, h3.1, h3.2, h4.2, h5.2, by omega, by omega, h8.1, h8.2, h9.1, h9.2, h10.1, h10.2, h11,
      h12, h13.1, h13.2⟩
  · rintro ⟨h1, h2, h3, h4, h5, h6, h7, h8, h9, h10, h11, h12, h13, h14, h15, h16, h17, h18, h19, h20⟩
    exact ⟨⟨⟨⟨⟨⟨⟨⟨⟨⟨⟨⟨⟨h1, h2⟩, h3, h4⟩, h5, h6⟩, by omega, h7⟩, by omega, h8⟩, by omega⟩, by omega⟩, h11, h12⟩, h13, h14⟩,
      h15, h16⟩, h17⟩, h18⟩, h19, h20⟩

theorem paramsValid_iff : u.paramsValid req = true ↔ ReqInRange u req := by
  cases req with
  | seat q => exact seatValid_iff
  | test target duration => simp only [State.paramsValid, Bool.and_eq_true, inRange_iff, ReqInRange, and_assoc]
  | charge => simp [State.paramsValid, ReqInRange]
  | inject => simp [State.paramsValid, ReqInRange]

theorem heldBack_iff : (req.needsRelease && u.covered l) = true ↔ u.heldBack l req := by
  cases req <;> simp [PendingReq.needsRelease, State.heldBack]

theorem conflict_iff : u.seatConflict l req = true ↔ ReqConflict u l req := by
  cases req with
  | seat q => exact seatConflict_iff
  | _ => simp [State.seatConflict, ReqConflict]

theorem accepts_iff :
    u.accepts l req ↔ ¬taking (u.seq.get l) (u.drive.get l).burst.isSome req = .busy ∧
      ¬(decide (taking (u.seq.get l) (u.drive.get l).burst.isSome req = .deferred) && (u.seq.get l).slot.isSome) = true := by
  unfold State.accepts
  rw [← taking_atOnce_iff, ← taking_deferred_iff]
  cases taking (u.seq.get l) (u.drive.get l).burst.isSome req <;> simp

/-- The checks of R6 in order, each passed where the next is reached. -/
theorem lineStatus_accepted (ha : u.accepts l req) :
    u.lineStatus l req =
      if req.needsRelease && u.covered l then .held
      else if !u.paramsValid req then .range
      else if u.seatConflict l req then .conflict
      else if taking (u.seq.get l) (u.drive.get l).burst.isSome req = .deferred then .deferred
      else .ok := by
  obtain ⟨h1, h2⟩ := accepts_iff.mp ha
  unfold State.lineStatus
  dsimp only
  rw [if_neg h1, if_neg h2]

theorem lineStatus_busy (ha : ¬u.accepts l req) : u.lineStatus l req = .busy := by
  unfold State.lineStatus
  dsimp only
  rw [accepts_iff, not_and_or, not_not, not_not] at ha
  split
  · rfl
  · rw [if_pos (ha.resolve_left ‹_›)]

theorem lineStatus_held (ha : u.accepts l req) (hh : u.heldBack l req) : u.lineStatus l req = .held := by
  rw [lineStatus_accepted ha, if_pos (heldBack_iff.mpr hh)]

theorem lineStatus_range (ha : u.accepts l req) (hh : ¬u.heldBack l req) (hr : ¬ReqInRange u req) :
    u.lineStatus l req = .range := by
  rw [lineStatus_accepted ha, if_neg (mt heldBack_iff.mp hh), if_pos (by simpa using mt paramsValid_iff.mp hr)]

theorem lineStatus_conflict (ha : u.accepts l req) (hh : ¬u.heldBack l req) (hr : ReqInRange u req)
    (hc : ReqConflict u l req) : u.lineStatus l req = .conflict := by
  rw [lineStatus_accepted ha, if_neg (mt heldBack_iff.mp hh), if_neg (by simp [paramsValid_iff.mpr hr]),
    if_pos (conflict_iff.mpr hc)]

theorem lineStatus_taken (ht : u.takesAtOnce l req) (hh : ¬u.heldBack l req) (hr : ReqInRange u req)
    (hc : ¬ReqConflict u l req) : u.lineStatus l req = .ok := by
  rw [lineStatus_accepted (.inl ht), if_neg (mt heldBack_iff.mp hh), if_neg (by simp [paramsValid_iff.mpr hr]),
    if_neg (mt conflict_iff.mp hc), taking_atOnce_iff.mpr ht]
  rfl

theorem lineStatus_deferred (hd : u.defers l req) (hslot : (u.seq.get l).slot = none) (hh : ¬u.heldBack l req)
    (hr : ReqInRange u req) (hc : ¬ReqConflict u l req) : u.lineStatus l req = .deferred := by
  rw [lineStatus_accepted (.inr ⟨hd, hslot⟩), if_neg (mt heldBack_iff.mp hh), if_neg (by simp [paramsValid_iff.mpr hr]),
    if_neg (mt conflict_iff.mp hc), if_pos (taking_deferred_iff.mpr hd)]

/-! #### The commands of the four deferrable requests -/

theorem exec_reqCommand (p : Port) (line : Nat) (req : PendingReq) (s : State) :
    exec (reqCommand p line req) s = .next (s.request p (reqCode req) [.gallery] (onLine line (deferrable req))) := by
  cases req <;> rfl

theorem deferrable_ok (h : u.lineStatus l req = .ok) : deferrable req l u = (u.takeDeferred l req, plain .ok) := by
  rw [deferrable, h]

/-- A deferrable request taken at once (R6). -/
theorem exec_reqCommand_taken (hfree : s.free .gallery) (ht : s.takesAtOnce l req) (hh : ¬s.heldBack l req)
    (hr : ReqInRange s req) (hc : ¬ReqConflict s l req) :
    exec (reqCommand .gallery l.num req) s =
      .next (((s.restartSilence .gallery).takeDeferred l req).respond .gallery ⟨reqCode req, .ok, []⟩) := by
  rw [exec_reqCommand]
  have hst : (s.restartSilence .gallery).lineStatus l req = .ok := (lineStatus_taken ht hh hr hc :)
  exact line_request hfree (by decide) (deferrable_ok hst)

/-- Settles O29: the status of a request by the first check it fails; the line then stays as it was. -/
theorem lineRequestsAreChecked : Obligations.LineRequestsAreChecked := by
  intro s l req hfree
  have refused {st : Status} (h1 : st ≠ .ok) (h2 : st ≠ .deferred) (hst : s.lineStatus l req = st) :
      exec (reqCommand .gallery l.num req) s = .next (s.answered .gallery (reqCode req) st []) := by
    rw [exec_reqCommand]
    refine line_request_unchanged hfree (by decide) ?_
    rw [deferrable, show (s.restartSilence .gallery).lineStatus l req = st from hst]
    cases st with
    | ok => exact absurd rfl h1
    | deferred => exact absurd rfl h2
    | _ => rfl
  refine ⟨fun n hn => ⟨?_, no_line_request hfree (by decide) hn, no_line_request hfree (by decide) hn,
    no_line_request hfree (by decide) hn, no_line_request hfree (by decide) hn⟩,
    fun ha => refused nofun nofun (lineStatus_busy ha), fun ha hh => refused nofun nofun (lineStatus_held ha hh),
    fun ha hh hr => refused nofun nofun (lineStatus_range ha hh hr),
    fun ha hh hr hc => refused nofun nofun (lineStatus_conflict ha hh hr hc), fun hs => ⟨?_, ?_⟩, fun hs => ?_,
    fun hs hcause hread => ?_, fun hs => ?_⟩
  · rw [exec_reqCommand]
    exact no_line_request hfree (by decide) hn
  · refine line_request_unchanged hfree (by decide) ?_
    unfold finishAt
    rw [restartSilence_lineState]
    rcases hs with hs | hs | hs | hs <;> rw [hs]
  · refine line_request_unchanged hfree (by decide) (if_neg ?_)
    rw [restartSilence_lineState]
    rcases hs with hs | hs | hs | hs <;> rw [hs] <;> decide
  · exact line_request_unchanged hfree (by decide) (if_pos hs)
  · refine line_request_unchanged hfree (by decide) ((if_neg (by simpa using hs)).trans (if_pos ?_))
    simpa using ⟨hcause, hread⟩
  · refine line_request_unchanged hfree (by decide) (if_neg (mt mayCirculate_iff.mp ?_))
    rintro ⟨hb, hst⟩
    rcases hs with hs | ⟨h1, h2⟩
    · exact hs hb
    · rcases hst with hst | ⟨hst, hg⟩
      · exact h1 hst
      · rcases h2 with h2 | h2
        · exact h2 hst
        · rw [show (s.seq.get l).holdsGrout = true from hg] at h2
          cases h2

end Checks
end Sys2Proof.Machine


/-! PROOF of O31 and O39. A stage opened, and a test from its start to its result. -/

namespace Sys2Proof.Machine

section SeatAndTest

variable {s t u v : State} {l : LineId}

/-- An event latched under a condition changes ports alone. -/
theorem ite_latchAll (c : Prop) [Decidable c] (u : State) (e : Event) :
    (if c then u.latchAll e else u) = { u with port := if c then (u.latchAll e).port else u.port } := by
  split <;> rfl

theorem latched_ite {c : Prop} [Decidable c] {e : Event} (h : t.port = if c then (s.latchAll e).port else s.port) :
    Latched s t (if c then e.bit else 0) := by
  split at h
  · rename_i hc
    rw [if_pos hc]
    exact latched_event h
  · rename_i hc
    rw [if_neg hc]
    exact latched_nothing h

/-! ### SEAT (R9, R139) -/

/-- What a SEAT makes of each block, whether or not Pmax is clamped (R9, R52). -/
theorem takeSeat_eq (u : State) (l : LineId) (q : SeatParams) :
    u.takeSeat l q =
      ((({ u with
          port := if depthCeiling u.envelope.beta (stageMid q) < q.pmax then (u.latchAll .clamped).port
            else u.port } : State).openRecord l q (min q.pmax (depthCeiling u.envelope.beta (stageMid q)))
          (decide (depthCeiling u.envelope.beta (stageMid q) < q.pmax))).updSeq l
        (·.seatedWith (.startSeconds u.timing.packerSettle))).updReg l (·.seatStage q) := by
  unfold State.takeSeat
  simp only [decide_eq_true_eq, ite_latchAll]

/-- Settles O31: the record opened, the sequencer and the regulator set for the stage. -/
theorem seatOpensAStage : Obligations.SeatOpensAStage := by
  intro s l q hfree hs hrange hclaims
  have hconf : ¬ReqConflict s l (.seat q) := fun ⟨k, hk, hc⟩ => hclaims k hk hc
  refine ⟨_, exec_reqCommand_taken (req := .seat q) hfree hs not_false hrange hconf, ?_⟩
  dsimp only
  refine ⟨((LineOnly.refl l _).takeSeat q).request _, ?_⟩
  rw [State.takeDeferred, takeSeat_eq]
  refine ⟨⟨rfl, rfl⟩, rfl, rfl, rfl, (latched_ite (by rfl)).request _ _, ?_, ?_, ?_, rfl, rfl⟩
  · simp [State.respond, State.openRecord]
    rfl
  · simp [State.respond, State.openRecord]
    rfl
  · simp [State.respond, State.openRecord]
    rfl

/-! ### TEST (R11, R71) -/

/-- A test that starts at rate step 1 on a drive at rest (R11, R33). -/
theorem takeTest_eq (hn : (u.drive.get l).stroke = none) (hb : (u.drive.get l).burst = none) (target duration : Nat) :
    u.takeTest l target duration =
      ((u.updSeq l fun q =>
        { q with state := .testing, testDuration := some duration, testTimer := some 0, source := .water }).updDrive l
        fun d => startedDrive u l .test .test .water 1 d.staticTimer).updReg l fun g =>
        { g.clearTest.disarm with testRunning := true, testTarget := some target } := by
  unfold State.takeTest
  rw [setPurpose_water (purpose := .test) (kind := .test) (by exact hn) (by exact hb) one_ne_zero trivial]
  simp only [updReg_updSeq, updReg_updDrive, updSeq_updSeq]
  rfl

/-- The result of a test that runs its time (R74, R77). -/
theorem testOutcome_complete {duration target : Nat} {geo : Geometry} (hd : duration ∈ (u.seq.get l).testDuration)
    (ht : target ∈ (u.reg.get l).testTarget) (hg : geo ∈ (u.reg.get l).geometry) :
    u.testOutcome l .complete =
      if (u.reg.get l).sampleCount = 0 ∨ (u.reg.get l).pressureSum / (u.reg.get l).sampleCount = 0 then none
      else some
        { target := target
          duration := duration
          elapsed := duration
          samples := (u.reg.get l).sampleCount
          mean := (u.reg.get l).pressureSum / (u.reg.get l).sampleCount
          volume := (u.reg.get l).testVolume
          tLu := min 9999 ((u.reg.get l).testVolume * 6000 /
            (duration * geo.ls * ((u.reg.get l).pressureSum / (u.reg.get l).sampleCount)))
          cutShort := false
          lowPressure := decide ((u.reg.get l).pressureSum / (u.reg.get l).sampleCount < target * 50 / 100) } := by
  rw [Option.mem_def] at hd ht hg
  simp only [State.testOutcome, hd, ht, hg, Option.getD_some, Option.map_some, testResult]
  split
  · rw [if_pos (.inl ‹_›)]
  · rename_i hc
    split
    · rw [if_pos (.inr ‹_›)]
    · rename_i hm
      rw [if_neg (not_or.mpr ⟨hc, hm⟩)]
      rfl

/-- Settles O39: a test starts from rest, and one that runs its time ends with the result of its accumulators. -/
theorem testsStartAndComplete : Obligations.TestsStartAndComplete := by
  refine ⟨fun s l target duration hfree hs hset hcov h1 h2 h3 h4 hinv => ?_,
    fun s l hs htimer hnot hslot hinv duration hdur target htar geo hgeo => ?_⟩
  · have hd := (lineInv_iff.mp hinv).2
    have hn := hd.stroke_none (.inr (.inl hs))
    have hb := hd.burst_none (by rw [show (s.seq.get l).state = .seated from hs]; rfl)
    refine ⟨_, exec_reqCommand_taken (req := .test target duration) hfree ⟨hs, hset⟩ (by simp [State.heldBack, hcov])
      ⟨h1, h2, h3, h4⟩ not_false, ?_⟩
    rw [State.takeDeferred, takeTest_eq (u := s.restartSilence .gallery) hn hb]
    refine ⟨((((LineOnly.refl l _).updSeq _).updDrive _).updReg _).request _, ⟨rfl, rfl⟩, ⟨rfl, rfl, rfl⟩,
      answeredWith_quiet (by rfl), ?_, ?_, ?_, rfl, rfl⟩
    · simp [State.respond, State.restartSilence]
    · simp [State.respond, State.restartSilence, startedDrive, State.strokeVolume]
    · simp [State.respond, State.restartSilence, Regulator.clearTest, Regulator.disarm]
  · have hgrout : ∀ k ∈ (s.drive.get l).stroke, k.purpose.isGrout = false := fun k hk => by
      rw [hinv.test_stroke hs hk]
      rfl
    have hexec : exec (.testTimerExpiry l) s = .next (s.endTest l .complete) := by
      refine congrArg Host.Outcome.next ((onEvent_of_not_overtaken hnot.overtaken _).trans (if_pos ?_))
      simp [show (s.seq.get l).state = .testing from hs, Option.isSome_iff_ne_none, htimer]
    have hbeside : Beside l s (s.endTest l .complete) := (Beside.refl l s).endTest hgrout hslot .complete
    refine ⟨_, hexec, hbeside.onlyLine, hbeside.sameSupply, hbeside.log,
      latched_nothing (endTest_port hgrout hslot .complete), endTest_seq hgrout hslot .complete,
      endTest_drive hgrout hslot .complete, ?_, congrArg (·.get l) hbeside.currentTank, ?_⟩
    · rw [endTest_reg hgrout hslot]
      rfl
    · rw [endTest_openRec hgrout hslot, testOutcome_complete hdur htar hgeo]
      split
      · exact Option.map_id'
      · rfl

end SeatAndTest
end Sys2Proof.Machine


/-! SUPPORT. Grout strokes started, or waited for. -/

namespace Sys2Proof.Machine

/-! ### Grout strokes started, or waited for (R22, R33, R101, R106) -/

section Grout

variable {s t u v : State} {l : LineId} {r : Resume} {mix : Nat} {k : TankId}

/-- The purpose and the stroke purpose of the work a line resumes. -/
def Resume.purpose : Resume → Purpose
  | .charging => .charge
  | .injecting => .inject

def Resume.kind : Resume → StrokePurpose
  | .charging => .charge
  | .injecting => .inject

theorem asResume_iff {st : LineState} : st.asResume = some r ↔ st = r.lineState := by
  cases st <;> cases r <;> simp [LineState.asResume, Resume.lineState]

theorem startStroke_grout (hp : (u.drive.get l).purpose = r.purpose) (given : Option TankId) :
    u.startStroke l given = u.startGrout l r.kind given := by
  unfold State.startStroke
  cases r <;> simp only [Resume.purpose] at hp <;> rw [hp] <;> rfl

/-- A grout stroke started from a tank: what the line's blocks hold, its tank apart (R33). -/
structure Runs (s t : State) (l : LineId) (r : Resume) (k : TankId) (rate : Nat) (q : Sequencer) (static : Timer)
    (g : Regulator) (x : Option Record) : Prop where
  seq : t.seq.get l = { q with source := .tank k, holdsGrout := q.holdsGrout || decide (r = .charging) }
  drive : t.drive.get l = startedDrive s l r.purpose r.kind (.tank k) rate static
  reg : t.reg.get l = g
  openRec : t.openRec.get l = x
  port : t.port = s.port
  log : SameLog s t
  demand : t.demand = s.demand
  tanks : t.tanks = s.tanks
  currentTank : t.currentTank = s.currentTank

theorem runGrout_runs (hp : (u.drive.get l).purpose = r.purpose) (hb : (u.drive.get l).burst = none) (k : TankId) :
    Runs u (u.runGrout l r.kind k) l r k (u.drive.get l).pendingRate (u.seq.get l) (u.drive.get l).staticTimer
      (u.reg.get l) (u.openRec.get l) := by
  refine ⟨?_, ?_, rfl, rfl, rfl, ⟨rfl, rfl, rfl⟩, rfl, rfl, rfl⟩
  · cases r <;> simp [State.runGrout, State.runStroke, Resume.kind]
  · simp only [State.runGrout, State.runStroke, State.updSeq_drive, State.updDrive_drive, PerLine.get_upd_self,
      startedDrive, ← hp, hb]
    rfl

theorem debit_eq {x : Tank} {e : Nat} (h : e ≤ x.level) :
    x.debit e = if x.level = e then ⟨.empty, none, 0, none⟩ else { x with level := x.level - e } := by
  have hz : x.level - e = 0 ↔ x.level = e := by omega
  simp only [Tank.debit, hz]

/-- A stroke started from the tank that the account gives, or has given (R33, R101, R102). -/
theorem runGrout_starts (hp : (u.drive.get l).purpose = r.purpose) (hb : (u.drive.get l).burst = none)
    (hk : u.strokeVolume l ≤ (u.tanks.get k).level) :
    GroutStarts u ((u.payFrom l k (u.strokeVolume l)).runGrout l r.kind k) l r k (u.drive.get l).pendingRate
      (u.seq.get l) (u.drive.get l).staticTimer (u.reg.get l) (u.openRec.get l) := by
  have hr := runGrout_runs (u := u.payFrom l k (u.strokeVolume l)) (r := r) hp hb k
  refine ⟨⟨?_, fun j hj => ?_, ?_, rfl⟩, hr.seq, ?_, hr.reg, hr.openRec⟩
  · rw [hr.tanks, ← debit_eq hk]
    simp [State.payFrom, State.setCurrentTank]
  · rw [hr.tanks]
    exact PerTank.get_upd_of_ne _ hj _
  · rw [hr.currentTank]
    simp [State.payFrom, State.setCurrentTank]
  · rw [hr.drive]
    cases r <;> rfl

theorem startGrout_tank {kind : StrokePurpose} (hm : (u.seq.get l).currentMix = some mix)
    (hk : u.selectTank l mix (u.strokeVolume l) = some k) :
    u.startGrout l kind none = (u.payFrom l k (u.strokeVolume l)).runGrout l kind k := by
  simp only [State.startGrout, hm, hk]

theorem startGrout_wait {kind : StrokePurpose} (hm : (u.seq.get l).currentMix = some mix)
    (hk : u.selectTank l mix (u.strokeVolume l) = none) : u.startGrout l kind none = u.supplyWait l mix := by
  simp only [State.startGrout, hm, hk]

/-- The demand queue once a line has joined it (R106). -/
theorem joinDemand_new {ds : List DemandEntry} (h : ∀ e ∈ ds, e.mix ≠ mix) (now : Stamp) :
    joinDemand ds mix l now = ds ++ [⟨mix, [l], now⟩] := by
  rw [joinDemand, if_neg]
  simpa using h

theorem joinDemand_there {ds : List DemandEntry} (h : ∃ e ∈ ds, e.mix = mix) (now : Stamp) :
    joinDemand ds mix l now = ds.map fun e => if e.mix = mix then { e with waiting := e.waiting ++ [l] } else e := by
  rw [joinDemand, if_pos]
  simpa using h

/-- A supply wait is the wait that R22 and R106 describe. -/
theorem supplyWait_waits (hs : u.lineState l = r.lineState) (hn : (u.drive.get l).stroke = none) :
    SupplyWaits u (u.supplyWait l mix) l r mix (u.seq.get l) (u.drive.get l) (u.reg.get l) (u.openRec.get l) := by
  have hr := asResume_iff.mpr hs
  have htanks : (u.supplyWait l mix).tanks = u.tanks := by rw [supplyWait_eq hr]; rfl
  have hcur : (u.supplyWait l mix).currentTank = u.currentTank := by rw [supplyWait_eq hr]; rfl
  refine ⟨htanks, by rw [hcur], supplyWait_seq hr mix, ?_, supplyWait_reg hr mix, supplyWait_openRec hr mix, fun h => ?_,
    fun h => ?_⟩
  · rw [supplyWait_drive hr, ← hn]
    rfl
  · rw [supplyWait_demand hr, joinDemand_new h]
    rfl
  · rw [supplyWait_demand hr, joinDemand_there h]

theorem supplyWait_port (hs : u.lineState l = r.lineState) : (u.supplyWait l mix).port = (u.latchAll .supplyWait).port := by
  rw [supplyWait_eq (asResume_iff.mpr hs)]
  rfl

theorem supplyWait_log (hs : u.lineState l = r.lineState) : SameLog u (u.supplyWait l mix) := by
  rw [supplyWait_eq (asResume_iff.mpr hs)]
  exact ⟨rfl, rfl, rfl⟩

/-- What a stroke start of grout comes to: a stroke from the tank selected, or a wait for supply (R33). -/
theorem startStroke_outcome (hp : (u.drive.get l).purpose = r.purpose) (hb : (u.drive.get l).burst = none)
    (hn : (u.drive.get l).stroke = none) (hs : u.lineState l = r.lineState) (hm : (u.seq.get l).currentMix = some mix) :
    SameLog u (u.startStroke l none) ∧
    (∀ k ∈ u.selectTank l mix (u.strokeVolume l), (u.startStroke l none).port = u.port ∧
      GroutStarts u (u.startStroke l none) l r k (u.drive.get l).pendingRate (u.seq.get l) (u.drive.get l).staticTimer
        (u.reg.get l) (u.openRec.get l)) ∧
    (u.selectTank l mix (u.strokeVolume l) = none →
      (u.startStroke l none).port = (u.latchAll .supplyWait).port ∧
      SupplyWaits u (u.startStroke l none) l r mix (u.seq.get l) (u.drive.get l) (u.reg.get l) (u.openRec.get l)) := by
  rw [startStroke_grout hp]
  refine ⟨?_, fun k hk => ?_, fun hk => ?_⟩
  · cases hk : u.selectTank l mix (u.strokeVolume l) with
    | none => rw [startGrout_wait hm hk]; exact supplyWait_log hs
    | some k => rw [startGrout_tank hm hk]; exact ⟨rfl, rfl, rfl⟩
  · rw [startGrout_tank hm hk]
    exact ⟨rfl, runGrout_starts hp hb (selectTank_level hk)⟩
  · rw [startGrout_wait hm hk]
    exact ⟨supplyWait_port hs, supplyWait_waits hs hn⟩

end Grout
end Sys2Proof.Machine


/-! PROOF of O33 and O34. CHARGE and INJECT at their first stroke start. -/

namespace Sys2Proof.Machine

section Starts

variable {s t u v : State} {l : LineId} {r : Resume} {mix : Nat} {k : TankId}

/-! ### INJECT (R14) -/

/-- The line that an INJECT finds at its first stroke start (R14, log 8). -/
def State.injectSet (u : State) (l : LineId) : State :=
  ((((u.updSeq l fun q =>
    { q with state := .injecting, returnOpen := false, standingTimer := .stopped }).updDrive l fun d =>
    { d with staticTimer := .stopped }).updReg l Regulator.disarm).updDrive l fun d =>
    { d with purpose := .inject, pendingRate := 1 })

theorem takeInject_eq (hn : (u.drive.get l).stroke = none) (hb : (u.drive.get l).burst = none) :
    u.takeInject l = (u.injectSet l).startStroke l none := by
  unfold State.takeInject
  exact setPurpose_stopped (by simpa using hn) (by simpa using hb) one_ne_zero (by simp)

theorem injectSet_seq (u : State) (l : LineId) : (u.injectSet l).seq.get l =
    { u.seq.get l with state := .injecting, returnOpen := false, standingTimer := .stopped } := by
  simp [State.injectSet]

theorem injectSet_drive (u : State) (l : LineId) : (u.injectSet l).drive.get l =
    { u.drive.get l with staticTimer := .stopped, purpose := .inject, pendingRate := 1 } := by
  simp [State.injectSet]

theorem injectSet_reg (u : State) (l : LineId) : (u.injectSet l).reg.get l = (u.reg.get l).disarm := by
  simp [State.injectSet]

/-- Settles O34: an INJECT taken sets the line and its drive, and the account answers the first stroke start. -/
theorem injectStartsOrWaitsForSupply : Obligations.InjectStartsOrWaitsForSupply := by
  intro s l hfree hs hb hcov hinv mix hmix
  have hn : (s.drive.get l).stroke = none := (lineInv_iff.mp hinv).2.stroke_none (.inr (.inr ⟨hs, hb⟩))
  set u := s.restartSilence .gallery
  have hexec := exec_reqCommand_taken (req := .inject) hfree ⟨hs, hb⟩ (by simp [State.heldBack, hcov]) trivial not_false
  have hset : (u.injectSet l).lineState l = Resume.injecting.lineState := by
    rw [State.lineState, injectSet_seq]
    rfl
  have hmix' : ((u.injectSet l).seq.get l).currentMix = some mix := by
    rw [injectSet_seq]
    exact hmix
  obtain ⟨hlog, htank, hwait⟩ := startStroke_outcome (r := .injecting) (by rw [injectSet_drive]; rfl)
    (by rw [injectSet_drive]; exact hb) (by rw [injectSet_drive]; exact hn) hset hmix'
  rw [injectSet_seq, injectSet_drive, injectSet_reg] at htank hwait
  refine ⟨_, hexec, ((LineOnly.refl l _).takeDeferred _).request _, ?_, fun k hk => ⟨?_, ?_⟩, fun hk => ⟨?_, ?_⟩⟩
  all_goals rw [State.takeDeferred, takeInject_eq (u := u) hn hb]
  · exact hlog
  · exact answeredWith_quiet (htank k hk).1
  · exact (htank k hk).2
  · exact answeredWith_latch (hwait hk).1
  · exact (hwait hk).2

/-! ### CHARGE (R12, R79 to R82) -/

/-- The line that a CHARGE with a starting mix finds at its first stroke start (R12, log 8). -/
def State.chargeSet (u : State) (l : LineId) (start : Nat × MixSource) : State :=
  ((((({ u with port := if start.2 = .clamped then (u.latchAll .clamped).port else u.port } : State).updRec l fun r =>
    { r with startMix := start.1, startSource := some start.2 }).appendMixStep l start.1).updSeq l fun q =>
    { q with
      state := .charging
      currentMix := some start.1
      nc := ceilDiv (u.lineTable.get l).lineVolume (u.lineTable.get l).strokeVolume
      chargeCount := 0
      returnOpen := true }).updReg l Regulator.disarm).updDrive l fun d =>
    { d with purpose := .charge, pendingRate := u.timing.chargeStep }

theorem takeCharge_eq (hn : (u.drive.get l).stroke = none) (hb : (u.drive.get l).burst = none)
    (hx : u.timing.chargeStep ≠ 0) : u.takeCharge l = (u.chargeSet l (u.chargeMix l)).startStroke l none := by
  unfold State.takeCharge State.chargeSet
  dsimp only
  rw [ite_latchAll]
  refine setPurpose_stopped ?_ ?_ hx (by simp)
  · exact hn
  · exact hb

section ChargeSet

variable (start : Nat × MixSource)

theorem chargeSet_seq : (u.chargeSet l start).seq.get l =
    { u.seq.get l with
      state := .charging
      currentMix := some start.1
      nc := ceilDiv (u.lineTable.get l).lineVolume (u.lineTable.get l).strokeVolume
      chargeCount := 0
      returnOpen := true } := by
  simp [State.chargeSet, State.appendMixStep]

theorem chargeSet_drive : (u.chargeSet l start).drive.get l =
    { u.drive.get l with purpose := .charge, pendingRate := u.timing.chargeStep } := by
  simp [State.chargeSet, State.appendMixStep]

theorem chargeSet_reg : (u.chargeSet l start).reg.get l = (u.reg.get l).disarm := by
  simp [State.chargeSet, State.appendMixStep]

theorem chargeSet_openRec {x : Record} (h : u.openRec.get l = some x) : (u.chargeSet l start).openRec.get l = some
    { x with
      startMix := start.1
      startSource := some start.2
      steps := x.steps ++ [⟨start.1, 0, u.now⟩]
      clockUnset := x.clockUnset || !u.clock.isSet } := by
  simp [State.chargeSet, State.appendMixStep, h, Record.timeWritten, State.now]

theorem chargeSet_latched :
    Latched u (u.chargeSet l start) (if start.2 = .clamped then Event.clamped.bit else 0) :=
  latched_ite (by rfl)

end ChargeSet

/-- The starting mix of a record, its three sources told apart as R79 to R81 do. -/
theorem startingMix_eq (u : State) (x : Record) :
    u.startingMix x =
      if x.startMix ≠ 0 then (x.startMix, .explicit)
      else if bandChoice u.bands x.test ≤ x.thickest ∧ u.mixEnabled (bandChoice u.bands x.test) = true then
        (bandChoice u.bands x.test, .band)
      else (x.thickest, .clamped) := by
  unfold State.startingMix
  refine if_congr Iff.rfl rfl ?_
  by_cases hc : bandChoice u.bands x.test ≤ x.thickest ∧ u.mixEnabled (bandChoice u.bands x.test) = true
  · rw [if_pos hc, if_neg (by simp [hc.1, hc.2])]
  · rw [if_neg hc, if_pos]
    rw [not_and_or, not_le] at hc
    simpa using hc

/-- Settles O33: a CHARGE taken sets the line, its drive and its record, and the account answers the first stroke
start. -/
theorem chargeStartsOrWaitsForSupply : Obligations.ChargeStartsOrWaitsForSupply := by
  intro s l hfree hs hset hcov hinv hstep x hx
  have hd := (lineInv_iff.mp hinv).2
  have hn := hd.stroke_none (.inr (.inl hs))
  have hb := hd.burst_none (by rw [show (s.seq.get l).state = .seated from hs]; rfl)
  set u := s.restartSilence .gallery with hu
  have hexec := exec_reqCommand_taken (req := .charge) hfree ⟨hs, hset⟩ (by simp [State.heldBack, hcov]) trivial not_false
  have hmix : u.chargeMix l = s.startingMix x := by
    rw [State.chargeMix, show u.openRec.get l = some x from hx]
    rfl
  intro choice start
  have hstart : start = u.chargeMix l := (startingMix_eq s x).symm.trans hmix.symm
  clear_value start
  intro e q g y events
  obtain ⟨hlog, htank, hwait⟩ := startStroke_outcome (u := u.chargeSet l start) (l := l) (r := .charging) (mix := start.1)
    (by rw [chargeSet_drive]; rfl) (by rw [chargeSet_drive]; exact hb) (by rw [chargeSet_drive]; exact hn)
    (by rw [State.lineState, chargeSet_seq]; rfl) (by rw [chargeSet_seq])
  rw [chargeSet_seq, chargeSet_drive, chargeSet_reg, chargeSet_openRec (u := u) start hx] at htank hwait
  have hlatch := chargeSet_latched (u := u) (l := l) start
  refine ⟨_, hexec, ((LineOnly.refl l _).takeDeferred _).request _, ?_, fun k hk => ⟨?_, ?_⟩, fun hk => ⟨?_, ?_⟩⟩
  all_goals rw [State.takeDeferred, takeCharge_eq (u := u) hn hb (Nat.one_le_iff_ne_zero.mp hstep), ← hstart]
  · exact hlog
  · exact (latched_port hlatch (htank k hk).1).request _ _
  · exact (htank k hk).2
  · exact (latched_trans hlatch (latched_event (hwait hk).1)).request _ _
  · exact (hwait hk).2

end Starts
end Sys2Proof.Machine


/-! SUPPORT. A line told once of its coverage, among all that an operation of the hold map tells. -/

namespace Sys2Proof.Machine

section Told

variable {s t u v : State} {l : LineId} {m : HoldMap} {p : Port} {code : Nat}

/-! ### A line told of its coverage, whatever its place among those told (R116) -/

/-- What is latched stays so through operations at the lines. -/
theorem AllLatched.steady {events : EventSet} (h : AllLatched s events) (hs : Steady s t) : AllLatched t events := by
  intro q
  rw [← (hs.ports q).latches]
  refine BitVec.eq_of_getLsbD_eq fun i _ => ?_
  have hi := congrArg (BitVec.getLsbD · i) (h q)
  simp only [BitVec.getLsbD_and, BitVec.getLsbD_or] at hi ⊢
  cases he : events.getLsbD i
  · exact Bool.and_false _
  · rw [he, Bool.and_true] at hi
    rw [hi]
    rfl

/-- `v` is the state in which a line of `s` is told that the map `m` stands, on the way to `t`. -/
structure Tells (l : LineId) (m : HoldMap) (s v t : State) : Prop where
  before : SameLine l s v
  steady : Steady s v
  holds : v.holds = m
  told : SameLine l (v.tellLine l) t
  latches : ∀ events, AllLatched (v.tellLine l) events → AllLatched t events

theorem SameLine.refl (l : LineId) (s : State) : SameLine l s s := ⟨rfl, rfl, rfl, rfl, rfl, rfl⟩

theorem tellLines_tells {ls : List LineId} (hn : ls.Nodup) (hl : l ∈ ls) (u : State) :
    ∃ v, Tells l u.holds u v (u.tellLines ls) := by
  induction ls generalizing u with
  | nil => exact absurd hl List.not_mem_nil
  | cons j ls ih =>
    obtain ⟨hj, hn⟩ := List.nodup_cons.mp hn
    by_cases hlj : l = j
    · subst hlj
      obtain ⟨hsteady, -, -, hsame⟩ := tellLines_steady (u.tellLine l) ls
      exact ⟨u, SameLine.refl l u, Steady.refl u, rfl, hsame l hj,
        fun events h => h.steady hsteady⟩
    · have hon := (LineOnly.refl j u).tellLine
      obtain ⟨v, hv⟩ := ih hn ((List.mem_cons.mp hl).resolve_left hlj) (u.tellLine j)
      exact ⟨v, (hon.lines l hlj).trans hv.before, hon.steady.trans hv.steady, hv.holds.trans hon.holds, hv.told,
        hv.latches⟩

/-- An operation that changes a line's coverage tells it once. -/
theorem holdOperation_tells (h : m.covers l ≠ u.covered l) :
    ∃ v, Tells l m u v (u.holdOperation m) := by
  have hm : m ≠ u.holds := fun hm => h (by rw [hm]; rfl)
  rw [State.holdOperation, if_neg hm]
  obtain ⟨v, hv⟩ := tellLines_tells (l := l) (nodup_tellOrder (n := u.tellCount) (LineId.nodup_all.filter _))
    (mem_tellOrder.mpr (mem_changedLines.mpr h.symm)) ({ u with holds := m, tellCount := u.tellCount + 1 } : State)
  exact ⟨v, hv.before, ⟨hv.steady.settings, hv.steady.clock, hv.steady.ports⟩, hv.holds, hv.told, fun events hev =>
    (hv.latches events hev).steady ((LineOnly.refl l _).latchAll _).steady⟩

/-- A hold request that changes a line's coverage tells it once. -/
theorem holdAnswered_tells (h : m.covers l ≠ s.covered l) :
    ∃ v, Tells l m (s.restartSilence p) v (s.holdAnswered p code m) := by
  obtain ⟨v, hv⟩ := holdOperation_tells (u := s.restartSilence p) h
  exact ⟨v, hv.before, hv.steady, hv.holds, hv.told, fun events hev q => by
    rw [State.holdAnswered, respond_latches]
    exact hv.latches events hev q⟩

/-! ### Becoming covered, by the line's state (R21) -/

theorem becomeCovered_working {r : Resume} (hs : u.lineState l = r.lineState) : u.becomeCovered l = u.holdLine l r := by
  cases r <;> rw [State.becomeCovered, hs] <;> rfl

theorem becomeCovered_waiting (hs : u.lineState l = .held) (hw : (u.seq.get l).waitHold = false) :
    u.becomeCovered l = u.addHold l := by
  rw [State.becomeCovered, hs]
  exact if_neg (by simp [hw])

theorem becomeCovered_testing (hs : u.lineState l = .testing) : u.becomeCovered l = u.endTest l .cancelled := by
  rw [State.becomeCovered, hs]

theorem becomeCovered_idle (h1 : u.lineState l ≠ .charging) (h2 : u.lineState l ≠ .injecting)
    (h3 : u.lineState l ≠ .held) (h4 : u.lineState l ≠ .testing) : u.becomeCovered l = u := by
  unfold State.becomeCovered
  cases hs : u.lineState l <;> simp_all

/-- A write of 0 outside a burst leaves the rate steps 0 and pauses the stroke (R31, R36). -/
theorem DriveFits.writeZero_eq {q : Sequencer} {d : Drive} (h : DriveFits q d) (hb : d.burst = none) :
    d.writeZero =
      { d with rate := 0, pendingRate := 0, stroke := d.stroke.map fun k => { k with running := false } } := by
  unfold Drive.writeZero
  split
  · rename_i hr
    have hz := h.zero hb hr
    have hstroke : (d.stroke.map fun k => { k with running := false }) = d.stroke := by
      cases hk : d.stroke with
      | none => rfl
      | some k =>
        have hrun : k.running = false := by
          by_contra hrun
          rw [Bool.not_eq_false] at hrun
          have hc : k.purpose ≠ .circulate := fun hc => by
            have := h.stroke k hk
            simp [strokeFits, hc, hb] at this
          have := h.running k hk hrun hc
          omega
        rw [Option.map_some, ← hrun]
    rw [hstroke, ← hz]
    cases d
    simp_all
  · rfl

/-- A line at work that becomes covered: HELD with HOLD, its piston paused (R21, R36, R39, R64, R129). -/
theorem becomeCovered_pauses {r : Resume} (hs : u.lineState l = r.lineState) (hd : DriveFits (u.seq.get l) (u.drive.get l)) :
    u.becomeCovered l =
      (((u.updSeq l fun q => { q.heldAs u r with waitHold := true }).updDrive l fun d =>
        { d with
          rate := 0, pendingRate := 0, stroke := d.stroke.map fun k => { k with running := false }
          staticTimer := u.staticStart l }).updReg l Regulator.standing).updRec l fun k =>
        { k with holdEpisodes := min 65535 (k.holdEpisodes + 1) } := by
  have hb : (u.drive.get l).burst = none :=
    hd.burst_none (by rw [show (u.seq.get l).state = r.lineState from hs]; cases r <;> rfl)
  rw [becomeCovered_working hs, holdLine_eq hb]
  refine congrArg (fun v : State => (v.updReg l _).updRec l _) (updDrive_congr ?_)
  rw [State.updSeq_drive, hd.writeZero_eq hb]

/-! ### The end of a test (R11) -/

/-- A line whose test has ended, before the request in its slot is looked at (R11). -/
def State.testOver (u : State) (l : LineId) (ending : TestEnd) : State :=
  (((u.updDrive l fun _ => restDrive).updSeq l fun q =>
    { q with state := .seated, settled := true, testTimer := none, testDuration := none }).updReg l fun g =>
    { g.clearTest.arm with excursionStop := false }).updRec l fun r =>
    { r with test := (u.testOutcome l ending).or r.test }

theorem endTest_runSlot (h : ∀ k ∈ (u.drive.get l).stroke, k.purpose.isGrout = false) (ending : TestEnd) :
    u.endTest l ending = (u.testOver l ending).runSlot l .testEnd := by
  unfold State.endTest State.testOver
  rw [stopDrive_of_not_grout h]
  dsimp only
  refine congrArg (fun v : State => v.runSlot l .testEnd) ?_
  cases u.testOutcome l ending with
  | none => exact (updRec_id _ l).symm
  | some t => rfl

/-- The test of a covered line leaves the slot, a CHARGE dropped from it (R18 to R20). -/
theorem runSlot_testEnd_covered (hc : u.covered l = true) :
    u.runSlot l .testEnd =
      if (u.seq.get l).slot = some .charge then (u.updSeq l fun q => { q with slot := none }).latchAll .pendingDropped
      else u := by
  unfold State.runSlot
  split
  · next hn => rw [if_neg (by simp [hn])]
  · next req hreq =>
    rw [hreq]
    cases req with
    | charge => simp [PendingReq.runsAt, State.dropsAtRun, hc]
    | seat _ | test _ _ | inject => simp [PendingReq.runsAt]

theorem DriveFits.test_stroke {q : Sequencer} {d : Drive} (h : DriveFits q d) (hs : q.state = .testing) :
    ∀ k ∈ d.stroke, k.purpose.isGrout = false := by
  intro k hk
  have hf := h.stroke k hk
  cases hp : k.purpose <;> simp_all [strokeFits, StrokePurpose.isGrout]

end Told
end Sys2Proof.Machine


/-! PROOF of O25. A line that a HOLD covers, by its state. -/

namespace Sys2Proof.Machine

section Covered

variable {s t u v : State} {l : LineId} {p : Port} {b : Byte}

theorem ofByte_pos (h : (LineSet.ofByte b).get l = true) (hb : b.toNat ≤ 63) : 1 ≤ b.toNat := by
  by_contra h0
  have hz : b = 0 := BitVec.eq_of_toNat_eq (by simp; omega)
  subst hz
  cases l <;> exact absurd h (by decide)

/-- A HOLD that covers a line tells it, in a state in which the line is as it was. -/
theorem hold_tells (hb : b.toNat ≤ 63) (hl : (LineSet.ofByte b).get l = true) (hc : s.covered l = false)
    (hfree : s.free p) :
    ∃ v t, exec (.hold p b) s = .next t ∧ v.covered l = true ∧ SameLine l s v ∧ SameSettings s v ∧ SameClock s v ∧
      SameLine l (v.becomeCovered l) t ∧ (∀ events, AllLatched (v.becomeCovered l) events → AllLatched t events) := by
  have hmerged : (s.holds.merge (requestKey p) (.ofByte b) s.stamp).covers l = true := by
    rw [covers_merge_eq, hl, Bool.or_true]
  obtain ⟨v, hv⟩ := holdAnswered_tells (s := s) (p := p) (code := 0x10) (l := l)
    (m := s.holds.merge (requestKey p) (.ofByte b) s.stamp) (by rw [hmerged, hc]; exact Bool.noConfusion)
  have hcov : v.covered l = true := by rw [State.covered, hv.holds, hmerged]
  have htold := hv.told
  have hlatch := hv.latches
  rw [tellLine_of_covered hcov] at htold hlatch
  exact ⟨v, _, exec_hold hfree (ofByte_pos hl hb) hb, hcov, hv.before, hv.steady.settings, hv.steady.clock, htold, hlatch⟩

/-! ### A line at work covered, in the terms of the state before (R21, R36, R39, R64, R129) -/

theorem heldAs_congr (hset : SameSettings s v) (hclock : SameClock s v) (q : Sequencer) (r : Resume) :
    q.heldAs v r = q.heldAs s r := by
  obtain ⟨-, -, -, -, henv, -⟩ := hset
  obtain ⟨-, -, hrun, -⟩ := hclock
  rw [Sequencer.heldAs, Sequencer.heldAs, henv, hrun]

theorem staticStart_congr (hset : SameSettings s v) (hseq : v.seq.get l = s.seq.get l) :
    v.staticStart l = s.staticAfresh (s.seq.get l).holdsGrout := by
  obtain ⟨-, -, -, htiming, -⟩ := hset
  rw [State.staticStart, hseq, htiming]
  rfl

/-- What a HOLD makes of a line at work (R21, R36, R39, R64, R129). -/
structure Paused (l : LineId) (r : Resume) (s t : State) : Prop where
  seq : t.seq.get l = { (s.seq.get l).heldAs s r with waitHold := true }
  drive : t.drive.get l =
    { s.drive.get l with
      rate := 0
      pendingRate := 0
      stroke := (s.drive.get l).stroke.map fun k => { k with running := false }
      staticTimer := s.staticAfresh (s.seq.get l).holdsGrout }
  reg : t.reg.get l = (s.reg.get l).standing
  openRec : t.openRec.get l =
    (s.openRec.get l).map fun r => { r with holdEpisodes := min 65535 (r.holdEpisodes + 1) }

theorem SameLine.paused {r : Resume} (hbefore : SameLine l s v) (hset : SameSettings s v) (hclock : SameClock s v)
    (hs : (s.seq.get l).state = r.lineState) (hinv : s.LineInv l) (htold : SameLine l (v.becomeCovered l) t) :
    Paused l r s t := by
  obtain ⟨hseq, hdrive, hreg, hrec, -⟩ := hbefore
  obtain ⟨tseq, tdrive, treg, trec, -⟩ := htold
  have hd : DriveFits (v.seq.get l) (v.drive.get l) := by
    rw [hseq, hdrive]
    exact (lineInv_iff.mp hinv).2
  rw [becomeCovered_pauses (r := r) (by rw [State.lineState, hseq, hs]) hd] at tseq tdrive treg trec
  simp only [State.updRec_seq, State.updReg_seq, State.updDrive_seq, State.updSeq_seq, PerLine.get_upd_self,
    State.updRec_drive, State.updReg_drive, State.updDrive_drive, State.updSeq_drive, State.updRec_reg, State.updReg_reg,
    State.updDrive_reg, State.updSeq_reg, State.updRec_openRec, State.updReg_openRec, State.updDrive_openRec,
    State.updSeq_openRec, hseq, hdrive, hreg, hrec, heldAs_congr hset hclock, staticStart_congr hset hseq]
    at tseq tdrive treg trec
  exact ⟨tseq, tdrive, treg, trec⟩

/-- The end of the test of a line that becomes covered (R11, R19, R21). -/
theorem becomeCovered_test (hs : u.lineState l = .testing) (hc : u.covered l = true)
    (hd : DriveFits (u.seq.get l) (u.drive.get l)) :
    u.becomeCovered l =
      if (u.seq.get l).slot = some .charge then
        ((u.testOver l .cancelled).updSeq l fun q => { q with slot := none }).latchAll .pendingDropped
      else u.testOver l .cancelled := by
  rw [becomeCovered_testing hs, endTest_runSlot (hd.test_stroke hs), runSlot_testEnd_covered (by exact hc)]
  simp [State.testOver]

theorem testOver_cancelled (u : State) (l : LineId) :
    u.testOver l .cancelled =
      ((u.updDrive l fun _ => restDrive).updSeq l fun q =>
        { q with state := .seated, settled := true, testTimer := none, testDuration := none }).updReg l fun g =>
        { g.clearTest.arm with excursionStop := false } :=
  updRec_id _ l

/-- Settles O25: the HOLD tells the line once, and what it then does is read off its state. -/
theorem holdActsByTheLineState : Obligations.HoldActsByTheLineState := by
  intro s p b l hfree hb hl hc hinv
  obtain ⟨v, t, hexec, hcov, hbefore, hset, hclock, htold, hlatch⟩ := hold_tells hb hl hc hfree
  have hd := (lineInv_iff.mp hinv).2
  refine ⟨t, hexec, fun hs => ?_, fun hs => ?_, fun hs => ?_, fun hs => ?_, fun h1 h2 h3 h4 => ?_⟩
  · obtain ⟨h1, h2, h3, h4⟩ := hbefore.paused (r := .charging) hset hclock hs hinv htold
    exact ⟨h1, h2, h3, h4⟩
  · obtain ⟨h1, h2, h3, h4⟩ := hbefore.paused (r := .injecting) hset hclock hs hinv htold
    exact ⟨h1, h2, h3, h4⟩
  all_goals
    obtain ⟨hseq, hdrive, hreg, hrec, -⟩ := id hbefore
  · have hw : (s.seq.get l).waitHold = false := by rw [hinv.hold, hc, Bool.and_false]
    obtain ⟨tseq, tdrive, treg, trec, -⟩ := htold
    rw [becomeCovered_waiting (by rw [State.lineState, hseq, hs]) (by rw [hseq, hw])] at tseq tdrive treg trec
    simp only [State.addHold, State.updRec_seq, State.updSeq_seq, PerLine.get_upd_self, State.updRec_openRec,
      State.updSeq_openRec, hseq, hrec] at tseq trec
    exact ⟨tseq, tdrive.trans hdrive, treg.trans hreg, trec⟩
  · obtain ⟨tseq, tdrive, treg, trec, -⟩ := htold
    rw [becomeCovered_test (by rw [State.lineState, hseq, hs]) hcov (by rw [hseq, hdrive]; exact hd), hseq]
      at tseq tdrive treg trec hlatch
    have hreg' : (v.testOver l .cancelled).reg.get l =
        { (s.reg.get l).clearTest with watchArmed := true, baseline := none, excursionStop := false } := by
      rw [testOver_cancelled, ← hreg]
      exact PerLine.get_upd_self _ _ _
    have hdrive' : (v.testOver l .cancelled).drive.get l = restDrive := by
      rw [testOver_cancelled]
      exact PerLine.get_upd_self _ _ _
    have hrec' : (v.testOver l .cancelled).openRec.get l = s.openRec.get l := by
      rw [testOver_cancelled]
      exact hrec
    have hseq' : (v.testOver l .cancelled).seq.get l =
        { s.seq.get l with state := .seated, settled := true, testTimer := none, testDuration := none } := by
      rw [testOver_cancelled, ← hseq]
      exact PerLine.get_upd_self _ _ _
    by_cases hslot : (s.seq.get l).slot = some .charge
    · rw [if_pos hslot] at tseq tdrive treg trec hlatch
      refine ⟨?_, tdrive.trans hdrive', treg.trans hreg', trec.trans hrec', fun _ => hlatch _ (allLatched_latchAll _ _)⟩
      rw [tseq, State.latchAll_seq, State.updSeq_seq, PerLine.get_upd_self, hseq', if_pos hslot]
    · rw [if_neg hslot] at tseq tdrive treg trec hlatch
      refine ⟨?_, tdrive.trans hdrive', treg.trans hreg', trec.trans hrec', fun hc => absurd hc hslot⟩
      rw [tseq, hseq', if_neg hslot]
  · rw [becomeCovered_idle (by rwa [State.lineState, hseq]) (by rwa [State.lineState, hseq]) (by rwa [State.lineState, hseq])
      (by rwa [State.lineState, hseq])] at htold
    exact hbefore.trans htold

end Covered
end Sys2Proof.Machine


/-! PROOF of O44. The stroke that a CHARGE completion left to start. -/

namespace Sys2Proof.Machine

section Owed

variable {s t u v : State} {l : LineId} {p : Port} {b : Byte}

/-! ### What a HOLD leaves of the tanks (R21) -/

theorem abandonStroke_currentTank (u : State) (l : LineId) : (u.abandonStroke l).currentTank = u.currentTank := by
  unfold State.abandonStroke
  split
  · rfl
  · split <;> rfl

theorem runSlot_testEnd_currentTank (h : u.covered l = true) : (u.runSlot l .testEnd).currentTank = u.currentTank := by
  rw [runSlot_testEnd_covered h]
  split <;> rfl

theorem endTest_currentTank (h : u.covered l = true) (ending : TestEnd) :
    (u.endTest l ending).currentTank = u.currentTank := by
  have hcov : (u.stopDrive l).covered l = true := (((LineOnly.refl l u).stopDrive).covered l).trans h
  unfold State.endTest
  dsimp only
  refine Eq.trans (runSlot_testEnd_currentTank ?_) ?_
  · split <;> exact hcov
  · split <;> exact abandonStroke_currentTank u l

theorem writeRate_zero_currentTank (u : State) (l : LineId) : (u.writeRate l 0 none).currentTank = u.currentTank := by
  unfold State.writeRate
  dsimp only
  split <;> rfl

theorem becomeCovered_currentTank (h : u.covered l = true) : (u.becomeCovered l).currentTank = u.currentTank := by
  unfold State.becomeCovered
  split
  · exact writeRate_zero_currentTank _ l
  · exact writeRate_zero_currentTank _ l
  · split <;> rfl
  · exact endTest_currentTank h _
  iterate 6 rfl

/-- A HOLD takes no tank, and takes no line off its tank. -/
theorem hold_tanks (hfree : s.free p) (hb : b.toNat ≤ 63) (hexec : exec (.hold p b) s = .next t)
    (hlow : 1 ≤ b.toNat) : t.tanks = s.tanks ∧ t.currentTank = s.currentTank := by
  have ht := Host.Outcome.next.inj ((exec_hold hfree hlow hb).symm.trans hexec)
  subst ht
  obtain ⟨⟨htanks, -⟩, -⟩ := sameSupply_of_stores
    (holdOperation_merge_stores (s.restartSilence p) (requestKey p) (.ofByte b) s.stamp)
  refine ⟨htanks, PerLine.ext_get fun k => ?_⟩
  by_cases hk : (s.holds.merge (requestKey p) (.ofByte b) s.stamp).covers k = s.covered k
  · obtain ⟨-, -, -, -, hcur, -⟩ := holdAnswered_sameLine (p := p) (code := 0x10) hk
    exact hcur
  · obtain ⟨v, hv⟩ := holdAnswered_tells (p := p) (code := 0x10) hk
    have hcov : v.covered k = true := by
      rw [State.covered, hv.holds]
      refine covers_of_mem_changedLines (mem_changedLines.mpr fun h => hk h.symm) fun hc => covers_merge hc _ _ _
    obtain ⟨-, -, -, -, hcur, -⟩ := hv.told
    obtain ⟨-, -, -, -, hbefore, -⟩ := hv.before
    rw [tellLine_of_covered hcov, becomeCovered_currentTank hcov] at hcur
    exact hcur.trans hbefore

/-! ### The stroke that a completion left to start (R35, log 25) -/

theorem find_lowest {f : LineId → Bool} (hl : f l = true) (hlow : ∀ k, k.num < l.num → f k = false) :
    LineId.all.find? f = some l := by
  have hbefore : ∀ k ∈ LineId.all.take (l.num - 1), k.num < l.num := by cases l <;> decide
  have hsplit : LineId.all = LineId.all.take (l.num - 1) ++ l :: LineId.all.drop l.num := by cases l <;> rfl
  exact List.find?_eq_some_iff_append.mpr ⟨hl, _, _, hsplit, fun k hk => by rw [hlow k (hbefore k hk)]; rfl⟩

theorem idle_of_owed (hd : ∀ i, ¬s.IsDue i) (ho : s.Owes l) (hlow : ∀ k, k.num < l.num → ¬s.Owes k) :
    s.idle = s.startStroke l none := by
  have hdue : s.due = [] := List.eq_nil_iff_forall_not_mem.mpr fun i hi => hd i (s.mem_due.mp hi)
  have hfind : LineId.all.find? s.owesStroke = some l :=
    find_lowest (owesStroke_iff.mpr ho) fun k hk => by
      rw [Bool.eq_false_iff]
      exact fun h => hlow k hk (owesStroke_iff.mp h)
  obtain ⟨-, -, hp, hn, hb, hx⟩ := ho
  rw [State.idle, hdue]
  simp only [hfind]
  rw [State.nextStroke]
  simp [hp, hn, hb, hx]

/-- Settles O44: the idle step is the stroke start of the lowest line that owes one; a HOLD before it finds the line in
CHARGING without a stroke. -/
theorem owedChargeStrokesStartUnlessHeld : Obligations.OwedChargeStrokesStartUnlessHeld := by
  intro s l ho mix hmix
  obtain ⟨hs, -, hp, hn, hb, hx⟩ := id ho
  refine ⟨fun hpend hd hlow => ⟨s.startStroke l none, ?_, ?_⟩, fun p b hfree hb63 hl hc hinv => ?_⟩
  · rw [step, hpend]
    exact congrArg Host.Outcome.next (idle_of_owed hd ho hlow)
  · obtain ⟨hlog, htank, hwait⟩ := startStroke_outcome (r := .charging) hp hb hn hs hmix
    refine ⟨((LineOnly.refl l s).startStroke none).onlyLine, hlog, fun howes => ?_, fun k hk => ?_, fun hk => ?_⟩
    · obtain ⟨hs', -, -, hn', -⟩ := howes
      cases hk : s.selectTank l mix (s.strokeVolume l) with
      | none =>
        obtain ⟨-, -, -, hseq, -⟩ := hwait hk
        rw [State.lineState, hseq] at hs'
        cases hs'
      | some k =>
        obtain ⟨-, -, -, hdrive, -⟩ := htank k hk
        rw [hdrive] at hn'
        cases hn'
    · exact ⟨latched_nothing (htank k hk).1, (htank k hk).2⟩
    · exact ⟨latched_event (hwait hk).1, (hwait hk).2⟩
  · obtain ⟨v, t, hexec, -, hbefore, hset, hclock, htold, -⟩ := hold_tells hb63 hl hc hfree
    have hpaused := hbefore.paused (r := .charging) hset hclock hs hinv htold
    obtain ⟨htanks, hcur⟩ := hold_tanks hfree hb63 hexec (ofByte_pos hl hb63)
    have hheld : t.lineState l = .held := by
      rw [State.lineState, hpaused.seq]
      rfl
    refine ⟨t, hexec, ?_, hheld, hpaused.openRec, htanks, hcur, fun howes => ?_⟩
    · rw [hpaused.drive]
      simp [hn]
    · obtain ⟨hs', -⟩ := howes
      rw [hheld] at hs'
      cases hs'

end Owed
end Sys2Proof.Machine


/-! SUPPORT. A line that leaves HELD. -/

namespace Sys2Proof.Machine

section LeaveHeld

variable {s t u v : State} {l : LineId} {r : Resume} {x : Nat} {k : TankId} {mix : Nat}

/-! ### Leaving HELD (R23) -/

/-- A line that has left HELD for its resume state, before its drive is told to go on (R23 steps 1 to 4). -/
def State.leftHeld (u : State) (l : LineId) (r : Resume) : State :=
  (((u.updRec l fun x => { x with heldSeconds := x.heldSeconds + u.heldNow l }).updSeq l fun q =>
    { q.resumed r with heldSince := none }).updDrive l fun d => { d with staticTimer := .stopped }).updReg l
    Regulator.outOfHeld

theorem addHeld_eq (hs : u.lineState l = .held) :
    u.addHeld l =
      (u.updRec l fun x => { x with heldSeconds := x.heldSeconds + u.heldNow l }).updSeq l fun q =>
        { q with heldSince := none } := by
  unfold State.addHeld State.heldNow
  rw [if_pos hs]
  split
  · rename_i hn
    rw [hn, Option.getD_none, Nat.sub_self]
    have hrec : (u.updRec l fun x => { x with heldSeconds := x.heldSeconds + 0 }) = u := updRec_id u l
    rw [hrec, updSeq_eq_self]
    rw [← hn]
  · rename_i since hsome
    rw [hsome]
    rfl

theorem leaveHeld_eq (hs : u.lineState l = .held) (hr : (u.seq.get l).resume = some r) (given : Option TankId) :
    u.leaveHeld l given = (u.leftHeld l r).writeRate l (u.rateOf r) given := by
  have hrate : u.resumeRate r = u.rateOf r := by cases r <;> rfl
  unfold State.leaveHeld State.leftHeld
  rw [hr, addHeld_eq hs, ← hrate]
  dsimp only
  rw [updSeq_updSeq]
  rfl

theorem leftHeld_seq (hw : (u.seq.get l).waitHold = false) (hp : (u.seq.get l).waitSupply = false) :
    (u.leftHeld l r).seq.get l = (u.seq.get l).outOfHeld r := by
  simp only [State.leftHeld, State.updReg_seq, State.updDrive_seq, State.updSeq_seq, PerLine.get_upd_self,
    State.updRec_seq, Sequencer.outOfHeld, Sequencer.resumed, hw, hp]
  cases r <;> rfl

theorem leftHeld_drive (u : State) (l : LineId) (r : Resume) :
    (u.leftHeld l r).drive.get l = { u.drive.get l with staticTimer := .stopped } := by
  simp [State.leftHeld]

theorem leftHeld_reg (u : State) (l : LineId) (r : Resume) : (u.leftHeld l r).reg.get l = (u.reg.get l).outOfHeld := by
  simp [State.leftHeld]

theorem leftHeld_openRec (u : State) (l : LineId) (r : Resume) : (u.leftHeld l r).openRec.get l = u.stayAdded l := by
  simp [State.leftHeld, State.stayAdded]

theorem LineOnly.leftHeld (h : LineOnly l s u) (r : Resume) : LineOnly l s (u.leftHeld l r) :=
  (((h.updRec _).updSeq _).updDrive _).updReg _

/-- A write on a drive at rest with a purpose starts a stroke (R31, R33). -/
theorem writeRate_stopped (hn : (u.drive.get l).stroke = none) (hb : (u.drive.get l).burst = none) (hx : x ≠ 0)
    (hp : (u.drive.get l).purpose ≠ .none) (given : Option TankId) :
    u.writeRate l x given = (u.updDrive l fun d => { d with pendingRate := x }).startStroke l given := by
  unfold State.writeRate
  simp [hn, hb, hx, hp, Drive.isRunning]

theorem DriveFits.held_purpose {q : Sequencer} {d : Drive} (h : purposeFits q d.purpose = true) (hs : q.state = .held)
    (hr : q.resume = some r) : d.purpose = r.purpose := by
  cases hd : d.purpose <;> cases r <;> simp_all [purposeFits, Resume.purpose]

theorem Resume.purpose_ne_none (r : Resume) : r.purpose ≠ .none := by cases r <;> decide

/-- A paused stroke in HELD is one of grout, and stands (R21, R36). -/
theorem DriveFits.held_stroke {q : Sequencer} {d : Drive} (h : DriveFits q d) (hs : q.state = .held)
    (hb : d.burst = none) {j : Stroke} (hj : d.stroke = some j) : j.running = false := by
  have hf := h.stroke j hj
  cases hp : j.purpose <;> simp_all [strokeFits]

/-- A line that leaves HELD with its piston paused runs on at the resume rate (R23, R36). -/
theorem leaveHeld_paused (hs : u.lineState l = .held) (hr : (u.seq.get l).resume = some r)
    (hd : DriveFits (u.seq.get l) (u.drive.get l)) (hb : (u.drive.get l).burst = none) (hx : 0 < u.rateOf r) {j : Stroke}
    (hj : (u.drive.get l).stroke = some j)
    (hw : ∀ w ∈ (u.drive.get l).watch, w < 3 * ((u.lineTable.get l).tmin * 15 / u.rateOf r)) :
    u.leaveHeld l none =
      (u.leftHeld l r).updDrive l fun d =>
        { d with
          rate := u.rateOf r
          pendingRate := u.rateOf r
          stroke := some { j with running := true, period := (u.lineTable.get l).tmin * 15 / u.rateOf r } } := by
  rw [leaveHeld_eq hs hr]
  have hpurpose := DriveFits.held_purpose hd.purpose hs hr
  exact writeRate_paused (u := u.leftHeld l r) (by rw [leftHeld_drive]; exact hb)
    (by rw [leftHeld_drive, hpurpose]; exact r.purpose_ne_none) (by rw [leftHeld_drive]; exact hj) (hd.held_stroke hs hb hj) hx
    (by rw [leftHeld_drive]; exact hw)

/-- A line that leaves HELD without a stroke begins one (R23, R33). -/
theorem leaveHeld_starts (hs : u.lineState l = .held) (hr : (u.seq.get l).resume = some r)
    (hp : purposeFits (u.seq.get l) (u.drive.get l).purpose = true) (hb : (u.drive.get l).burst = none)
    (hx : 0 < u.rateOf r) (hn : (u.drive.get l).stroke = none) (given : Option TankId) :
    u.leaveHeld l given =
      ((u.leftHeld l r).updDrive l fun d => { d with pendingRate := u.rateOf r }).startStroke l given := by
  rw [leaveHeld_eq hs hr, writeRate_stopped (by rw [leftHeld_drive]; exact hn) (by rw [leftHeld_drive]; exact hb) (by omega)]
  rw [leftHeld_drive, DriveFits.held_purpose hp hs hr]
  exact r.purpose_ne_none

/-- What the stroke start of a line that leaves HELD comes to (R22, R23, R33, R101, R106). -/
theorem leaveHeld_outcome (hs : u.lineState l = .held) (hr : (u.seq.get l).resume = some r)
    (hp : purposeFits (u.seq.get l) (u.drive.get l).purpose = true) (hb : (u.drive.get l).burst = none)
    (hx : 0 < u.rateOf r) (hn : (u.drive.get l).stroke = none) (hm : (u.seq.get l).currentMix = some mix)
    (hw : (u.seq.get l).waitHold = false) (hsupply : (u.seq.get l).waitSupply = false) :
    SameLog u (u.leaveHeld l none) ∧
    (∀ k ∈ u.selectTank l mix (u.strokeVolume l), (u.leaveHeld l none).port = u.port ∧
      GroutStarts u (u.leaveHeld l none) l r k (u.rateOf r) ((u.seq.get l).outOfHeld r) .stopped (u.reg.get l).outOfHeld
        (u.stayAdded l)) ∧
    (u.selectTank l mix (u.strokeVolume l) = none →
      (u.leaveHeld l none).port = (u.latchAll .supplyWait).port ∧
      SupplyWaits u (u.leaveHeld l none) l r mix ((u.seq.get l).outOfHeld r) (u.drive.get l) (u.reg.get l).outOfHeld
        (u.stayAdded l)) := by
  rw [leaveHeld_starts hs hr hp hb hx hn]
  set w := (u.leftHeld l r).updDrive l fun d => { d with pendingRate := u.rateOf r } with hw'
  have hseq : w.seq.get l = (u.seq.get l).outOfHeld r := leftHeld_seq hw hsupply
  have hdrive : w.drive.get l = { u.drive.get l with staticTimer := .stopped, pendingRate := u.rateOf r } := by
    rw [hw', State.updDrive_drive, PerLine.get_upd_self, leftHeld_drive]
  have hreg : w.reg.get l = (u.reg.get l).outOfHeld := leftHeld_reg u l r
  have hrec : w.openRec.get l = u.stayAdded l := leftHeld_openRec u l r
  obtain ⟨hlog, htank, hwait⟩ := startStroke_outcome (u := w) (r := r) (mix := mix)
    (by rw [hdrive]; exact DriveFits.held_purpose hp hs hr) (by rw [hdrive]; exact hb) (by rw [hdrive]; exact hn)
    (by rw [State.lineState, hseq]; cases r <;> rfl) (by rw [hseq]; exact hm)
  rw [hseq, hdrive, hreg, hrec] at htank hwait
  exact ⟨hlog, htank, hwait⟩

end LeaveHeld
end Sys2Proof.Machine


/-! PROOF of O27. A line that a release uncovers. -/

namespace Sys2Proof.Machine

section Release

variable {s t u v : State} {l : LineId} {p : Port} {b : Byte} {m : HoldMap} {key : HoldKey} {lines : LineSet} {r : Resume}

/-! ### Coverage after a release (R116, R118) -/

theorem LineSet.get_of_isEmpty {a : LineSet} (h : a.isEmpty = true) (l : LineId) : a.get l = false := by
  simp only [LineSet.isEmpty, PerLine.toList, List.any_cons, List.any_nil, id, Bool.not_eq_true', Bool.or_eq_false_iff] at h
  obtain ⟨h1, h2, h3, h4, h5, h6, -⟩ := h
  cases l <;> assumption

theorem holdsLine_released (e : Option HoldEntry) (lines : LineSet) (l : LineId) :
    holdsLine (releaseEntry e lines) l = (holdsLine e l && !lines.get l) := by
  cases e with
  | none => rfl
  | some e =>
    have hdiff : (e.lines.diff lines).get l = (e.lines.get l && !lines.get l) := PerLine.get_mapIdx _ _ _
    rw [releaseEntry]
    split
    · next hempty => exact (LineSet.get_of_isEmpty hempty l).symm.trans hdiff
    · exact hdiff

/-- A line that no other entry holds is uncovered by its release. -/
theorem covers_release_false (hl : lines.get l = true) (hothers : ∀ k, k ≠ key → ∀ f ∈ m.get k, f.lines.get l = false) :
    (m.release key lines).covers l = false := by
  rw [Bool.eq_false_iff]
  intro hc
  obtain ⟨k, -, hk⟩ := covers_iff.mp hc
  rw [HoldMap.release, holdMap_get_set] at hk
  split at hk
  · rw [holdsLine_released, hl] at hk
    simp at hk
  · next hne =>
    cases he : m.get k with
    | none =>
      rw [he] at hk
      cases hk
    | some f =>
      rw [he] at hk
      rw [holdsLine, hothers k hne f he] at hk
      cases hk

/-- A release leaves the coverage of the lines it does not name. -/
theorem covers_release_of_not (hl : lines.get l = false) : (m.release key lines).covers l = m.covers l := by
  have hkey : ∀ k, holdsLine ((m.release key lines).get k) l = holdsLine (m.get k) l := by
    intro k
    rw [HoldMap.release, holdMap_get_set]
    split
    · next hk => rw [holdsLine_released, hl, hk, Bool.not_false, Bool.and_true]
    · rfl
  simp only [HoldMap.covers, hkey]

/-- The two requests that release, as one operation answered (R118, R119). -/
theorem exec_release {i : Instr} {reason : Nat} (h : s.free p) (hb : b.toNat ≤ 63)
    (hi : i = .releaseHold p reason b ∧ 1 ≤ reason ∧ reason ≤ 5 ∧ releaseKey p reason = some key ∨
      i = .releaseConnection p b ∧ p = .gallery ∧ key = .watch) (hkey : s.holds.get key ≠ none) :
    ∃ code, exec i s = .next (s.holdAnswered p code (s.holds.release key (.ofByte b))) := by
  rcases hi with ⟨rfl, hlow, hhigh, hk⟩ | ⟨rfl, rfl, rfl⟩
  · refine ⟨0x11, request_release h (mem_anyPort p) (fun u => ?_) hkey⟩
    rw [releaseHoldOwner_accepted hlow hhigh hb, hk]
  · exact ⟨0x12, request_release h (by decide) (releaseConnectionOwner_accepted hb) hkey⟩

/-! ### Becoming uncovered (R21, R23) -/

/-- A line that a hold no longer covers (R21). -/
def State.unheld (u : State) (l : LineId) : State := u.updSeq l fun q => { q with waitHold := false }

theorem unheld_seq (u : State) (l : LineId) : (u.unheld l).seq.get l = { u.seq.get l with waitHold := false } :=
  PerLine.get_upd_self _ _ _

theorem becomeUncovered_eq (hs : u.lineState l = .held) (hw : (u.seq.get l).waitHold = true) :
    u.becomeUncovered l = (u.unheld l).causeRemoved l none := by
  rw [State.becomeUncovered, hs]
  exact if_pos hw

theorem causeRemoved_waiting (h : (u.seq.get l).waitSupply = true) (given : Option TankId) :
    u.causeRemoved l given = u := if_pos (by rw [h, Bool.or_true])

theorem causeRemoved_burst (hw : (u.seq.get l).waitHold = false) (hp : (u.seq.get l).waitSupply = false)
    (hb : (u.drive.get l).burst ≠ none) (given : Option TankId) :
    u.causeRemoved l given = u.updSeq l fun q => { q with resumeAfterBurst := true } := by
  rw [State.causeRemoved, hw, hp, if_neg (by decide), if_pos (Option.isSome_iff_ne_none.mpr hb)]

theorem causeRemoved_leaves (hw : (u.seq.get l).waitHold = false) (hp : (u.seq.get l).waitSupply = false)
    (hb : (u.drive.get l).burst = none) (given : Option TankId) : u.causeRemoved l given = u.leaveHeld l given := by
  rw [State.causeRemoved, hw, hp, hb, if_neg (by decide), if_neg (by decide)]

theorem changedLines_one {before after : HoldMap} (hl : before.covers l ≠ after.covers l)
    (hothers : ∀ k, k ≠ l → before.covers k = after.covers k) : changedLines before after = [l] := by
  have hfilter : changedLines before after = LineId.all.filter (· == l) := by
    refine List.filter_congr fun k _ => ?_
    by_cases hk : k = l
    · subst hk
      simpa using hl
    · simp [hk, hothers k hk]
  rw [hfilter]
  cases l <;> rfl

/-- An operation that changes the coverage of one line is that line told. -/
theorem holdOperation_one (hl : u.covered l ≠ m.covers l) (hothers : ∀ k, k ≠ l → u.covered k = m.covers k) :
    u.holdOperation m =
      (({ u with holds := m, tellCount := u.tellCount + 1 } : State).tellLine l).latchAll .holdChange := by
  have hm : m ≠ u.holds := fun hm => hl (by rw [hm]; rfl)
  rw [State.holdOperation, if_neg hm, changedLines_one hl hothers]
  rfl

/-! ### The release (R23) -/

theorem rateOf_congr (hset : SameSettings s v) (r : Resume) : v.rateOf r = s.rateOf r := by
  obtain ⟨-, -, -, htiming, -⟩ := hset
  rw [State.rateOf, State.rateOf, htiming]

theorem stayAdded_congr (hbefore : SameLine l s v) (hclock : SameClock s v) :
    (v.unheld l).stayAdded l = s.stayAdded l := by
  obtain ⟨hseq, -, -, hrec, -⟩ := hbefore
  obtain ⟨-, -, hrun, -⟩ := hclock
  have hrun' : (v.unheld l).runSeconds = s.runSeconds := hrun
  have hnow : (v.unheld l).heldNow l = s.heldNow l := by
    rw [State.heldNow, State.heldNow, State.lineState, State.lineState, unheld_seq, hseq, hrun']
  rw [State.stayAdded, State.stayAdded, hnow]
  exact congrArg _ hrec

/-- A line that leaves HELD on a release with its piston paused, in the terms of the state before (R23, R36). -/
theorem SameLine.runs_on {k : Stroke} {w : Nat} (hbefore : SameLine l s v) (hset : SameSettings s v) (hclock : SameClock s v)
    (hs : s.lineState l = .held) (hr : (s.seq.get l).resume = some r) (hp : (s.seq.get l).waitSupply = false)
    (hd : DriveFits (s.seq.get l) (s.drive.get l)) (hb : (s.drive.get l).burst = none) (hx : 0 < s.rateOf r)
    (hk : (s.drive.get l).stroke = some k) (hw : (s.drive.get l).watch = some w)
    (hlim : w < 3 * ((s.lineTable.get l).tmin * 15 / s.rateOf r))
    (htold : SameLine l ((v.unheld l).causeRemoved l none) t) :
    t.seq.get l = (s.seq.get l).outOfHeld r ∧ t.reg.get l = (s.reg.get l).outOfHeld ∧ t.openRec.get l = s.stayAdded l ∧
    t.drive.get l =
      { s.drive.get l with
        rate := s.rateOf r
        pendingRate := s.rateOf r
        stroke := some { k with running := true, period := (s.lineTable.get l).tmin * 15 / s.rateOf r }
        staticTimer := .stopped } := by
  obtain ⟨hseq, hdrive, hreg, -, -⟩ := id hbefore
  have vseq : (v.unheld l).seq.get l = { s.seq.get l with waitHold := false } := by rw [unheld_seq, hseq]
  have vdrive : (v.unheld l).drive.get l = s.drive.get l := hdrive
  have hrate : (v.unheld l).rateOf r = s.rateOf r := rateOf_congr hset r
  have htmin : (v.unheld l).lineTable = s.lineTable := hset.1
  have hleft : ((v.unheld l).leftHeld l r).seq.get l = (s.seq.get l).outOfHeld r := by
    rw [leftHeld_seq (by rw [vseq]) (by rw [vseq]; exact hp), vseq]
    rfl
  rw [causeRemoved_leaves (by rw [vseq]) (by rw [vseq]; exact hp) (by rw [vdrive]; exact hb),
    leaveHeld_paused (r := r) (by rw [State.lineState, vseq]; exact hs) (by rw [vseq]; exact hr)
      (by rw [vseq, vdrive]; exact hd.of_view rfl) (by rw [vdrive]; exact hb) (by rw [hrate]; exact hx)
      (by rw [vdrive]; exact hk) (by rw [vdrive, htmin, hrate, hw]; intro j hj; cases hj; exact hlim), htmin, hrate] at htold
  obtain ⟨tseq, tdrive, treg, trec, -⟩ := htold
  refine ⟨tseq.trans hleft, treg.trans ((leftHeld_reg _ l r).trans (congrArg Regulator.outOfHeld hreg)),
    trec.trans ((leftHeld_openRec _ l r).trans (stayAdded_congr hbefore hclock)), ?_⟩
  rw [tdrive, State.updDrive_drive, PerLine.get_upd_self, leftHeld_drive, vdrive]

/-- A hold request that uncovers one line and no other, which leaves HELD (R23, R116). -/
theorem holdAnswered_leaves {code : Nat} (hs : s.lineState l = .held) (hw : (s.seq.get l).waitHold = true)
    (hp : (s.seq.get l).waitSupply = false) (hb : (s.drive.get l).burst = none) (hcov : s.covered l = true)
    (hcov' : m.covers l = false) (hothers : ∀ k, k ≠ l → s.covered k = m.covers k) :
    s.holdAnswered p code m =
      (((({ s.restartSilence p with holds := m, tellCount := s.tellCount + 1 } : State).unheld l).leaveHeld l none).latchAll
        .holdChange).respond p ⟨code, .ok, m.bytes⟩ := by
  have hne : (s.restartSilence p).covered l ≠ m.covers l := by
    rw [hcov']
    exact fun h => Bool.false_ne_true (h.symm.trans hcov)
  rw [State.holdAnswered, holdOperation_one hne hothers, State.tellLine,
    if_neg (by exact fun h => Bool.false_ne_true (hcov'.symm.trans h)), becomeUncovered_eq (by exact hs) (by exact hw),
    causeRemoved_leaves (by rw [unheld_seq]) (by rw [unheld_seq]; exact hp) (by exact hb)]
  rfl

/-- Settles O27: the release tells the line once; a stroke that must wait for supply anew is started in the state in
which the line alone is told. -/
theorem releaseResumesTheLine : Obligations.ReleaseResumesTheLine := by
  intro s p i reason b key l hfree hb hi e he hel hl hothers hinv hs r hr
  set m := s.holds.release key (.ofByte b) with hm
  have hcov : s.covered l = true :=
    covers_iff.mpr ⟨key, HoldKey.mem_all key, by rw [Option.mem_def.mp he]; exact hel⟩
  have hcov' : m.covers l = false := covers_release_false hl hothers
  have hw : (s.seq.get l).waitHold = true := by
    rw [hinv.hold, hcov, show (s.seq.get l).state = .held from hs]
    rfl
  have hdf := (lineInv_iff.mp hinv).2
  obtain ⟨code, hexec⟩ := exec_release hfree hb hi (by rw [Option.mem_def.mp he]; exact Option.some_ne_none e)
  refine ⟨s.holdAnswered p code m, hexec, ?_⟩
  obtain ⟨v, hv⟩ := holdAnswered_tells (s := s) (p := p) (code := code) (l := l) (m := m) (by rw [hcov, hcov']; decide)
  have hbefore : SameLine l s v := hv.before
  obtain ⟨hseq, hdrive, hreg, hrec, -⟩ := id hbefore
  have htold := hv.told
  have hvcov : v.covered l = false := by rw [State.covered, hv.holds, hcov']
  rw [State.tellLine, hvcov, if_neg Bool.false_ne_true, becomeUncovered_eq (by rw [State.lineState, hseq]; exact hs)
    (by rw [hseq]; exact hw)] at htold
  have vseq : (v.unheld l).seq.get l = { s.seq.get l with waitHold := false } := by rw [unheld_seq, hseq]
  refine ⟨fun hp => ?_, fun hp hburst => ?_, fun hp hburst hx k hk w hw hlim => ?_, fun hp hburst hx hn halone mix hmix => ?_⟩
  · rw [causeRemoved_waiting (by rw [vseq]; exact hp)] at htold
    obtain ⟨tseq, tdrive, treg, trec, -⟩ := htold
    exact ⟨tseq.trans vseq, tdrive.trans hdrive, treg.trans hreg, trec.trans hrec⟩
  · rw [causeRemoved_burst (by rw [vseq]) (by rw [vseq]; exact hp) (by exact fun h => hburst (hdrive ▸ h))] at htold
    obtain ⟨tseq, tdrive, treg, trec, -⟩ := htold
    rw [State.updSeq_seq, PerLine.get_upd_self, vseq] at tseq
    exact ⟨tseq, tdrive.trans hdrive, treg.trans hreg, trec.trans hrec⟩
  · exact hbefore.runs_on hv.steady.settings hv.steady.clock hs hr hp hdf hburst hx hk hw hlim htold
  · have hothers' : ∀ k, k ≠ l → s.covered k = m.covers k := fun k hk => (covers_release_of_not (halone k hk)).symm
    rw [holdAnswered_leaves hs hw hp hburst hcov hcov' hothers']
    set x := ({ s.restartSilence p with holds := m, tellCount := s.tellCount + 1 } : State).unheld l with hx'
    have xseq : x.seq.get l = { s.seq.get l with waitHold := false } := unheld_seq _ l
    obtain ⟨-, htank, hwait⟩ := leaveHeld_outcome (u := x) (r := r) (mix := mix) (by rw [State.lineState, xseq]; exact hs)
      (by rw [xseq]; exact hr) (by rw [xseq]; exact hdf.purpose) hburst hx hn (by rw [xseq]; exact hmix) (by rw [xseq])
      (by rw [xseq]; exact hp)
    have hstay : x.stayAdded l = s.stayAdded l :=
      stayAdded_congr (s := s) (v := { s.restartSilence p with holds := m, tellCount := s.tellCount + 1 })
        ⟨rfl, rfl, rfl, rfl, rfl, rfl⟩ ⟨rfl, rfl, rfl, rfl, rfl, rfl, rfl⟩
    rw [xseq, hstay] at htank hwait
    exact ⟨fun k hk => (htank k hk).2, fun hk => (hwait hk).2⟩

end Release
end Sys2Proof.Machine


/-! SUPPORT. The treatment of the lines that wait for supply. -/

namespace Sys2Proof.Machine

section Service

variable {s t u v : State} {l : LineId} {r : Resume} {k : TankId} {mix : Nat}

/-! ### One waiting line treated (R107) -/

theorem debited_of {e : Nat} (he : e = s.strokeVolume l) (hk : e ≤ (s.tanks.get k).level)
    (ht : t.tanks = (s.payFrom l k e).tanks) (hc : t.currentTank = (s.payFrom l k e).currentTank)
    (hd : t.demand = s.demand) : Debited s t l k := by
  subst he
  refine ⟨?_, fun j hj => ?_, ?_, hd⟩
  · rw [ht, ← debit_eq hk]
    simp [State.payFrom, State.setCurrentTank]
  · rw [ht]
    exact PerTank.get_upd_of_ne _ hj _
  · rw [hc]
    simp [State.payFrom, State.setCurrentTank]

/-- A line taken off the waiting lists, its wait cause SUPPLY gone (R107). -/
def State.unlisted (s : State) (l : LineId) : State :=
  (s.setDemand (strikeLine s.demand l)).updSeq l fun q => { q with waitSupply := false }

theorem unlisted_seq (s : State) (l : LineId) :
    (s.unlisted l).seq.get l = { s.seq.get l with waitSupply := false } := PerLine.get_upd_self _ _ _

theorem freeWaiting_eq (s : State) (l : LineId) (given : Option TankId) :
    s.freeWaiting l given = (s.unlisted l).causeRemoved l given := rfl

/-- What holds of a line on a waiting list (R22, R36, R105). -/
structure State.Waits (s : State) (l : LineId) : Prop where
  state : s.lineState l = .held
  supply : (s.seq.get l).waitSupply = true
  hold : (s.seq.get l).waitHold = s.covered l
  afterBurst : (s.seq.get l).resumeAfterBurst = false
  purpose : purposeFits (s.seq.get l) (s.drive.get l).purpose = true
  stroke : (s.drive.get l).burst = none → (s.drive.get l).stroke = none
  resume : ∃ r, (s.seq.get l).resume = some r

theorem State.LineInv.waitsOf (h : s.LineInv l) (hp : (s.seq.get l).waitSupply = true) : s.Waits l := by
  have hs := h.waits (.inl hp)
  refine ⟨hs, hp, ?_, ?_, h.purpose, fun hb => ?_, Option.isSome_iff_exists.mp (by rw [h.resume, hs]; rfl)⟩
  · rw [h.hold, hs]
    rfl
  · by_contra hc
    have := h.afterBurst (by simpa using hc)
    simp [hp] at this
  · cases hk : (s.drive.get l).stroke with
    | none => rfl
    | some j =>
      have hf := h.stroke j hk
      cases hj : j.purpose <;> simp_all [strokeFits]

/-- A waiting line that may not start: it leaves the list, and stays in HELD (R107). -/
theorem State.Waits.stays (h : s.Waits l) (hc : s.canStart l = false) :
    s.freeWaiting l none = (s.unlisted l).updSeq l fun q => { q with resumeAfterBurst := !q.waitHold } := by
  have hb : s.covered l = false → (s.drive.get l).burst ≠ none := by
    intro hcov hb
    simp [State.canStart, hcov, hb] at hc
  rw [freeWaiting_eq]
  cases hw : (s.seq.get l).waitHold with
  | true =>
    rw [State.causeRemoved, unlisted_seq, if_pos (by simp [hw]), updSeq_eq_self]
    rw [unlisted_seq]
    simp [hw, h.afterBurst]
  | false =>
    rw [causeRemoved_burst (u := s.unlisted l) (by rw [unlisted_seq]; exact hw) (by rw [unlisted_seq]) (hb (h.hold.symm.trans hw))]
    exact updSeq_congr (by rw [unlisted_seq, hw]; rfl)

/-- A waiting line that may start: it leaves the list and HELD, and strokes from the tank given (R23, R33, R107). -/
theorem State.Waits.runs (h : s.Waits l) (hc : s.canStart l = true) (hr : (s.seq.get l).resume = some r)
    (hx : 0 < s.rateOf r) :
    s.freeWaiting l (some k) =
      (((s.unlisted l).leftHeld l r).updDrive l fun d => { d with pendingRate := s.rateOf r }).runGrout l r.kind k := by
  simp only [State.canStart, Bool.and_eq_true, Bool.not_eq_true', Option.isNone_iff_eq_none] at hc
  obtain ⟨hcov, hb⟩ := hc
  have hpur : purposeFits ((s.unlisted l).seq.get l) ((s.unlisted l).drive.get l).purpose = true := by
    rw [unlisted_seq]
    exact h.purpose
  rw [freeWaiting_eq, causeRemoved_leaves (u := s.unlisted l) (by rw [unlisted_seq]; exact h.hold.trans hcov) (by rw [unlisted_seq]) hb,
    leaveHeld_starts (u := s.unlisted l) (r := r) (by rw [State.lineState, unlisted_seq]; exact h.state) (by rw [unlisted_seq]; exact hr) hpur hb
      hx (h.stroke hb), startStroke_grout (r := r)]
  · rfl
  · rw [State.updDrive_drive, PerLine.get_upd_self, leftHeld_drive]
    exact DriveFits.held_purpose (q := (s.unlisted l).seq.get l) (d := s.drive.get l) hpur
      (by rw [unlisted_seq]; exact h.state) (by rw [unlisted_seq]; exact hr)

/-- What the service of a line that may start leaves (R23, R33, R101, R102, R107). -/
theorem State.Waits.runs_treated (h : s.Waits l) (hk : s.strokeVolume l ≤ (s.tanks.get k).level)
    (hc : s.canStart l = true) (hr : (s.seq.get l).resume = some r) (hx : 0 < s.rateOf r)
    (hpaid : OnlyLine l s ((s.payFrom l k (s.strokeVolume l)).freeWaiting l (some k))) :
    let t := (s.payFrom l k (s.strokeVolume l)).freeWaiting l (some k)
    OnlyLine l s t ∧ SameLog s t ∧ t.port = s.port ∧
      t.demand = s.demand.map (fun d => { d with waiting := d.waiting.filter (· != l) }) ∧ 1 = 1 ∧
      GroutStarts { s with demand := s.demand.map fun d => { d with waiting := d.waiting.filter (· != l) } } t l r k
        (s.rateOf r) (({ s.seq.get l with waitSupply := false } : Sequencer).outOfHeld r) .stopped
        (s.reg.get l).outOfHeld (s.stayAdded l) := by
  intro t
  set paid := s.payFrom l k (s.strokeVolume l) with hpd
  have hwaits : paid.Waits l := ⟨h.state, h.supply, h.hold, h.afterBurst, h.purpose, h.stroke, h.resume⟩
  have hcov : s.covered l = false ∧ (s.drive.get l).burst = none := by simpa [State.canStart] using hc
  set left := ((paid.unlisted l).leftHeld l r).updDrive l fun d => { d with pendingRate := paid.rateOf r } with hleft
  have ht : t = left.runGrout l r.kind k := hwaits.runs hc hr hx
  have hdrive : left.drive.get l = { s.drive.get l with staticTimer := .stopped, pendingRate := s.rateOf r } := by
    rw [hleft, State.updDrive_drive, PerLine.get_upd_self, leftHeld_drive]
    rfl
  have hseq : left.seq.get l = ({ s.seq.get l with waitSupply := false } : Sequencer).outOfHeld r := by
    refine (leftHeld_seq (u := paid.unlisted l) ?_ ?_).trans ?_
    · rw [unlisted_seq]
      exact h.hold.trans hcov.1
    · rw [unlisted_seq]
    · rw [unlisted_seq]
      rfl
  have hstay : left.openRec.get l = s.stayAdded l := by
    refine (leftHeld_openRec (paid.unlisted l) l r).trans ?_
    rw [State.stayAdded, State.stayAdded, State.heldNow, State.heldNow, State.lineState, State.lineState, unlisted_seq]
    rfl
  have hruns := runGrout_runs (u := left) (r := r) (by rw [hdrive]; exact DriveFits.held_purpose h.purpose h.state hr)
    (by rw [hdrive]; exact hcov.2) k
  rw [hdrive, hseq, hstay, ← ht] at hruns
  refine ⟨hpaid, hruns.log, hruns.port, hruns.demand, rfl,
    debited_of rfl hk hruns.tanks hruns.currentTank hruns.demand, hruns.seq, ?_, hruns.reg.trans ?_, hruns.openRec⟩
  · rw [hruns.drive]
    cases r <;> rfl
  · exact leftHeld_reg _ l r

/-- A service treats a waiting line as R107 says. -/
theorem State.Waits.treated (h : s.Waits l) (hx : ∀ r : Resume, 0 < s.rateOf r) (mix n : Nat) :
    ∃ a, Treated mix l s (serveLine mix (s, n) l).1 a ∧ (serveLine mix (s, n) l).2 = n + a := by
  obtain ⟨r, hr⟩ := h.resume
  cases hk : s.selectTank l mix (s.strokeVolume l) with
  | none =>
    refine ⟨0, ?_, ?_⟩
    · simp [Treated, serveLine, hk]
    · simp [serveLine, hk]
  | some k =>
    refine ⟨1, ?_, ?_⟩
    · have hcan : s.canStart l = false ↔ s.covered l = true ∨ (s.drive.get l).burst ≠ none := by
        simp only [State.canStart, Bool.and_eq_false_iff, Bool.not_eq_false', ← Option.isSome_iff_ne_none]
        cases (s.drive.get l).burst <;> simp
      have honly : ∀ given, LineOnly l s (s.freeWaiting l given) := fun given =>
        (((LineOnly.refl l s).setDemand _).updSeq _).causeRemoved given
      have hpaid : LineOnly l s ((s.payFrom l k (s.strokeVolume l)).freeWaiting l (some k)) :=
        ((((LineOnly.refl l s).payFrom _ _).setDemand _).updSeq _).causeRemoved _
      unfold Treated
      rw [hk, hr]
      dsimp only
      cases hc : s.canStart l with
      | false =>
        have hst : (serveLine mix (s, n) l).1 = s.freeWaiting l none := by simp [serveLine, hk, hc]
        rw [hst, if_pos (hcan.mp hc)]
        have heq := h.stays hc
        refine ⟨(honly none).onlyLine, ?_⟩
        rw [heq]
        refine ⟨⟨rfl, rfl, rfl⟩, rfl, rfl, rfl, rfl, rfl, ?_, rfl, rfl, rfl⟩
        rw [State.updSeq_seq, PerLine.get_upd_self, unlisted_seq]
      | true =>
        have hst : (serveLine mix (s, n) l).1 = (s.payFrom l k (s.strokeVolume l)).freeWaiting l (some k) := by
          simp [serveLine, hk, hc]
        rw [hst, if_neg (by rw [← hcan, hc]; exact Bool.noConfusion)]
        exact h.runs_treated (selectTank_level hk) hc hr (hx r) hpaid.onlyLine
    · cases hc : s.canStart l <;> simp [serveLine, hk, hc]

/-! ### The waiting list treated in turn (R107) -/

/-- A service does not look at the ports. -/
theorem Treated.with_port {a : Nat} (h : Treated mix l s t a) (x : PerPort PortState) :
    Treated mix l { s with port := x } { t with port := x } a := by
  have hsel : ({ s with port := x } : State).selectTank l mix (({ s with port := x } : State).strokeVolume l) =
      s.selectTank l mix (s.strokeVolume l) := rfl
  have hres : (({ s with port := x } : State).seq.get l).resume = (s.seq.get l).resume := rfl
  unfold Treated at h ⊢
  rw [hsel, hres]
  cases hk : s.selectTank l mix (s.strokeVolume l) with
  | none =>
    rw [hk] at h
    exact ⟨by rw [h.1], h.2⟩
  | some k =>
    cases hr : (s.seq.get l).resume with
    | none =>
      rw [hk, hr] at h
      exact ⟨by rw [h.1], h.2⟩
    | some r =>
      rw [hk, hr] at h
      obtain ⟨honly, hlog, -, hdemand, ha, hrest⟩ := h
      exact ⟨honly, hlog, rfl, hdemand, ha, hrest⟩

theorem TreatedInTurn.with_port {ls : List LineId} {n : Nat} (h : TreatedInTurn mix ls s t n) (x : PerPort PortState) :
    TreatedInTurn mix ls { s with port := x } { t with port := x } n := by
  induction ls generalizing s n with
  | nil => exact ⟨by rw [h.1], h.2⟩
  | cons l ls ih =>
    obtain ⟨u, a, b, hl, hls, hn⟩ := h
    exact ⟨_, a, b, hl.with_port x, ih hls, hn⟩

theorem Treated.port {a : Nat} (h : Treated mix l s t a) : t.port = s.port := by
  unfold Treated at h
  split at h
  · exact h.2.2.1
  · rw [h.1]

theorem TreatedInTurn.port {ls : List LineId} {n : Nat} (h : TreatedInTurn mix ls s t n) : t.port = s.port := by
  induction ls generalizing s n with
  | nil => rw [h.1]
  | cons l ls ih =>
    obtain ⟨u, a, b, hl, hls, hn⟩ := h
    exact (ih hls).trans hl.port

theorem serveLine_only (mix n : Nat) (s : State) (l : LineId) : LineOnly l s (serveLine mix (s, n) l).1 := by
  unfold serveLine
  dsimp only
  split
  · exact LineOnly.refl l s
  · split
    · exact ((((LineOnly.refl l s).payFrom _ _).setDemand _).updSeq _).causeRemoved _
    · exact (((LineOnly.refl l s).setDemand _).updSeq _).causeRemoved _

/-- The service is the treatment in turn of lines that wait (R107). -/
theorem serveLines_treated {ls : List LineId} (hn : ls.Nodup) (h : s.LinesInv)
    (hw : ∀ j ∈ ls, (s.seq.get j).waitSupply = true) (hx : 1 ≤ s.timing.chargeStep) (n : Nat) :
    ∃ a, TreatedInTurn mix ls s (ls.foldl (serveLine mix) (s, n)).1 a ∧
      (ls.foldl (serveLine mix) (s, n)).2 = n + a := by
  induction ls generalizing s n with
  | nil => exact ⟨0, ⟨rfl, rfl⟩, rfl⟩
  | cons l ls ih =>
    obtain ⟨hl, hn⟩ := List.nodup_cons.mp hn
    have hwaits := (h l).waitsOf (hw l List.mem_cons_self)
    obtain ⟨a, ha, hcount⟩ := hwaits.treated (fun r => by cases r <;> simp [State.rateOf]; omega) mix n
    have honly := serveLine_only mix n s l
    obtain ⟨hinv, -⟩ := serveLine_lines (l := l) (mix := mix) (acc := (s, n)) h (.inr hwaits.state)
    have hstep : serveLine mix (s, n) l = ((serveLine mix (s, n) l).1, n + a) := Prod.ext rfl hcount
    obtain ⟨b, hb, hcount'⟩ := ih (s := (serveLine mix (s, n) l).1) hn hinv (fun j hj => by
      obtain ⟨hseq, -⟩ := honly.lines j fun hjl => hl (hjl ▸ hj)
      rw [hseq]
      exact hw j (List.mem_cons_of_mem _ hj)) (by
      obtain ⟨-, -, -, htiming, -⟩ := honly.steady.settings
      rw [htiming]
      exact hx) (n + a)
    rw [List.foldl_cons, hstep]
    exact ⟨a + b, ⟨_, a, b, ha, hb, rfl⟩, hcount'.trans (Nat.add_assoc n a b)⟩

theorem waitingFor_entry {e : DemandEntry} (hn : (u.demand.map (·.mix)).Nodup) (he : e ∈ u.demand) (hm : e.mix = mix) :
    u.waitingFor mix = e.waiting := by
  unfold State.waitingFor
  cases hf : u.demand.find? (·.mix == mix) with
  | none => exact absurd (List.find?_eq_none.mp hf e he) (by simp [hm])
  | some f =>
    have hfm : f.mix = mix := by simpa using List.find?_some hf
    rw [List.inj_on_of_nodup_map hn (List.mem_of_find?_eq_some hf) he (hfm.trans hm.symm)]

end Service
end Sys2Proof.Machine


/-! PROOF of O52. A delivery that lines wait for. -/

namespace Sys2Proof.Machine

section Delivery

variable {s t u v : State} {l : LineId} {k : TankId} {mix litres : Nat}

/-- The part with the tank of an accepted delivery filled, and CLAMPED latched where the capacity holds (R99). -/
def State.filledClamped (s : State) (k : TankId) (mix litres : Nat) : State :=
  if (s.tankTable.get k).capacity * 1000 < (s.tanks.get k).level + litres * 1000
  then (s.filled k mix litres).latchAll .clamped else s.filled k mix litres

theorem filledClamped_eq (s : State) (k : TankId) (mix litres : Nat) :
    s.filledClamped k mix litres = { s.filled k mix litres with port := (s.filledClamped k mix litres).port } := by
  unfold State.filledClamped
  split <;> rfl

theorem filledClamped_latched (s : State) (k : TankId) (mix litres : Nat) :
    Latched s (s.filledClamped k mix litres)
      (if (s.tankTable.get k).capacity * 1000 < (s.tanks.get k).level + litres * 1000 then Event.clamped.bit else 0) :=
  latched_ite (by unfold State.filledClamped; split <;> rfl)

theorem deliverAt_served (hok : u.deliverStatus k mix litres = .ok) :
    deliverAt mix litres k u =
      (((u.filledClamped k mix litres).serve mix).1,
        ⟨.ok, be 4 ((((u.filledClamped k mix litres).serve mix).1.tanks.get k).level) ++
          be 1 ((u.filledClamped k mix litres).serve mix).2⟩) := by
  have hf : (u.updTank k fun x => x.fill mix
      (min ((u.tanks.get k).level + litres * 1000) ((u.tankTable.get k).capacity * 1000)) u.runSeconds) =
      u.filled k mix litres := updTank_eq_set u k _
  simp only [deliverAt, hok, hf]
  rfl

theorem State.LinesInv.filledClamped (h : s.LinesInv) (k : TankId) (mix litres : Nat) :
    (s.filledClamped k mix litres).LinesInv := by
  rw [filledClamped_eq]
  exact h.of_same rfl rfl rfl rfl rfl

/-- A service of a mix that lines wait for: the lines of its list treated in turn, the emptied entry dropped, and
SUPPLY_WAIT latched if a line left (R107, R108). -/
theorem serve_treated (h : u.LinesInv) (hx : 1 ≤ u.timing.chargeStep) (hmixes : (u.demand.map (·.mix)).Nodup)
    {e : DemandEntry} (he : e ∈ u.demand) (hm : e.mix = mix) (hn : e.waiting.Nodup) :
    ∃ v n, TreatedInTurn mix e.waiting u v n ∧ (u.serve mix).2 = n ∧
      (u.serve mix).1 = { v with
        demand := v.demand.filter (fun d => !d.waiting.isEmpty)
        port := if n = 0 then v.port else (v.latchAll .supplyWait).port } := by
  have hw : ∀ j ∈ e.waiting, (u.seq.get j).waitSupply = true := fun j hj => by
    rw [(h j).supply]
    exact onList_iff.mpr ⟨e, he, hj⟩
  obtain ⟨n, hturn, hcount⟩ := serveLines_treated (mix := mix) hn h hw hx 0
  rw [Nat.zero_add] at hcount
  have hlist := waitingFor_entry hmixes he hm
  refine ⟨_, n, hturn, ?_, ?_⟩
  · rw [State.serve, hlist]
    exact hcount
  · rw [State.serve, hlist]
    dsimp only
    rw [hcount]
    split <;> rfl

/-- Settles O52: the tank filled, the lines treated in turn, and the answer begun. -/
theorem serviceTreatsTheWaitingLines : Obligations.ServiceTreatsTheWaitingLines := by
  intro s k mix litres hfree hinv hx hmixes e he hm hn hne hlow hhigh hen tank htank full level filled
  set r := s.restartSilence .plant with hr
  have hok : r.deliverStatus k mix litres = .ok := by
    rw [deliverStatus_eq, if_neg, if_neg]
    · rintro (hc | ⟨hst, hc⟩)
      · rcases htank with ht | ⟨ht, -⟩ <;> cases (show tank.state = .stale from hc).symm.trans ht
      · rcases htank with ht | ⟨-, ht⟩
        · cases (show tank.state = .stocked from hst).symm.trans ht
        · exact hc ht
    · rintro (hb | hb | hb | hb)
      · omega
      · omega
      · exact Bool.false_ne_true (hb.symm.trans hen)
      · rcases htank with ht | ⟨ht, -⟩ <;> cases (show tank.state = .unfitted from hb).symm.trans ht
  obtain ⟨v, n, hturn, hcount, hserve⟩ := serve_treated (u := r.filledClamped k mix litres)
    (State.LinesInv.filledClamped (s := r) (hinv.of_same rfl rfl rfl rfl rfl) k mix litres) (by rw [filledClamped_eq]; exact hx)
    (by rw [filledClamped_eq]; exact hmixes) (by rw [filledClamped_eq]; exact he) hm hn
  refine ⟨_, plant_request hfree 0x20 (deliverAt_served hok), { v with port := s.port }, n, ?_, ?_, ?_⟩
  · have := hturn.with_port s.port
    rw [filledClamped_eq] at this
    exact this
  · rw [hserve]
    rfl
  · rw [hcount, hserve]
    refine Latched.request ?_ _ _
    refine latched_trans (t := v) (latched_port (filledClamped_latched r k mix litres) hturn.port) ?_
    split
    · exact latched_nothing rfl
    · exact latched_event rfl

end Delivery
end Sys2Proof.Machine


/-! PROOF of O28. The lapse of supervision, and the request that prevents it. -/

namespace Sys2Proof.Machine

section Silence

variable {s t u v : State} {p q : Port} {e : Instr} {code : Nat} {allowed : List Port} {owner : State → State × Answer}

/-! ### A request restarts its port's silence timer (R124) -/

/-- A port whose silence timer has just restarted, if it is supervised (R123, R124). -/
def PortState.Fresh (x : PortState) : Prop := x.supervision.isSome = true → x.silence = some 0

def State.Heard (s : State) (p : Port) : Prop := (s.port.get p).Fresh

theorem State.Heard.of_port (h : u.Heard p) (hp : v.port = u.port) : v.Heard p := by
  rw [State.Heard, hp]
  exact h

theorem State.Heard.steady (h : u.Heard p) (hs : Steady u v) : v.Heard p := by
  unfold State.Heard PortState.Fresh at *
  rw [(hs.ports p).supervision, (hs.ports p).silence]
  exact h

theorem State.Heard.updPort (h : u.Heard p) (q : Port) {f : PortState → PortState} (hf : ∀ x, x.Fresh → (f x).Fresh) :
    (u.updPort q f).Heard p := by
  rw [State.Heard, State.updPort_port, PerPort.get_upd]
  split
  · exact hf _ h
  · exact h

theorem State.Heard.latchAll (h : u.Heard p) (e : Event) : (u.latchAll e).Heard p :=
  h.steady ((LineOnly.refl .l1 u).latchAll e).steady

theorem heard_restartSilence (s : State) (p : Port) : (s.restartSilence p).Heard p := by
  rw [State.Heard, State.restartSilence, State.updPort_port, PerPort.get_upd_self]
  intro h
  exact if_pos h

/-- A request on a free port whose owner keeps a fresh timer fresh. -/
theorem heard_request (hfree : s.free p) (ho : ∀ v, v.Heard p → (owner v).1.Heard p) :
    (s.request p code allowed owner).Heard p := by
  have hr : ∀ {v : State} {r : Response}, v.Heard p → (v.respond p r).Heard p := fun h => h.updPort p fun _ hx => hx
  unfold State.request
  rw [show (s.port.get p).response = none from hfree, if_neg (by simp)]
  dsimp only
  split
  · exact hr (ho _ (heard_restartSilence s p))
  · exact hr (heard_restartSilence s p)

theorem heard_lineRequest (hfree : s.free p) {f : LineId → State → State × Answer}
    (ho : ∀ l v, v.Heard p → (f l v).1.Heard p) (line : Nat) : (s.request p code allowed (onLine line f)).Heard p := by
  refine heard_request hfree fun v hv => ?_
  unfold onLine
  split
  · exact ho _ v hv
  · exact hv

theorem heard_tankRequest (hfree : s.free p) {f : TankId → State → State × Answer}
    (ho : ∀ k v, v.Heard p → (f k v).1.Heard p) (tank : Nat) : (s.request p code allowed (onTank tank f)).Heard p := by
  refine heard_request hfree fun v hv => ?_
  unfold onTank
  split
  · exact ho _ v hv
  · exact hv

theorem makeStale_heard (h : v.Heard p) (k : TankId) : (v.makeStale k).Heard p :=
  State.Heard.latchAll (u := v.updTank k _) (h.of_port rfl) _

theorem writeTankAt_heard (capacity ageLimit : Nat) (k : TankId) (h : v.Heard p) :
    (writeTankAt capacity ageLimit k v).1.Heard p := by
  unfold writeTankAt
  split
  · exact h
  · split
    · exact h
    · dsimp only
      split
      · exact makeStale_heard (h.of_port rfl) k
      · exact h.of_port rfl

theorem superviseOwner_heard (interval : Nat) (h : v.Heard p) : (superviseOwner p interval v).1.Heard p := by
  unfold superviseOwner
  split
  · exact h
  · split
    · exact h.updPort p fun _ _ hs => by cases hs
    · exact h.updPort p fun _ _ _ => rfl

theorem markReadOwner_heard (entry : Nat) (h : v.Heard p) : (markReadOwner p entry v).1.Heard p := by
  unfold markReadOwner
  split
  · exact h
  · exact h.updPort p fun _ hx => hx

theorem noteOwner_heard (note : Nat) (h : v.Heard p) : (noteOwner p note v).1.Heard p := by
  unfold noteOwner
  split
  · exact h
  · simpa [State.Heard, State.latchOthers_port, PerPort.get_mapIdx] using h

theorem setClockOwner_heard (day second : Nat) (h : v.Heard p) : (setClockOwner day second v).1.Heard p := by
  unfold setClockOwner
  split
  · exact h
  · exact State.Heard.latchAll (u := { v with clock := ⟨day, second, true⟩, clockPhase := 0 }) (h.of_port rfl) _

/-- Every request leaves its port's silence timer fresh (R124). -/
theorem runRequest_heard {i : Instr} (hp : requestPort i = some p) (hfree : s.free p) (h : runRequest i s = .next t) :
    t.Heard p := by
  cases i with
  | seat _ line w => cases hp; cases h; exact heard_lineRequest hfree (fun l v hv => hv.steady (deferrable_lineOnly _ l v).steady) line
  | test _ line | charge _ line | inject _ line =>
    cases hp; cases h; exact heard_lineRequest hfree (fun l v hv => hv.steady (deferrable_lineOnly _ l v).steady) line
  | finish _ line => cases hp; cases h; exact heard_lineRequest hfree (fun l v hv => hv.steady (finishAt_lineOnly l v).steady) line
  | abort _ line => cases hp; cases h; exact heard_lineRequest hfree (fun l v hv => hv.steady (abortAt_lineOnly _ l v).steady) line
  | clearFault _ line =>
    cases hp; cases h; exact heard_lineRequest hfree (fun l v hv => hv.steady (clearFaultAt_lineOnly l v).steady) line
  | circulate _ line =>
    cases hp; cases h; exact heard_lineRequest hfree (fun l v hv => hv.steady (circulateAt_lineOnly l v).steady) line
  | hold _ lines => cases hp; cases h; exact heard_request hfree fun v hv => hv.steady (holdOwner_steady _ lines v)
  | releaseHold _ reason lines =>
    cases hp; cases h; exact heard_request hfree fun v hv => hv.steady (releaseHoldOwner_steady _ reason lines v)
  | releaseConnection _ lines =>
    cases hp; cases h; exact heard_request hfree fun v hv => hv.steady (releaseConnectionOwner_steady lines v)
  | deliver _ tank mix litres =>
    cases hp; cases h; exact heard_tankRequest hfree (fun k v hv => hv.steady (deliverAt_steady mix litres k v)) tank
  | dump _ tank => cases hp; cases h; exact heard_tankRequest hfree (fun k v hv => hv.steady (dumpAt_steady k v)) tank
  | setCeiling _ line ceiling =>
    cases hp; cases h; exact heard_lineRequest hfree (fun l v hv => hv.of_port (setCeilingAt_port ceiling l)) line
  | supervise _ interval => cases hp; cases h; exact heard_request hfree fun v hv => superviseOwner_heard interval hv
  | readTanks _ | readDemand _ | logRange _ | status _ | readEvents _ | readNote _ | readClock _ | readLog _ _ =>
    cases hp; cases h; exact heard_request hfree fun _ hv => hv
  | readOpen _ line | readCapture _ line => cases hp; cases h; exact heard_lineRequest hfree (fun _ _ hv => hv) line
  | markRead _ entry => cases hp; cases h; exact heard_request hfree fun v hv => markReadOwner_heard entry hv
  | readSnapshot _ part =>
    cases hp; cases h; exact heard_request hfree fun v hv => hv.of_port (readSnapshotOwner_port _ part)
  | snapshot _ | setMask _ _ | restart _ | clearEvents _ _ =>
    cases hp; cases h; exact heard_request hfree fun v hv => hv.updPort _ fun _ hx => by exact hx
  | portReset _ => cases hp; cases h; exact heard_request hfree fun v hv => hv.updPort _ fun _ _ hs => by cases hs
  | note _ code => cases hp; cases h; exact heard_request hfree fun v hv => noteOwner_heard code hv
  | writeLine _ line w => cases hp; cases h; exact heard_lineRequest hfree (fun l v hv => hv.of_port (writeLineAt_port w l)) line
  | writeMix _ code w => cases hp; cases h; exact heard_request hfree fun v hv => hv.of_port (writeMixOwner_port code w)
  | writeBands _ w => cases hp; cases h; exact heard_request hfree fun v hv => hv.of_port (writeBandsOwner_port w)
  | writeTiming _ w => cases hp; cases h; exact heard_request hfree fun v hv => hv.of_port (writeTimingOwner_port w)
  | writeEnvelope _ w => cases hp; cases h; exact heard_request hfree fun v hv => hv.of_port (writeEnvelopeOwner_port w)
  | writeTank _ tank capacity ageLimit =>
    cases hp; cases h; exact heard_tankRequest hfree (fun k v hv => writeTankAt_heard capacity ageLimit k hv) tank
  | readSettings _ table index =>
    cases hp; cases h; exact heard_request hfree fun v hv => hv.of_port (readSettingsOwner_port table index)
  | setClock _ day second => cases hp; cases h; exact heard_request hfree fun v hv => setClockOwner_heard day second hv
  | _ => cases hp

/-! ### The lapse (R125) -/

theorem exec_silence_off (h : (s.port.get p).supervision = none) : exec (.silenceTimerExpiry p) s = .next s :=
  congrArg Host.Outcome.next (onEvent_induct (P := (· = s)) rfl (if_neg (by simp [h])))

theorem mergeEntry_full (e : Option HoldEntry) (now : Stamp) :
    mergeEntry e .full now = ⟨.full, (e.map (·.placed)).getD now⟩ := by
  cases e with
  | none => rfl
  | some e =>
    have hfull : e.lines.union .full = .full := PerLine.ext_get fun l => by
      rw [LineSet.get_union, LineSet.full, PerLine.get_const, Bool.or_true]
    rw [mergeEntry, hfull]
    rfl

/-- An expiry whose timer has been restarted since has been overtaken (log 24). -/
theorem exec_silence_heard (h : s.Heard p) (hcame : .silenceTimerExpiry p ∈ s.cameDue)
    (hzero : (s.port.get p).supervision ≠ some 0) : exec (.silenceTimerExpiry p) s = .next s := by
  refine congrArg Host.Outcome.next (onEvent_of_overtaken (State.overtaken_iff.mpr ⟨hcame, ?_⟩) _)
  rintro ⟨n, hn, elapsed, helapsed, hle⟩
  have hsil := h (by rw [Option.mem_def.mp hn]; rfl)
  rw [Option.mem_def.mp helapsed] at hsil
  cases hsil
  have : n = 0 := by omega
  exact hzero (this ▸ hn)

/-- Settles O28: the lapse is the merge of all lines into the silence entry; a request before it leaves a fresh
timer. -/
theorem silenceLapseHoldsEveryLine : Obligations.SilenceLapseHoldsEveryLine := by
  intro s p
  refine ⟨fun hinv hsup hsil hnot => ?_, exec_silence_off, fun i code payload hi hfree hcame => ?_⟩
  · set u := s.updPort p fun q => { q with supervision := none, silence := none } with hu
    set m := u.holds.merge (silenceKey p) .full u.stamp with hm
    have hexec : exec (.silenceTimerExpiry p) s = .next ((u.holdOperation m).latchAll .silence) :=
      congrArg Host.Outcome.next ((onEvent_of_not_overtaken hnot.overtaken _).trans (if_pos (by rw [hsup, hsil]; rfl)))
    obtain ⟨hsteady, hholds, -⟩ := holdOperation_steady u m
    have hlatch := (LineOnly.refl .l1 (u.holdOperation m)).latchAll .silence
    obtain ⟨hset, hclock, hports⟩ := hsteady.trans hlatch.steady
    have hport : u.port.get p = { s.port.get p with supervision := none, silence := none } := PerPort.get_upd_self _ _ _
    have hlines : ((u.holdOperation m).latchAll .silence).LinesInv :=
      State.LinesInv.of_same (s := u.holdOperation m) (State.LinesInv.holdOperation (u := u) (hinv.of_same rfl rfl rfl rfl rfl) m)
        rfl rfl rfl rfl rfl
    obtain ⟨hsupply, hlog⟩ := sameSupply_of_stores (holdOperation_merge_stores u (silenceKey p) .full u.stamp)
    have hentry : m.get (silenceKey p) =
        some ⟨.full, ((s.holds.get (silenceKey p)).map (·.placed)).getD s.stamp⟩ := by
      rw [hm, HoldMap.merge, holdMap_get_set_self, mergeEntry_full]
      rfl
    have hcov : ∀ l, ((u.holdOperation m).latchAll .silence).covered l = true := fun l => by
      rw [State.covered, State.latchAll_holds, hholds, hm, covers_merge_eq, LineSet.full, PerLine.get_const, Bool.or_true]
    refine ⟨_, hexec, ?_, ?_, ?_, fun k hk => ?_, allLatched_latchAll _ _, fun he => ?_, fun l => ⟨hcov l, ?_⟩, hset, hclock,
      hsupply, hlog⟩
    · rw [(hports p).supervision, hport]
    · rw [(hports p).silence, hport]
    · rw [State.latchAll_holds, hholds, hentry]
    · rw [State.latchAll_holds, hholds, hm, HoldMap.merge, holdMap_get_set, if_neg hk]
      rfl
    · exact (holdOperation_latches fun h => he (by rw [← hentry, h]; rfl)).steady hlatch.steady
    · exact (hlines l).uncovered (hcov l)
  · obtain ⟨owner, hexec⟩ := exec_isRequest hi s
    have hheard := runRequest_heard hi.1 hfree ((exec_request (by rw [hi.1]; rfl) s).symm.trans hexec)
    have hcame' := (exec_cameDue (by rintro rfl; cases hi.1) hexec).symm ▸ hcame
    exact ⟨_, hexec, hheard, exec_silence_heard hheard hcame'⟩

end Silence
end Sys2Proof.Machine


/-! SUPPORT. The end of a stage block by block, and a record appended to the log. -/

namespace Sys2Proof.Machine

section StageEnd

variable {s t u v : State} {l : LineId} {quiet : Bool} {reason : EndReason} {origin : Option Port}

/-! ### The steps of a stage end, block by block (R24) -/

/-- The part with other port states. -/
def State.withPort (s : State) (x : PerPort PortState) : State := { s with port := x }

section WithPort

variable (x y : PerPort PortState) (f : Sequencer → Sequencer) (d : Drive → Drive) (g : Regulator → Regulator)
  (r : Record → Record) (a : Option TankId) (ds : List DemandEntry)

@[simp] theorem withPort_updSeq : (s.withPort x).updSeq l f = (s.updSeq l f).withPort x := rfl
@[simp] theorem withPort_updReg : (s.withPort x).updReg l g = (s.updReg l g).withPort x := rfl
@[simp] theorem withPort_updRec : (s.withPort x).updRec l r = (s.updRec l r).withPort x := rfl
@[simp] theorem withPort_withPort : (s.withPort x).withPort y = s.withPort y := rfl
@[simp] theorem withPort_seq : (s.withPort x).seq = s.seq := rfl

end WithPort

theorem stopDrive_eq (u : State) (l : LineId) :
    u.stopDrive l = (u.updDrive l fun _ => restDrive).updRec l fun r => { r with unplaced := r.unplaced + u.inFlight l } :=
  abandonStroke_updDrive u l fun _ => rfl

/-- The demand queue once a line has left it (R109). -/
def leftDemand (ds : List DemandEntry) (l : LineId) : List DemandEntry :=
  if onList ds l then dropEmptied (strikeLine ds l) else ds

theorem leaveDemand_eq (u : State) (l : LineId) (quiet : Bool) :
    u.leaveDemand l quiet =
      ((u.setCurrentTank l none).setDemand (leftDemand u.demand l)).withPort
        (if onList u.demand l then (u.latchUnless quiet .supplyWait).port else u.port) := by
  unfold State.leaveDemand leftDemand
  dsimp only
  split
  · cases quiet <;> rfl
  · rfl

theorem dropSlot_eq (u : State) (l : LineId) (quiet : Bool) :
    u.dropSlot l quiet =
      (u.updSeq l fun q => { q with slot := none }).withPort
        (if (u.seq.get l).slot.isSome then (u.latchUnless quiet .pendingDropped).port else u.port) := by
  unfold State.dropSlot
  split
  · rename_i hn
    rw [updSeq_eq_self (by rw [← hn]), hn]
    rfl
  · rename_i hs
    rw [hs]
    cases quiet <;> rfl

theorem endTimers_eq (u : State) (l : LineId) :
    u.endTimers l =
      ((u.updRec l fun r => { r with heldSeconds := r.heldSeconds + u.heldNow l }).updSeq l fun q =>
        { q with
          settleTimer := .stopped, standingTimer := .stopped, testTimer := none, testDuration := none
          heldSince := if q.state = .held then none else q.heldSince }).updReg l Regulator.endStage := by
  unfold State.endTimers
  dsimp only
  split
  · rename_i hs
    rw [addHeld_eq hs, updSeq_updSeq]
    refine congrArg (fun v : State => v.updReg l _) (updSeq_congr ?_)
    rw [State.updRec_seq, if_pos (by exact hs)]
  · rename_i hs
    rw [State.heldNow, if_neg hs, show (u.updRec l fun r => { r with heldSeconds := r.heldSeconds + 0 }) = u from
      updRec_id u l]
    refine congrArg (fun v : State => v.updReg l _) (updSeq_congr ?_)
    rw [if_neg (by exact hs)]

/-- A sequencer whose stage has ended, its line still to move on (R24 steps 4 and 5). -/
def Sequencer.ended (q : Sequencer) : Sequencer :=
  { q with
    slot := none
    settleTimer := .stopped
    standingTimer := .stopped
    waitHold := false
    waitSupply := false
    resume := none
    resumeAfterBurst := false
    heldSince := if q.state = .held then none else q.heldSince
    currentMix := none
    testDuration := none
    testTimer := none }

/-- The ports once a line has left its waiting list and dropped its request (R20, R109, R149). -/
def State.endedPort (u : State) (l : LineId) (quiet : Bool) : PerPort PortState :=
  let v := u.withPort (if onList u.demand l then (u.latchUnless quiet .supplyWait).port else u.port)
  if (u.seq.get l).slot.isSome then (v.latchUnless quiet .pendingDropped).port else v.port

/-- A line whose stage has ended, its record still open (R24 steps 1 to 5). -/
def State.stageCleared (u : State) (l : LineId) (quiet : Bool) : State :=
  ((((((u.updSeq l Sequencer.ended).updDrive l fun _ => restDrive).updReg l Regulator.stageOver).updRec l fun r =>
    { r with unplaced := r.unplaced + u.inFlight l, heldSeconds := r.heldSeconds + u.heldNow l }).setCurrentTank l
    none).setDemand (leftDemand u.demand l)).withPort (u.endedPort l quiet)

theorem clearCauses_eq (u : State) (l : LineId) (quiet : Bool) :
    u.clearCauses l quiet =
      (u.updSeq l fun q =>
        { q with
          waitHold := false, waitSupply := false, resume := none, resumeAfterBurst := false, currentMix := none
          slot := none }).withPort
        (if (u.seq.get l).slot.isSome then (u.latchUnless quiet .pendingDropped).port else u.port) := by
  unfold State.clearCauses
  rw [dropSlot_eq, updSeq_updSeq, State.updSeq_seq, PerLine.get_upd_self]
  cases quiet <;> rfl

/-- The stage's timers stopped on a line that has stopped and left its waiting list (R24 steps 2 to 4). -/
theorem timersEnded_eq (u : State) (l : LineId) (quiet : Bool) :
    ((u.stopDrive l).leaveDemand l quiet).endTimers l =
      ((((((u.updSeq l fun q =>
        { q with
          settleTimer := .stopped, standingTimer := .stopped, testTimer := none, testDuration := none
          heldSince := if q.state = .held then none else q.heldSince }).updDrive l fun _ => restDrive).updReg l
        Regulator.stageOver).updRec l fun r =>
        { r with unplaced := r.unplaced + u.inFlight l, heldSeconds := r.heldSeconds + u.heldNow l }).setCurrentTank l
        none).setDemand (leftDemand u.demand l)).withPort
        (if onList u.demand l then (u.latchUnless quiet .supplyWait).port else u.port) := by
  rw [stopDrive_eq, leaveDemand_eq, endTimers_eq]
  simp only [withPort_updSeq, withPort_updReg, withPort_updRec, setDemand_updSeq, setCurrentTank_updSeq, updRec_updSeq,
    updDrive_updSeq, updRec_updReg, setDemand_updRec, setDemand_updReg, setCurrentTank_updRec, setCurrentTank_updReg,
    updRec_updRec]
  cases quiet <;> rfl

theorem endStage_eq (u : State) (l : LineId) (reason : EndReason) (origin : Option Port) (quiet : Bool) :
    u.endStage l reason origin quiet =
      (u.stageCleared l quiet).closeRecord l (u.finalValues l) reason origin quiet := by
  refine congrArg (fun v : State => v.closeRecord l _ reason origin quiet) ?_
  rw [timersEnded_eq, clearCauses_eq]
  simp only [withPort_updSeq, setDemand_updSeq, setCurrentTank_updSeq, updReg_updSeq, updRec_updSeq, updDrive_updSeq,
    updSeq_updSeq, withPort_withPort]
  refine congrArg (State.withPort _) ?_
  have hslot : ∀ f : Sequencer → Sequencer, (∀ q, (f q).slot = q.slot) → ∀ x : PerPort PortState,
      ((((((((u.updSeq l f).updDrive l fun _ => restDrive).updReg l Regulator.stageOver).updRec l fun r =>
        { r with unplaced := r.unplaced + u.inFlight l, heldSeconds := r.heldSeconds + u.heldNow l }).setCurrentTank l
        none).setDemand (leftDemand u.demand l)).withPort x).seq.get l).slot = (u.seq.get l).slot := by
    intro f hf x
    exact (congrArg Sequencer.slot (PerLine.get_upd_self u.seq l f)).trans (hf _)
  rw [hslot _ fun _ => by rfl]
  unfold State.endedPort
  cases quiet <;> rfl

/-! ### A record closed and appended (R143, R144) -/

theorem Appended.of_before {r : Record} (h : Appended v t r) (hlog : SameLog s v)
    (hports : ∀ p, (v.port.get p).mark = (s.port.get p).mark ∧ (v.port.get p).missed = (s.port.get p).missed) :
    Appended s t r := by
  obtain ⟨hl, hseq, hentry⟩ := hlog
  obtain ⟨tlog, tentry, tseq, tports⟩ := h
  refine ⟨by rw [tlog, hl], by rw [tentry, hentry], tseq.trans hseq, fun p => ?_⟩
  obtain ⟨hmark, hmissed⟩ := hports p
  have := tports p
  rwa [hl, hmark, hmissed] at this

theorem Appended.after {r : Record} (h : Appended s t r) (hlog : SameLog t u) (hsteady : Steady t u)
    (hports : ∀ p, (u.port.get p).mark = (t.port.get p).mark ∧ (u.port.get p).missed = (t.port.get p).missed) :
    Appended s u r := by
  obtain ⟨hl, hseq, hentry⟩ := hlog
  obtain ⟨tlog, tentry, tseq, tports⟩ := h
  refine ⟨hl.trans tlog, hentry.trans tentry, hseq.trans tseq, fun p => ?_⟩
  obtain ⟨hmark, hmissed⟩ := hports p
  have hp := tports p
  rw [hl, hmark, hmissed]
  split at hp
  · rename_i hc
    rw [if_pos hc]
    obtain ⟨h1, h2, h3⟩ := hp
    refine ⟨h1, h2, ?_⟩
    rw [PortState.latched, ← (hsteady.ports p).latches, BitVec.getLsbD_or, show (t.port.get p).latches.getLsbD _ = true from h3]
    rfl
  · rename_i hc
    rw [if_neg hc]
    exact hp

theorem bit_getLsbD (e : Event) : e.bit.getLsbD e.num = true := by cases e <;> decide

theorem latched_latch (q : PortState) (e : Event) : (q.latch e).latched e = true := by
  rw [PortState.latched, PortState.latch, BitVec.getLsbD_or, bit_getLsbD, Bool.or_true]

/-- What a removal does to a port, as R144 says it. -/
theorem entryRemoved_eq (removed newOldest : Nat) (q : PortState) :
    (q.mark = removed → (q.entryRemoved removed newOldest false).mark = newOldest ∧
      (q.entryRemoved removed newOldest false).missed = min 65535 (q.missed + 1) ∧
      (q.entryRemoved removed newOldest false).latched .logOverrun = true) ∧
    (q.mark ≠ removed → q.entryRemoved removed newOldest false = q) := by
  refine ⟨fun h => ?_, fun h => ?_⟩
  · rw [PortState.entryRemoved, if_pos h]
    exact ⟨rfl, rfl, latched_latch _ _⟩
  · rw [PortState.entryRemoved, if_neg h]

theorem closeRecord_eq {r : Record} (hr : u.openRec.get l = some r) (fin : FinalValues) (reason : EndReason)
    (origin : Option Port) (quiet : Bool) :
    u.closeRecord l fin reason origin quiet =
      ({ u.makeRoom u.nextEntry quiet with
        log := (u.makeRoom u.nextEntry quiet).log ++ [u.closedRecord r fin reason origin]
        nextEntry := nextNumber u.nextEntry
        openRec := (u.makeRoom u.nextEntry quiet).openRec.set l none } : State).latchUnless quiet .stageEnd := by
  rw [State.closeRecord, hr]

theorem makeRoom_nextSeq (s : State) (appended : Nat) (quiet : Bool) : (s.makeRoom appended quiet).nextSeq = s.nextSeq := by
  unfold State.makeRoom
  split
  · rfl
  · split <;> rfl

/-- A record closed is appended to the log (R143, R144). -/
theorem closeRecord_appended {r : Record} (hr : u.openRec.get l = some r) (h : u.log.length ≤ 32) (fin : FinalValues)
    (reason : EndReason) (origin : Option Port) :
    Appended u (u.closeRecord l fin reason origin false) (u.closedRecord r fin reason origin) := by
  obtain ⟨hlog, hentry, -, -⟩ := closeRecord_some hr h fin reason origin false
  refine ⟨hlog, hentry, ?_, fun p => ?_⟩
  · rw [closeRecord_eq hr]
    exact makeRoom_nextSeq _ _ _
  · have hport : (u.closeRecord l fin reason origin false).port.get p =
        ((u.makeRoom u.nextEntry false).port.get p).latch .stageEnd := by
      rw [closeRecord_eq hr, State.latchUnless, if_neg Bool.false_ne_true, State.latchAll_port, PerPort.get_mapIdx]
    have hkept : ∀ q : PortState, (q.latch .stageEnd).mark = q.mark ∧ (q.latch .stageEnd).missed = q.missed :=
      fun _ => ⟨rfl, rfl⟩
    have hover : ∀ q : PortState, q.latched .logOverrun = true → (q.latch .stageEnd).latched .logOverrun = true := by
      intro q hq
      rw [PortState.latched, PortState.latch, BitVec.getLsbD_or, show q.latches.getLsbD _ = true from hq]
      rfl
    rw [hport, hlog]
    by_cases hlt : u.log.length < Config.logSize
    · have hroom : u.makeRoom u.nextEntry false = u := if_pos hlt
      rw [hroom, if_neg (by rintro ⟨hf, -⟩; rw [hf] at hlt; exact absurd hlt (by decide))]
      exact hkept _
    · have hfull : u.log.length = 32 := Nat.le_antisymm h (Nat.not_lt.mp hlt)
      obtain ⟨old, rest, hcons⟩ : ∃ old rest, u.log = old :: rest := by
        cases hl : u.log with
        | nil => simp [hl] at hfull
        | cons old rest => exact ⟨old, rest, rfl⟩
      have hroom : (u.makeRoom u.nextEntry false).port.get p = (u.port.get p).entryRemoved old.number
          ((rest.head?.map Record.number).getD u.nextEntry) false := by
        rw [State.makeRoom, if_neg hlt, hcons]
        exact PerPort.get_mapIdx _ _ _
      have hnew : newest32 (u.log ++ [u.closedRecord r fin reason origin]) = rest ++ [u.closedRecord r fin reason origin] := by
        have hlen : (old :: rest ++ [u.closedRecord r fin reason origin]).length - 32 = 1 := by
          rw [List.length_append, ← hcons, hfull]
          rfl
        rw [hcons, newest32, hlen]
        rfl
      have hhead : ((newest32 (u.log ++ [u.closedRecord r fin reason origin])).head?.map Record.number) =
          some ((rest.head?.map Record.number).getD u.nextEntry) := by
        rw [hnew]
        cases rest <;> rfl
      obtain ⟨hon, hoff⟩ := entryRemoved_eq old.number ((rest.head?.map Record.number).getD u.nextEntry) (u.port.get p)
      rw [hroom, hhead, hfull, hcons]
      by_cases hm : (u.port.get p).mark = old.number
      · rw [if_pos ⟨rfl, by simp [hm]⟩]
        obtain ⟨h1, h2, h3⟩ := hon hm
        exact ⟨congrArg some h1, h2, hover _ h3⟩
      · rw [if_neg (by rintro ⟨-, hc⟩; exact hm (Option.some.inj hc).symm), hoff hm]
        exact hkept _

end StageEnd
end Sys2Proof.Machine


/-! SUPPORT. What stands once the stage of a line has ended. -/

namespace Sys2Proof.Machine

section Ended

variable {s t u v : State} {l : LineId} {quiet : Bool} {reason : EndReason} {origin : Option Port} {r x : Record} {p : Port}

/-! ### What the end of a stage leaves (R24, R67, R94, R109, R143, R144) -/

theorem makeRoom_rest (u : State) (n : Nat) (quiet : Bool) :
    (u.makeRoom n quiet).reg = u.reg ∧ (u.makeRoom n quiet).currentTank = u.currentTank ∧
      (u.makeRoom n quiet).tanks = u.tanks := by
  unfold State.makeRoom
  split
  · exact ⟨rfl, rfl, rfl⟩
  · split <;> exact ⟨rfl, rfl, rfl⟩

theorem closeRecord_rest (u : State) (l : LineId) (fin : FinalValues) (reason : EndReason) (origin : Option Port)
    (quiet : Bool) :
    (u.closeRecord l fin reason origin quiet).reg = u.reg ∧
      (u.closeRecord l fin reason origin quiet).currentTank = u.currentTank ∧
      (u.closeRecord l fin reason origin quiet).tanks = u.tanks := by
  unfold State.closeRecord
  split
  · exact ⟨rfl, rfl, rfl⟩
  · obtain ⟨hreg, hcur, htanks⟩ := makeRoom_rest u u.nextEntry quiet
    unfold State.latchUnless
    split <;> exact ⟨hreg, hcur, htanks⟩

/-- The marks and the losses counted are not touched by what leaves a waiting list or drops a request. -/
theorem endedPort_log (u : State) (l : LineId) (quiet : Bool) (p : Port) :
    ((u.endedPort l quiet).get p).mark = (u.port.get p).mark ∧
      ((u.endedPort l quiet).get p).missed = (u.port.get p).missed := by
  have hlatch : ∀ (v : State) (e : Event), ((v.latchUnless quiet e).port.get p).mark = (v.port.get p).mark ∧
      ((v.latchUnless quiet e).port.get p).missed = (v.port.get p).missed := by
    intro v e
    unfold State.latchUnless
    split
    · exact ⟨rfl, rfl⟩
    · rw [State.latchAll_port, PerPort.get_mapIdx]
      exact ⟨rfl, rfl⟩
  unfold State.endedPort
  dsimp only
  split
  · rw [(hlatch _ _).1, (hlatch _ _).2]
    dsimp only [State.withPort]
    split
    · exact hlatch _ _
    · exact ⟨rfl, rfl⟩
  · dsimp only [State.withPort]
    split
    · exact hlatch _ _
    · exact ⟨rfl, rfl⟩

/-- The record of a stage that closes now is the open record of the cleared line, closed. -/
theorem closing_eq (u : State) (l : LineId) (hr : u.openRec.get l = some r) (quiet : Bool) (reason : EndReason)
    (origin : Option Port) :
    u.closing l r reason origin = (u.stageCleared l quiet).closedRecord
      { r with unplaced := r.unplaced + u.inFlight l, heldSeconds := r.heldSeconds + u.heldNow l } (u.finalValues l)
      reason origin := by
  have hlimit : (u.finalValues l).limit = (u.reg.get l).plim.getD
      (if u.ceiling.get l = 0 then r.pmaxApplied else min r.pmaxApplied (u.ceiling.get l)) := by
    rw [State.finalValues, hr]
    cases (u.reg.get l).plim <;> rfl
  rw [State.closing, ← hlimit]
  rfl

theorem stageCleared_openRec (hr : u.openRec.get l = some r) (quiet : Bool) :
    (u.stageCleared l quiet).openRec.get l =
      some { r with unplaced := r.unplaced + u.inFlight l, heldSeconds := r.heldSeconds + u.heldNow l } := by
  change ((u.openRec.upd l _).get l) = _
  rw [PerLine.get_upd_self, hr]
  rfl

theorem allLatched_of_port {events : EventSet} (h : AllLatched u events) (hp : v.port = u.port) : AllLatched v events :=
  fun q => by rw [hp]; exact h q

/-- What stands once the stage of a line has ended and its record is closed, the line still to move on (R24). -/
structure Ended (l : LineId) (x : Record) (s t : State) : Prop where
  only : LineOnly l s t
  appended : Appended s t x
  openRec : t.openRec.get l = none
  tanks : t.tanks = s.tanks
  currentTank : t.currentTank.get l = none
  demand : t.demand = leftDemand s.demand l
  stageEnd : AllLatched t Event.stageEnd.bit
  dropped : (s.seq.get l).slot ≠ none → AllLatched t Event.pendingDropped.bit
  struck : onList s.demand l = true → AllLatched t Event.supplyWait.bit
  seq : t.seq.get l = (s.seq.get l).ended
  drive : t.drive.get l = restDrive
  reg : t.reg.get l = (s.reg.get l).stageOver

/-- The blocks of a line whose stage has ended, whether or not it had an open record. -/
theorem endStage_blocks (u : State) (l : LineId) (reason : EndReason) (origin : Option Port) (quiet : Bool) :
    (u.endStage l reason origin quiet).tanks = u.tanks ∧ (u.endStage l reason origin quiet).currentTank.get l = none ∧
      (u.endStage l reason origin quiet).seq.get l = (u.seq.get l).ended ∧
      (u.endStage l reason origin quiet).drive.get l = restDrive ∧
      (u.endStage l reason origin quiet).reg.get l = (u.reg.get l).stageOver := by
  rw [endStage_eq]
  obtain ⟨hreg, hcur, htanks⟩ := closeRecord_rest (u.stageCleared l quiet) l (u.finalValues l) reason origin quiet
  refine ⟨htanks, ?_, ?_, ?_, ?_⟩
  · rw [hcur]
    exact PerLine.get_set_self _ _ _
  · rw [closeRecord_seq]
    exact PerLine.get_upd_self _ _ _
  · rw [closeRecord_drive]
    exact PerLine.get_upd_self _ _ _
  · rw [hreg]
    exact PerLine.get_upd_self _ _ _

theorem endStage_ended (hr : u.openRec.get l = some r) (h : u.log.length ≤ 32) (reason : EndReason) (origin : Option Port) :
    Ended l (u.closing l r reason origin) u (u.endStage l reason origin false) := by
  have honly := (LineOnly.refl l u).endStage reason origin false
  have hrec := stageCleared_openRec hr false
  have happ := closeRecord_appended hrec h (u.finalValues l) reason origin
  have hsteady : Steady (u.stageCleared l false) ((u.stageCleared l false).closeRecord l (u.finalValues l) reason origin false) :=
    ((LineOnly.refl l _).closeRecord _ _ _ _).steady
  rw [← closing_eq u l hr] at happ
  obtain ⟨htanks, hcur, hseq, hdrive, hreg⟩ := endStage_blocks u l reason origin false
  rw [endStage_eq] at honly htanks hcur hseq hdrive hreg ⊢
  refine ⟨honly, happ.of_before ⟨rfl, rfl, rfl⟩ (endedPort_log u l false), closeRecord_openRec .., htanks, hcur,
    closeRecord_demand .., ?_, fun hslot => ?_, fun hlist => ?_, hseq, hdrive, hreg⟩
  · rw [closeRecord_eq hrec]
    exact allLatched_latchAll _ _
  · refine AllLatched.steady (s := u.stageCleared l false) ?_ hsteady
    refine allLatched_of_port (allLatched_latchAll
      (u.withPort (if onList u.demand l then (u.latchUnless false .supplyWait).port else u.port)) .pendingDropped) ?_
    exact if_pos (Option.isSome_iff_ne_none.mpr hslot)
  · refine AllLatched.steady (s := u.stageCleared l false) ?_ hsteady
    have hwait : AllLatched (u.withPort (if onList u.demand l then (u.latchUnless false .supplyWait).port else u.port))
        Event.supplyWait.bit := allLatched_of_port (allLatched_latchAll u .supplyWait) (if_pos hlist)
    by_cases hslot : (u.seq.get l).slot.isSome
    · exact allLatched_of_port (hwait.steady ((LineOnly.refl l _).latchAll .pendingDropped).steady) (if_pos hslot)
    · exact allLatched_of_port hwait (if_neg hslot)

end Ended
end Sys2Proof.Machine


/-! PROOF of O35. The four ways a stage ends. -/

namespace Sys2Proof.Machine

section StageEnds

variable {s t u v : State} {l : LineId} {reason : EndReason} {origin : Option Port} {r x : Record} {p : Port}

/-! ### The line moves on (R24 step 7, R25) -/

/-- What stands once a line's stage has ended and the line has moved on to IDLE or FLUSHING, as R24 has it. -/
def StageEndedAs (l : LineId) (x : Record) (s t : State) : Prop :=
  let early : Bool := s.lineState l == .seated || s.lineState l == .testing
  let e := (s.lineTable.get l).displacement * (s.lineTable.get l).efficiency / 100
  OnlyLine l s t ∧ Appended s t x ∧ t.openRec.get l = none ∧
  t.tanks = s.tanks ∧ t.currentTank.get l = none ∧
  AllLatched t Event.stageEnd.bit ∧
  ((s.seq.get l).slot ≠ none → AllLatched t Event.pendingDropped.bit) ∧
  ((∃ d ∈ s.demand, l ∈ d.waiting) →
    AllLatched t Event.supplyWait.bit ∧
    t.demand = (s.demand.map fun d =>
      { d with waiting := d.waiting.filter (· != l) }).filter fun d => !d.waiting.isEmpty) ∧
  ((∀ d ∈ s.demand, l ∉ d.waiting) → t.demand = s.demand) ∧
  t.reg.get l = (s.reg.get l).stageOver ∧
  (early = true → t.seq.get l = (s.seq.get l).stageOver .idle ∧ t.drive.get l = restDrive) ∧
  (early = false →
    t.seq.get l =
      { (s.seq.get l).stageOver .flushing with
        nf := ((s.lineTable.get l).lineVolume * s.timing.flushFactor + e - 1) / e, flushCount := 0 } ∧
    t.drive.get l = startedDrive s l .flush .flush .water s.timing.flushStep .stopped)

theorem Steady.strokeVolume (h : Steady s t) (l : LineId) : t.strokeVolume l = s.strokeVolume l := by
  obtain ⟨⟨hline, -⟩, -⟩ := h
  rw [State.strokeVolume, State.strokeVolume, hline]

/-- Entry into FLUSHING after a stage's end: the line released, its first FLUSH stroke begun (R24 step 7, R25). -/
theorem Ended.flushing (h : Ended l x s v) (hx : 1 ≤ s.timing.flushStep) :
    v.enterFlushing l =
      (v.updSeq l fun q =>
        { q with
          state := .flushing, packerInflated := false, returnOpen := true, source := .water
          nf := ceilDiv ((s.lineTable.get l).lineVolume * s.timing.flushFactor) (s.lineTable.get l).strokeVolume
          flushCount := 0 }).updDrive l fun _ =>
        startedDrive s l .flush .flush .water s.timing.flushStep .stopped := by
  obtain ⟨hline, -, -, htiming, -⟩ := h.only.steady.settings
  rw [enterFlushing_eq (by rw [h.drive]; rfl) (by rw [h.drive]; rfl) (by rw [htiming]; omega)]
  rw [hline, htiming]
  refine updDrive_congr ?_
  rw [State.updSeq_drive, h.drive, startedDrive, startedDrive, h.only.steady.strokeVolume, hline]
  rfl

/-- A line that moves on changes its sequencer and its drive alone. -/
theorem Ended.movesOn (h : Ended l x s v) (f : Sequencer → Sequencer) (d : Drive → Drive) :
    let t := (v.updSeq l f).updDrive l d
    OnlyLine l s t ∧ Appended s t x ∧ t.openRec.get l = none ∧ t.tanks = s.tanks ∧ t.currentTank.get l = none ∧
    AllLatched t Event.stageEnd.bit ∧
    ((s.seq.get l).slot ≠ none → AllLatched t Event.pendingDropped.bit) ∧
    ((∃ d ∈ s.demand, l ∈ d.waiting) →
      AllLatched t Event.supplyWait.bit ∧
      t.demand = (s.demand.map fun d =>
        { d with waiting := d.waiting.filter (· != l) }).filter fun d => !d.waiting.isEmpty) ∧
    ((∀ d ∈ s.demand, l ∉ d.waiting) → t.demand = s.demand) ∧
    t.reg.get l = (s.reg.get l).stageOver := by
  intro t
  have hdemand : t.demand = leftDemand s.demand l := h.demand
  refine ⟨((h.only.updSeq f).updDrive d).onlyLine,
    h.appended.after ⟨rfl, rfl, rfl⟩ (((LineOnly.refl l v).updSeq f).updDrive d).steady fun _ => ⟨rfl, rfl⟩, h.openRec, h.tanks,
    h.currentTank, h.stageEnd, h.dropped, fun hon => ?_, fun hoff => ?_, h.reg⟩
  · have hon : onList s.demand l = true := onList_iff.mpr hon
    exact ⟨h.struck hon, by rw [hdemand, leftDemand, if_pos hon]; rfl⟩
  · rw [hdemand, leftDemand, if_neg]
    rintro hon
    obtain ⟨d, hd, hl⟩ := onList_iff.mp hon
    exact hoff d hd hl

/-- The end of a stage for a reason other than FAULT and RESET (R24). -/
theorem stageEnd_ended (hs : (u.lineState l).hasStage = true) (hr : u.openRec.get l = some r) (h : u.log.length ≤ 32)
    (hx : 1 ≤ u.timing.flushStep) (reason : EndReason) (origin : Option Port) :
    StageEndedAs l (u.closing l r reason origin) u (u.stageEnd l reason origin) := by
  have hended := endStage_ended hr h reason origin
  have hearly : (u.lineState l = .seated ∨ u.lineState l = .testing) →
      StageEndedAs l (u.closing l r reason origin) u ((u.endStage l reason origin false).enterIdle l) := by
    intro hst
    have hidle : (u.endStage l reason origin false).enterIdle l =
        ((u.endStage l reason origin false).updSeq l fun q => { q.released with state := .idle }).updDrive l fun d => d :=
      (updDrive_eq_self rfl).symm
    obtain ⟨h1, h2, h3, h4, h5, h6, h7, h8, h9, h10⟩ :=
      hended.movesOn (fun q => { q.released with state := .idle }) fun d => d
    rw [hidle]
    refine ⟨h1, h2, h3, h4, h5, h6, h7, h8, h9, h10, fun _ => ⟨?_, ?_⟩, fun hlate => ?_⟩
    · rw [State.updDrive_seq, State.updSeq_seq, PerLine.get_upd_self, hended.seq]
      rfl
    · rw [State.updDrive_drive, PerLine.get_upd_self, State.updSeq_drive, hended.drive]
    · rcases hst with hst | hst <;> rw [hst] at hlate <;> cases hlate
  have hlate : u.lineState l ≠ .seated → u.lineState l ≠ .testing →
      StageEndedAs l (u.closing l r reason origin) u ((u.endStage l reason origin false).enterFlushing l) := by
    intro h1' h2'
    rw [hended.flushing hx]
    obtain ⟨h1, h2, h3, h4, h5, h6, h7, h8, h9, h10⟩ := hended.movesOn (fun q =>
        { q with
          state := .flushing, packerInflated := false, returnOpen := true, source := .water
          nf := ceilDiv ((u.lineTable.get l).lineVolume * u.timing.flushFactor) (u.lineTable.get l).strokeVolume
          flushCount := 0 }) fun _ => startedDrive u l .flush .flush .water u.timing.flushStep .stopped
    refine ⟨h1, h2, h3, h4, h5, h6, h7, h8, h9, h10, fun he => ?_, fun _ => ⟨?_, ?_⟩⟩
    · simp [h1', h2'] at he
    · rw [State.updDrive_seq, State.updSeq_seq, PerLine.get_upd_self, hended.seq]
      rfl
    · rw [State.updDrive_drive, PerLine.get_upd_self]
  unfold State.stageEnd
  split
  iterate 4 exact hlate (by simp [*]) (by simp [*])
  iterate 2 exact hearly (by simp [*])
  all_goals simp_all [LineState.hasStage]

/-! ### The four ways a stage ends (R16, R17, R65, R91) -/

theorem AllLatched.respond {events : EventSet} (h : AllLatched v events) (p : Port) (a : Response) :
    AllLatched (v.respond p a) events := fun q => by
  rw [respond_latches]
  exact h q

theorem respond_log (v : State) (p q : Port) (a : Response) :
    ((v.respond p a).port.get q).mark = (v.port.get q).mark ∧ ((v.respond p a).port.get q).missed = (v.port.get q).missed := by
  rw [State.respond, State.updPort_port, PerPort.get_upd]
  split <;> exact ⟨rfl, rfl⟩

theorem restartSilence_log (s : State) (p q : Port) :
    ((s.restartSilence p).port.get q).mark = (s.port.get q).mark ∧
      ((s.restartSilence p).port.get q).missed = (s.port.get q).missed := by
  rw [State.restartSilence, State.updPort_port, PerPort.get_upd]
  split <;> exact ⟨rfl, rfl⟩

theorem Appended.respond (h : Appended s v x) (p : Port) (a : Response) : Appended s (v.respond p a) x := by
  obtain ⟨hlog, hentry, hseq, hports⟩ := h
  refine ⟨hlog, hentry, hseq, fun q => ?_⟩
  have hq := hports q
  rw [(respond_log v p q a).1, (respond_log v p q a).2, PortState.latched, respond_latches]
  exact hq

theorem StageEndedAs.request (h : StageEndedAs l x (s.restartSilence p) v) (a : Response) :
    StageEndedAs l x s (v.respond p a) := by
  obtain ⟨h1, h2, h3, h4, h5, h6, h7, h8, h9, h10, h11, h12⟩ := h
  exact ⟨h1, Appended.respond (h2.of_before (s := s) ⟨rfl, rfl, rfl⟩ (restartSilence_log s p)) p a, h3, h4, h5, h6.respond p a,
    fun hs => (h7 hs).respond p a, fun hd => ⟨(h8 hd).1.respond p a, (h8 hd).2⟩, h9, h10, h11, h12⟩

theorem finishAt_taken (hs : (u.lineState l).hasStage = true) :
    finishAt l u = (u.stageEnd l (if u.lineState l = .seated ∨ u.lineState l = .testing then .withdrawn else .operator) none,
      plain .ok) := by
  unfold finishAt
  cases hst : u.lineState l <;> simp_all [LineState.hasStage]

theorem abortAt_taken (hs : (u.lineState l).hasStage = true) (p : Port) :
    abortAt p l u = (u.stageEnd l .abort (some p), plain .ok) := if_pos hs

/-- Settles O35: each of the four is the end of the stage, a request between its silence timer and its answer. -/
theorem stageEndsCloseTheRecord : Obligations.StageEndsCloseTheRecord := by
  intro s l i reason origin hi hlen hx r hr
  have hrequest : ∀ (q : Port) (a : Response), (s.lineState l).hasStage = true →
      StageEndedAs l (s.closing l r reason origin) s (((s.restartSilence q).stageEnd l reason origin).respond q a) :=
    fun q a hs => (stageEnd_ended (u := s.restartSilence q) hs hr hlen hx reason origin).request a
  have hevent : (s.lineState l).hasStage = true → StageEndedAs l (s.closing l r reason origin) s (s.stageEnd l reason origin) :=
    fun hs => stageEnd_ended hs hr hlen hx reason origin
  rcases hi with ⟨rfl, hfree, hs, rfl, rfl⟩ | ⟨rfl, hfree, hs, rfl, rfl⟩ | ⟨rfl, hfree, hs, rfl, rfl⟩ |
    ⟨rfl, hs, hrun, hnot, rfl, rfl⟩ | ⟨rfl, hs, hrun, hnot, rfl, rfl⟩
  · exact ⟨_, line_request hfree (by decide) (finishAt_taken (u := s.restartSilence .gallery) hs), hrequest _ _ hs⟩
  · exact ⟨_, line_request hfree (by decide) (abortAt_taken (u := s.restartSilence .gallery) hs _), hrequest _ _ hs⟩
  · exact ⟨_, line_request hfree (by decide) (abortAt_taken (u := s.restartSilence .monitor) hs _), hrequest _ _ hs⟩
  · refine ⟨s.stageEnd l .staticTimeout none,
      congrArg Host.Outcome.next ((onEvent_of_not_overtaken hnot.overtaken _).trans (if_pos ?_)), hevent ?_⟩
    · rw [Timer.isRunning_iff.mpr hrun, LineState.stands_iff.mpr hs]
      rfl
    · rcases hs with hs | hs <;> rw [hs] <;> rfl
  · refine ⟨s.stageEnd l .refusal none,
      congrArg Host.Outcome.next ((onEvent_of_not_overtaken hnot.overtaken _).trans (if_pos ?_)), hevent ?_⟩
    · rw [Timer.isRunning_iff.mpr hrun, hs]
      rfl
    · rw [hs]
      rfl

end StageEnds
end Sys2Proof.Machine


/-! PROOF of O43. A line faulted by its stroke watch. -/

namespace Sys2Proof.Machine

section Faults

variable {s t u v : State} {l : LineId} {cause : FaultCause} {reason : EndReason} {r x : Record} {k : Stroke}

/-! ### A line enters FAULT (R26) -/

theorem lineFault_stage (hs : (u.lineState l).hasStage = true) (cause : FaultCause) :
    u.lineFault l cause = (u.endStage l .fault none false).enterFault l cause := by
  unfold State.lineFault
  split <;> simp_all [LineState.hasStage]

/-- A line without a stage enters FAULT with its drive stopped: its work counted off, a request dropped (R26). -/
theorem lineFault_flushing (hs : u.lineState l = .flushing) (cause : FaultCause) :
    u.lineFault l cause =
      ((((u.updSeq l fun q =>
        { q.released with
          state := .fault, faultCause := some cause, flushCount := 0, nf := 0, slot := none }).updDrive l fun _ =>
        restDrive).putUnplaced l (u.inFlight l)).withPort
        (if (u.seq.get l).slot.isSome then (u.latchUnless false .pendingDropped).port else u.port)).latchAll
        .lineFault := by
  have hslot : (((u.stopDrive l).updSeq l fun q => { q with flushCount := 0, nf := 0 }).seq.get l).slot =
      (u.seq.get l).slot := by
    rw [stopDrive_eq, State.updSeq_seq, PerLine.get_upd_self]
    rfl
  rw [State.lineFault, hs]
  dsimp only
  rw [dropSlot_eq, hslot, stopDrive_eq, State.enterFault]
  simp only [updRec_updSeq, updDrive_updSeq, updSeq_updSeq, withPort_updSeq]
  rfl

theorem lineFault_idle (hs : u.lineState l = .idle) (cause : FaultCause) :
    u.lineFault l cause =
      (((u.updSeq l fun q =>
        { q.released with state := .fault, faultCause := some cause, holdsGrout := false }).updDrive l fun _ =>
        restDrive).putUnplaced l (u.inFlight l)).latchAll .lineFault := by
  rw [State.lineFault, hs]
  dsimp only
  rw [stopDrive_eq, State.enterFault]
  simp only [updRec_updSeq, updDrive_updSeq, updSeq_updSeq]
  rfl

theorem enterFault_port (v : State) (l : LineId) (cause : FaultCause) (p : Port) :
    (((v.enterFault l cause).port.get p).mark = (v.port.get p).mark ∧
      ((v.enterFault l cause).port.get p).missed = (v.port.get p).missed) := by
  rw [State.enterFault, State.latchAll_port, PerPort.get_mapIdx]
  exact ⟨rfl, rfl⟩

/-- What stands once the stage of a line has ended and the line is in FAULT (R24, R26). -/
theorem Ended.faults (h : Ended l x s v) (cause : FaultCause) :
    Appended s (v.enterFault l cause) x ∧ (v.enterFault l cause).openRec.get l = none ∧
      AllLatched (v.enterFault l cause) (eventsOf [.stageEnd, .lineFault]) :=
  ⟨h.appended.after ⟨rfl, rfl, rfl⟩ (((LineOnly.refl l v).updSeq _).latchAll _).steady (enterFault_port v l cause), h.openRec,
    AllLatched.latchAll (u := v.updSeq l _) h.stageEnd .lineFault⟩

/-- The blocks of a line whose stage a fault has ended. -/
theorem faulted_blocks (hs : (u.lineState l).hasStage = true) (cause : FaultCause) :
    (u.lineFault l cause).tanks = u.tanks ∧ (u.lineFault l cause).currentTank.get l = none ∧
      (u.lineFault l cause).seq.get l = { (u.seq.get l).stageOver .fault with faultCause := some cause } ∧
      (u.lineFault l cause).drive.get l = restDrive ∧
      (u.lineFault l cause).reg.get l = (u.reg.get l).stageOver := by
  obtain ⟨htanks, hcur, hseq, hdrive, hreg⟩ := endStage_blocks u l .fault none false
  rw [lineFault_stage hs]
  refine ⟨htanks, hcur, ?_, hdrive, hreg⟩
  rw [State.enterFault, State.latchAll_seq, State.updSeq_seq, PerLine.get_upd_self, hseq]
  rfl

theorem lineFault_latched (hs : u.lineState l ≠ .fault) (ho : u.lineState l ≠ .off) (cause : FaultCause) :
    AllLatched (u.lineFault l cause) Event.lineFault.bit := by
  unfold State.lineFault
  split
  iterate 8 exact allLatched_latchAll _ _
  · contradiction
  · contradiction

/-! ### The stroke watch (R37, R38) -/

/-- A drive whose stroke has failed: given up, with the rate steps 0 (R38). -/
def Drive.failed (d : Drive) : Drive := { d with rate := 0, pendingRate := 0, stroke := none, watch := none }

/-- A line whose stroke has failed, the failure still to be reported (R38). -/
def State.strokeGivenUp (u : State) (l : LineId) : State := (u.updDrive l Drive.failed).putUnplaced l (u.inFlight l)

theorem strokeFailure_eq (hk : (u.drive.get l).stroke = some k) :
    u.strokeFailure l = (u.strokeGivenUp l).lineFault l .stroke := by
  have hgiven : (u.abandonStroke l).updDrive l (fun d => { d with rate := 0, pendingRate := 0 }) =
      (u.abandonStroke l).updDrive l Drive.failed := by
    refine updDrive_congr ?_
    rw [State.abandonStroke, hk]
    simp [Drive.failed]
  rw [State.strokeFailure, hgiven, abandonStroke_updDrive u l fun _ => rfl]
  rfl

theorem strokeGivenUp_closing (hr : u.openRec.get l = some r) :
    (u.strokeGivenUp l).openRec.get l = some { r with unplaced := r.unplaced + u.inFlight l } ∧
      (u.strokeGivenUp l).closing l { r with unplaced := r.unplaced + u.inFlight l } .fault none =
        { u.closing l r .fault none with
          ending := (u.closing l r .fault none).ending.map fun e => { e with rate := 0 } } := by
  have hdrive : (u.strokeGivenUp l).drive.get l = (u.drive.get l).failed := PerLine.get_upd_self _ _ _
  have hflight : (u.strokeGivenUp l).inFlight l = 0 := by
    rw [State.inFlight, hdrive]
    rfl
  refine ⟨?_, ?_⟩
  · rw [State.strokeGivenUp, State.updRec_openRec, PerLine.get_upd_self]
    exact congrArg (Option.map _) hr
  · rw [State.closing, hflight, hdrive]
    rfl

theorem exec_strokeWatch (hk : (s.drive.get l).stroke = some k) (hrun : k.running = true) (hw : (s.drive.get l).watch ≠ none)
    (hn : s.NotOvertaken (.strokeWatchExpiry l)) : exec (.strokeWatchExpiry l) s = .next (s.strokeFailure l) := by
  refine congrArg Host.Outcome.next ((onEvent_of_not_overtaken hn.overtaken _).trans (if_pos ?_))
  rw [Drive.isRunning, hk, Bool.and_eq_true]
  exact ⟨hrun, Option.isSome_iff_ne_none.mpr hw⟩

/-- Nothing comes of the sense or the watch of a line without a running stroke (R35; log 5). -/
theorem stroke_event_ignored (h : ∀ k ∈ (s.drive.get l).stroke, k.running = false) :
    exec (.strokeComplete l) s = .next s ∧ exec (.strokeWatchExpiry l) s = .next s := by
  have hsense : s.senseStroke l = s := by
    unfold State.senseStroke
    split
    · rename_i k hk
      rw [h k hk]
      rfl
    · rfl
  have hrunning : (s.drive.get l).isRunning = false := by
    unfold Drive.isRunning
    split
    · rename_i k hk
      exact h k hk
    · rfl
  refine ⟨congrArg Host.Outcome.next (onEvent_induct (P := fun t => t = s) rfl hsense),
    congrArg Host.Outcome.next (onEvent_induct (P := fun t => t = s) rfl (if_neg ?_))⟩
  rw [hrunning]
  exact Bool.false_ne_true

/-- Settles O43: a failed stroke is given up first, and the fault is then reported by the state of the line. -/
theorem strokeWatchFaultsTheLine : Obligations.StrokeWatchFaultsTheLine := by
  refine fun s l => ⟨stroke_event_ignored, fun hw hn hlen k hk hrun => ?_⟩
  have hfail := strokeFailure_eq hk
  have honly : OnlyLine l s (s.strokeFailure l) := (LineOnly.refl l s).strokeFailure.onlyLine
  rw [hfail] at honly
  have hexec := (exec_strokeWatch hk hrun hw hn).trans (congrArg Host.Outcome.next hfail)
  refine ⟨fun r hr hs => ⟨_, hexec, ?_⟩, fun hs => ⟨_, hexec, honly, ?_⟩⟩
  · obtain ⟨hrec, hclosing⟩ := strokeGivenUp_closing hr
    obtain ⟨happ, hnone, hlatched⟩ := (endStage_ended hrec (u := s.strokeGivenUp l) hlen .fault none).faults .stroke
    obtain ⟨htanks, hcur, hseq, hdrive, hreg⟩ := faulted_blocks (u := s.strokeGivenUp l) (l := l) hs .stroke
    rw [lineFault_stage (u := s.strokeGivenUp l) hs] at honly htanks hcur hseq hdrive hreg ⊢
    rw [hclosing] at happ
    exact ⟨honly, htanks, hcur, happ.of_before ⟨rfl, rfl, rfl⟩ fun _ => ⟨rfl, rfl⟩, hnone, hlatched, hseq, hdrive, hreg⟩
  · rw [lineFault_flushing (u := s.strokeGivenUp l) hs]
    refine ⟨⟨rfl, rfl⟩, ⟨rfl, rfl, rfl⟩, allLatched_latchAll _ _, ?_, PerLine.get_upd_self _ _ _, rfl⟩
    exact PerLine.get_upd_self _ _ _

end Faults
end Sys2Proof.Machine


/-! PROOF of O46. A line faulted by its sensor. -/

namespace Sys2Proof.Machine

section InvalidSamples

variable {s t u v : State} {l : LineId} {cause : FaultCause} {r : Record}

/-! ### A fault in whatever state (R26, R32) -/

/-- What every fault leaves of a line that is not OFF: it is in FAULT with the cause reported, its drive stopped unless
it was in FAULT before, and its last reading as it was (R26, R32). -/
theorem lineFault_enters (ho : u.lineState l ≠ .off) (cause : FaultCause) :
    let t := u.lineFault l cause
    t.tanks = u.tanks ∧ t.lineState l = .fault ∧ (t.seq.get l).faultCause = some cause ∧
    (t.seq.get l).holdsGrout = ((u.seq.get l).holdsGrout && decide (u.lineState l ≠ .idle)) ∧
    (u.lineState l ≠ .fault → t.drive.get l = restDrive) ∧
    ((t.reg.get l).invalidCount = (u.reg.get l).invalidCount ∧ (t.reg.get l).gauge = (u.reg.get l).gauge ∧
      (t.reg.get l).lastReading = (u.reg.get l).lastReading) := by
  intro t
  have hstage : (u.lineState l).hasStage = true → t.tanks = u.tanks ∧ t.lineState l = .fault ∧
      (t.seq.get l).faultCause = some cause ∧
      (t.seq.get l).holdsGrout = ((u.seq.get l).holdsGrout && decide (u.lineState l ≠ .idle)) ∧
      (u.lineState l ≠ .fault → t.drive.get l = restDrive) ∧
      ((t.reg.get l).invalidCount = (u.reg.get l).invalidCount ∧ (t.reg.get l).gauge = (u.reg.get l).gauge ∧
        (t.reg.get l).lastReading = (u.reg.get l).lastReading) := by
    intro hs
    obtain ⟨htanks, -, hseq, hdrive, hreg⟩ := faulted_blocks hs cause
    have hidle : u.lineState l ≠ .idle := fun h => by simp [h, LineState.hasStage] at hs
    rw [State.lineState, hseq, hreg]
    refine ⟨htanks, rfl, rfl, ?_, fun _ => hdrive, rfl, rfl, rfl⟩
    rw [decide_eq_true hidle, Bool.and_true]
    rfl
  cases hs : u.lineState l with
  | seated | testing | charging | ready | injecting | held =>
    rw [hs] at hstage
    exact hstage rfl
  | off => exact absurd hs ho
  | idle =>
    have ht : t = u.lineFault l cause := rfl
    rw [ht, lineFault_idle hs, State.lineState]
    refine ⟨rfl, ?_, ?_, ?_, fun _ => PerLine.get_upd_self _ _ _, rfl, rfl, rfl⟩
    · exact congrArg Sequencer.state (PerLine.get_upd_self _ _ _)
    · exact congrArg Sequencer.faultCause (PerLine.get_upd_self _ _ _)
    · refine (congrArg Sequencer.holdsGrout (PerLine.get_upd_self _ _ _)).trans ?_
      simp
  | flushing =>
    have ht : t = u.lineFault l cause := rfl
    rw [ht, lineFault_flushing hs, State.lineState]
    refine ⟨rfl, ?_, ?_, ?_, fun _ => PerLine.get_upd_self _ _ _, rfl, rfl, rfl⟩
    · exact congrArg Sequencer.state (PerLine.get_upd_self _ _ _)
    · exact congrArg Sequencer.faultCause (PerLine.get_upd_self _ _ _)
    · refine (congrArg Sequencer.holdsGrout (PerLine.get_upd_self _ _ _)).trans ?_
      simp [Sequencer.released]
  | fault =>
    have ht : t = u.updSeq l fun q => { q with faultCause := some cause } := by
      change u.lineFault l cause = _
      rw [State.lineFault, hs]
    rw [ht, State.lineState]
    refine ⟨rfl, ?_, ?_, ?_, fun h => absurd rfl h, rfl, rfl, rfl⟩
    · exact (congrArg Sequencer.state (PerLine.get_upd_self _ _ _)).trans hs
    · exact congrArg Sequencer.faultCause (PerLine.get_upd_self _ _ _)
    · refine (congrArg Sequencer.holdsGrout (PerLine.get_upd_self _ _ _)).trans ?_
      simp

/-! ### The invalid readings (R46, R47) -/

/-- A regulator that has taken an invalid reading, its sample timer started again (R46, R47). -/
def Regulator.afterInvalid (g : Regulator) : Regulator :=
  { g with sampleTimer := .running 0 500, lastReading := .invalid, invalidCount := min 3 (g.invalidCount + 1) }

theorem takeSample_invalid (u : State) (l : LineId) :
    u.takeSample l .invalid =
      if min 3 ((u.reg.get l).invalidCount + 1) = 3 then (u.updReg l Regulator.afterInvalid).lineFault l .sensor
      else u.updReg l Regulator.afterInvalid := by
  have hread : (u.updReg l fun g => { g with sampleTimer := .running 0 Config.samplePeriod }).updReg l
      Regulator.invalidReading = u.updReg l Regulator.afterInvalid := updReg_updReg ..
  have hcount : ((u.updReg l Regulator.afterInvalid).reg.get l).invalidCount = min 3 ((u.reg.get l).invalidCount + 1) :=
    congrArg Regulator.invalidCount (PerLine.get_upd_self _ _ _)
  rw [State.takeSample, State.invalidSample, hread, hcount]

/-- Settles O46: the count rises with every invalid reading, and at 3 the failure is reported to the sequencer. -/
theorem invalidSamplesFaultTheLine : Obligations.InvalidSamplesFaultTheLine := by
  refine fun s l reading => ⟨fun h => congrArg Host.Outcome.next (if_pos h), fun ho hc => ?_, fun ho hc hlen => ?_⟩
  · rw [exec_sample ho, takeSample_invalid, if_neg (by omega)]
    refine congrArg Host.Outcome.next (updReg_congr ?_)
    rw [Regulator.afterInvalid, Nat.min_eq_right (by omega)]
  · let u := s.updReg l Regulator.afterInvalid
    have hcount : min 3 ((s.reg.get l).invalidCount + 1) = 3 := by omega
    have hreg : u.reg.get l = (s.reg.get l).afterInvalid := PerLine.get_upd_self _ _ _
    obtain ⟨htanks, hstate, hcause, hgrout, hrest, hinvalid, hgauge, hlast⟩ := lineFault_enters (u := u) ho .sensor
    rw [hreg] at hinvalid hgauge hlast
    refine ⟨_, (exec_sample ho _).trans (congrArg Host.Outcome.next ((takeSample_invalid s l).trans (if_pos hcount))),
      (((LineOnly.refl l s).updReg _).lineFault _).onlyLine, htanks, hstate, hcause, hinvalid.trans hcount, hgauge, hlast,
      fun hf => ⟨lineFault_latched (u := u) hf ho _, hrest hf⟩, fun hf => ?_, fun hi => ?_, fun hi => ?_, fun hs r hr => ?_⟩
    · have hfault : u.lineFault l .sensor = u.updSeq l fun q => { q with faultCause := some .sensor } := by
        rw [State.lineFault, show u.lineState l = .fault from hf]
      rw [hfault]
      exact ⟨⟨rfl, rfl⟩, ⟨rfl, rfl, rfl⟩, rfl⟩
    · rw [hgrout, decide_eq_false (not_not_intro (by exact hi)), Bool.and_false]
    · rw [hgrout, decide_eq_true (by exact hi), Bool.and_true]
      rfl
    · obtain ⟨happ, hnone, hlatched⟩ := (endStage_ended (u := u) hr hlen .fault none).faults .sensor
      have hclosing : u.closing l r .fault none = s.closing l r .fault none := by
        rw [State.closing, hreg]
        rfl
      rw [hclosing] at happ
      rw [lineFault_stage (u := u) hs]
      exact ⟨happ.of_before ⟨rfl, rfl, rfl⟩ fun _ => ⟨rfl, rfl⟩, hnone,
        (endStage_ended (u := u) hr hlen .fault none).stageEnd.steady
          (((LineOnly.refl l _).updSeq _).latchAll .lineFault).steady⟩

end InvalidSamples
end Sys2Proof.Machine


/-! PROOF of O42. A stage ended by its volume limit. -/

namespace Sys2Proof.Machine

section Completions

variable {s t u v : State} {l : LineId} {k : Stroke} {r x : Record} {last : MixStep} {steps : List MixStep}

/-! ### A stroke completed and credited (R34, R35) -/

/-- A line whose stroke has just completed: credited, the drive without a stroke (R35 steps 2 and 3). -/
def State.strokeDone (u : State) (l : LineId) (k : Stroke) : State :=
  (u.creditStroke l k).updDrive l fun d => { d with stroke := none, watch := none }

theorem strokeDone_test (hp : k.purpose = .test) :
    u.strokeDone l k = (u.updReg l fun g => { g with testVolume := g.testVolume + k.volume }).updDrive l fun d =>
      { d with stroke := none, watch := none } := by
  rw [State.strokeDone, State.creditStroke, hp]

theorem strokeDone_charge (hp : k.purpose = .charge) :
    u.strokeDone l k = (u.updRec l fun x => { x with charge := x.charge + k.volume }).updDrive l fun d =>
      { d with stroke := none, watch := none } := by
  rw [State.strokeDone, State.creditStroke, hp]

theorem strokeDone_inject (hp : k.purpose = .inject) :
    u.strokeDone l k = (u.updRec l fun x =>
      { x with injected := x.injected + k.volume, steps := creditLast k.volume x.steps }).updDrive l fun d =>
      { d with stroke := none, watch := none } := by
  rw [State.strokeDone, State.creditStroke, hp]

/-- A stroke that places nothing: FLUSH and CIRCULATE. -/
theorem strokeDone_water (hp : k.purpose = .flush ∨ k.purpose = .circulate) :
    u.strokeDone l k = u.updDrive l fun d => { d with stroke := none, watch := none } := by
  rw [State.strokeDone, State.creditStroke]
  rcases hp with hp | hp <;> rw [hp]

theorem completeStroke_at_once (h : (u.drive.get l).startsLater k = false) :
    u.completeStroke l k = ((u.strokeDone l k).completionAction l k.purpose).nextStroke l := by
  rw [State.completeStroke, h]
  rfl

theorem completeStroke_later (h : (u.drive.get l).startsLater k = true) :
    u.completeStroke l k = (u.strokeDone l k).completionAction l k.purpose := if_pos h

/-- Only a CHARGE stroke that has run for some time leaves its successor to start later (log 25). -/
theorem startsLater_eq_false {d : Drive} (h : k.purpose = .charge → ∀ w ∈ d.watch, w = 0) : d.startsLater k = false := by
  rw [Drive.startsLater, Bool.and_eq_false_iff]
  by_cases hp : k.purpose = .charge
  · refine .inr (decide_eq_false ?_)
    cases hw : d.watch with
    | none => exact Nat.lt_irrefl 0
    | some w => exact (h hp w hw).symm ▸ Nat.lt_irrefl 0
  · exact .inl (beq_eq_false_iff_ne.mpr hp)

theorem nextStroke_eq_self (h : (u.drive.get l).purpose = .none ∨ (u.drive.get l).stroke ≠ none ∨
    (u.drive.get l).burst ≠ none ∨ (u.drive.get l).pendingRate = 0) : u.nextStroke l = u := by
  refine if_neg ?_
  rcases h with h | h | h | h <;> simp [h]

theorem nextStroke_starts (hp : (u.drive.get l).purpose ≠ .none) (hn : (u.drive.get l).stroke = none)
    (hb : (u.drive.get l).burst = none) (hx : (u.drive.get l).pendingRate ≠ 0) :
    u.nextStroke l = u.startStroke l none := by
  refine if_pos ?_
  simp [hp, hn, hb, hx]

/-- The credit of an INJECT stroke raises the last mix step alone (R34, R140). -/
theorem creditLast_eq (volume : Nat) : ∀ {steps : List MixStep}, steps.getLast? = some last →
    creditLast volume steps = steps.dropLast ++ [{ last with volume := last.volume + volume }]
  | [m], h => by
    obtain rfl : m = last := Option.some.inj h
    rfl
  | m :: n :: ms, h => by
    have ih := creditLast_eq volume (steps := n :: ms) ((List.getLast?_cons_cons ..).symm.trans h)
    rw [creditLast, ih]
    rfl

/-- A record credited with an INJECT stroke of a volume (R34). -/
def Record.injectedBy (r : Record) (last : MixStep) (volume : Nat) : Record :=
  { r with
    injected := r.injected + volume
    steps := r.steps.dropLast ++ [{ last with volume := last.volume + volume }] }

theorem strokeDone_openRec (hp : k.purpose = .inject) (hr : u.openRec.get l = some r) (hl : r.steps.getLast? = some last) :
    (u.strokeDone l k).openRec.get l = some (r.injectedBy last k.volume) := by
  rw [strokeDone_inject hp, State.updDrive_openRec, State.updRec_openRec, PerLine.get_upd_self, hr]
  exact congrArg some (congrArg (fun steps => { r with injected := r.injected + k.volume, steps := steps })
    (creditLast_eq _ hl))

/-- A credit changes neither the sequencer nor the drive (R34). -/
theorem creditStroke_seq_drive (u : State) (l : LineId) (k : Stroke) :
    (u.creditStroke l k).seq = u.seq ∧ (u.creditStroke l k).drive = u.drive := by
  unfold State.creditStroke
  split <;> exact ⟨rfl, rfl⟩

theorem strokeDone_seq (u : State) (l : LineId) (k : Stroke) : (u.strokeDone l k).seq = u.seq :=
  (creditStroke_seq_drive u l k).1

theorem strokeDone_drive (u : State) (l : LineId) (k : Stroke) :
    (u.strokeDone l k).drive.get l = { u.drive.get l with stroke := none, watch := none } := by
  rw [State.strokeDone, State.updDrive_drive, PerLine.get_upd_self, (creditStroke_seq_drive u l k).2]

/-- A running INJECT stroke finds its line in INJECTING, without a burst and on no waiting list (R32, R40, R105). -/
theorem injecting_of_running (h : s.LineInv l) (hk : (s.drive.get l).stroke = some k) (hrun : k.running = true)
    (hp : k.purpose = .inject) :
    s.lineState l = .injecting ∧ (s.drive.get l).burst = none ∧ (s.drive.get l).purpose = .inject ∧
      onList s.demand l = false := by
  obtain ⟨hseq, hdrive⟩ := lineInv_iff.mp h
  have hfits := hdrive.stroke k hk
  simp only [strokeFits, hp, hrun, Bool.not_true, Bool.and_false, Bool.false_and, Bool.or_false, Bool.and_eq_true,
    beq_iff_eq, Option.isNone_iff_eq_none] at hfits
  obtain ⟨hb, hst⟩ := hfits
  have hpur := hdrive.purpose
  refine ⟨hst, hb, ?_, (hseq.notHeld (by rw [hst]; decide)).2.2.2.1⟩
  cases hd : (s.drive.get l).purpose <;> simp [purposeFits, hd, hst] at hpur
  rfl

theorem evaluateInject_limit (hr : u.openRec.get l = some r) (hv : r.vmax ≤ perMetre r.injected r.ls) :
    u.evaluateInject l = u.stageEnd l .volumeLimit none := by
  rw [State.evaluateInject, hr]
  exact if_pos hv

theorem evaluateInject_below (hr : u.openRec.get l = some r) (hv : perMetre r.injected r.ls < r.vmax) :
    u.evaluateInject l = u.tryThicken l r := by
  rw [State.evaluateInject, hr]
  exact if_neg (Nat.not_le.mpr hv)

/-- The record of a stage that closes with its stroke just completed (R24, R34). -/
theorem strokeDone_closing (hp : k.purpose = .inject) (x : Record) (reason : EndReason) :
    (s.strokeDone l k).closing l x reason none = { s.closing l x reason none with unplaced := x.unplaced } := by
  have hflight : (s.strokeDone l k).inFlight l = 0 := by
    rw [State.inFlight, strokeDone_drive]
  rw [State.closing, hflight, strokeDone_drive, strokeDone_inject hp]
  rfl

/-- Settles O42: the stroke is credited, and the stage then ends as any other. -/
theorem volumeLimitEndsTheStage : Obligations.VolumeLimitEndsTheStage := by
  intro s l hinv hlen hx hn k hk hrun hp r hr last hl hv
  obtain ⟨hst, -, -, hoff⟩ := injecting_of_running hinv hk hrun hp
  have hdone := strokeDone_inject (u := s) (l := l) hp
  have hrec := strokeDone_openRec hp hr hl
  have hexec := exec_strokeComplete hk hrun hn
  have honly : OnlyLine l s (s.completeStroke l k) := ((LineOnly.refl l s).completeStroke k).onlyLine
  have hstate : (s.strokeDone l k).lineState l = .injecting := by rw [hdone]; exact hst
  have hended := stageEnd_ended (u := s.strokeDone l k) (l := l) (by rw [hstate]; rfl) hrec (by rw [hdone]; exact hlen)
    (by rw [hdone]; exact hx) .volumeLimit none
  have haction : (s.strokeDone l k).completionAction l k.purpose = (s.strokeDone l k).stageEnd l .volumeLimit none := by
    rw [hp]
    exact evaluateInject_limit hrec hv
  obtain ⟨-, happ, hnone, htanks, hcur, hlatched, -, -, hdemand, hreg, -, hlate⟩ := hended
  obtain ⟨hseq, hdrive⟩ := hlate (by rw [hstate]; rfl)
  rw [completeStroke_at_once (startsLater_eq_false fun h => by rw [hp] at h; cases h), haction,
    nextStroke_eq_self (.inr (.inl (by rw [hdrive]; exact Option.some_ne_none _)))] at honly hexec
  rw [strokeDone_closing hp] at happ
  refine ⟨_, hexec, honly, ?_, hnone, ?_, ?_, hcur, ?_, hlatched, ?_, ?_⟩
  · refine happ.of_before ?_ fun p => ?_
    · rw [hdone]; exact ⟨rfl, rfl, rfl⟩
    · rw [hdone]; exact ⟨rfl, rfl⟩
  · rw [htanks, hdone]
    rfl
  · rw [hdemand]
    · rw [hdone]; rfl
    · rw [hdone]
      intro d hd hmem
      exact Bool.false_ne_true (hoff.symm.trans (onList_iff.mpr ⟨d, hd, hmem⟩))
  · rw [State.lineState, hseq]
    rfl
  · rw [hdrive, hdone]
    rfl
  · rw [hreg, hdone]
    rfl

end Completions
end Sys2Proof.Machine


/-! PROOF of O41. INJECT strokes that go on, and the ladder of mixes. -/

namespace Sys2Proof.Machine

section Thickening

variable {s t u v : State} {l : LineId} {k : Stroke} {r x : Record} {last : MixStep} {mix m next : Nat}
  {events : EventSet}

/-! ### Thickening (R83 to R86) -/

theorem tryThicken_stays (hm : (u.seq.get l).currentMix = some mix)
    (h : u.mixStep mix = 0 ∨ perMetre x.stepVolume x.ls < u.mixStep mix ∨ x.thickest ≤ mix ∨
      (∀ pn ∈ (u.reg.get l).pn, ∀ low ∈ (u.reg.get l).lowerBand, low ≤ pn) ∨
      (∀ m, mix < m → m ≤ x.thickest → u.mixEnabled m = false)) : u.tryThicken l x = u := by
  have hnext : (∀ m, mix < m → m ≤ x.thickest → u.mixEnabled m = false) → u.nextMix mix x.thickest = none := by
    intro h
    refine List.find?_eq_none.mpr fun m hmem => ?_
    obtain ⟨h1, h2⟩ := List.mem_range'_1.mp hmem
    rw [h m (by omega) (by omega)]
    exact Bool.false_ne_true
  have hthickens : u.thickens l x mix = true → u.nextMix mix x.thickest = none := by
    intro ht
    rw [State.thickens, Bool.and_eq_true, Bool.and_eq_true, Bool.and_eq_true, decide_eq_true_iff, decide_eq_true_iff,
      decide_eq_true_iff] at ht
    obtain ⟨⟨⟨h1, h2⟩, h3⟩, h4⟩ := ht
    rcases h with h | h | h | h | h
    · omega
    · omega
    · omega
    · rw [Regulator.belowBand] at h4
      split at h4
      · rename_i pn low hpn hlow
        have := h pn hpn low hlow
        have := of_decide_eq_true h4
        omega
      · cases h4
    · exact hnext h
  rw [State.tryThicken, hm]
  dsimp only
  split
  · rename_i ht
    rw [hthickens ht]
  · rfl

theorem tryThicken_advances (hm : (u.seq.get l).currentMix = some mix) (hstep : 0 < u.mixStep mix)
    (hvol : u.mixStep mix ≤ perMetre x.stepVolume x.ls) {pn low : Nat} (hpn : (u.reg.get l).pn = some pn)
    (hlow : (u.reg.get l).lowerBand = some low) (hlt : pn < low) (h1 : mix < next) (h2 : next ≤ x.thickest)
    (hon : u.mixEnabled next = true) (hoff : ∀ m, mix < m → m < next → u.mixEnabled m = false) :
    u.tryThicken l x = u.thicken l next := by
  have hthickens : u.thickens l x mix = true := by
    simp [State.thickens, Regulator.belowBand, hstep, hvol, hpn, hlow, hlt, Nat.lt_of_lt_of_le h1 h2]
  have hnext : u.nextMix mix x.thickest = some next := by
    refine List.find?_range'_eq_some.mpr ⟨hon, List.mem_range'_1.mpr ⟨h1, by omega⟩, fun m hm1 hm2 => ?_⟩
    rw [hoff m hm1 hm2]
    rfl
  rw [State.tryThicken, hm]
  dsimp only
  rw [if_pos hthickens, hnext]

/-! ### The stroke that follows an INJECT completion (R33, R35 step 5) -/

/-- A line in INJECTING whose stroke has completed, its mix, its record and the latches as the evaluation left them. -/
def State.injectOn (s : State) (l : LineId) (m : Nat) (x : Record) (p : PerPort PortState) : State :=
  (((s.updSeq l fun q => { q with currentMix := some m }).updDrive l fun d =>
    { d with stroke := none, watch := none }).updRec l fun _ => x).withPort p

/-- The line goes on injecting from the tank selected for the mix, or waits for supply of it (R22, R33). -/
theorem injectOn_outcome (hst : s.lineState l = .injecting) (hp : (s.drive.get l).purpose = .inject)
    (hb : (s.drive.get l).burst = none) (hx : 0 < (s.drive.get l).pendingRate) (hr : s.openRec.get l = some r)
    (p : PerPort PortState) :
    let q : Sequencer := { s.seq.get l with currentMix := some m }
    let t := (s.injectOn l m x p).nextStroke l
    SameLog s t ∧
    (∀ tank ∈ s.selectTank l m (s.strokeVolume l), t.port = p ∧
      GroutStarts s t l .injecting tank (s.drive.get l).pendingRate q (s.drive.get l).staticTimer
        (s.reg.get l) (some x)) ∧
    (s.selectTank l m (s.strokeVolume l) = none → t.port = ((s.withPort p).latchAll .supplyWait).port ∧
      SupplyWaits s t l .injecting m q { s.drive.get l with watch := none } (s.reg.get l) (some x)) := by
  intro q t
  have hseq : (s.injectOn l m x p).seq.get l = q := PerLine.get_upd_self _ _ _
  have hdrive : (s.injectOn l m x p).drive.get l = { s.drive.get l with stroke := none, watch := none } :=
    PerLine.get_upd_self _ _ _
  have hrec : (s.injectOn l m x p).openRec.get l = some x := by
    refine (PerLine.get_upd_self _ _ _).trans ?_
    change (s.openRec.get l).map _ = _
    rw [hr]
    rfl
  have ht : t = (s.injectOn l m x p).startStroke l none :=
    nextStroke_starts (by rw [hdrive]; dsimp only; rw [hp]; decide) (by rw [hdrive]) (by rw [hdrive]; exact hb)
      (by rw [hdrive]; exact Nat.pos_iff_ne_zero.mp hx)
  obtain ⟨hlog, htank, hwait⟩ := startStroke_outcome (u := s.injectOn l m x p) (l := l) (r := .injecting) (mix := m)
    (by rw [hdrive]; exact hp) (by rw [hdrive]; exact hb) (by rw [hdrive])
    (by rw [State.lineState, hseq]; exact hst) (by rw [hseq])
  rw [hseq, hdrive, hrec] at htank hwait
  rw [ht]
  exact ⟨hlog, htank, hwait⟩

/-- The volume of the last mix step once a stroke has been credited to it. -/
theorem injectedBy_stepVolume (r : Record) (last : MixStep) (volume : Nat) :
    (r.injectedBy last volume).stepVolume = last.volume + volume := by
  simp [Record.stepVolume, Record.injectedBy]

/-- An INJECT stroke credited, the mix unchanged. -/
theorem strokeDone_injectOn (hp : k.purpose = .inject) (hm : (s.seq.get l).currentMix = some mix)
    (hr : s.openRec.get l = some r) (hl : r.steps.getLast? = some last) :
    s.strokeDone l k = s.injectOn l mix (r.injectedBy last k.volume) s.port := by
  rw [strokeDone_inject hp, State.injectOn, updSeq_eq_self (by rw [← hm]), updRec_updDrive]
  refine updRec_congr ?_
  rw [State.updDrive_openRec, hr, Option.map_some, creditLast_eq _ hl]
  rfl

/-- A record that has taken the next mix step (R86). -/
def Record.thickened (r : Record) (m : Nat) (clock : Clock) : Record :=
  { r with
    steps := r.steps ++ [⟨m, 0, ⟨clock.day, clock.second⟩⟩]
    clockUnset := r.clockUnset || !clock.isSet }

theorem thicken_injectOn (s : State) (l : LineId) (mix next : Nat) (x : Record) :
    (s.injectOn l mix x s.port).thicken l next =
      s.injectOn l next (x.thickened next s.clock) (s.latchAll .mixChange).port := by
  rw [State.thicken, State.appendMixStep, State.injectOn]
  simp only [withPort_updSeq, updRec_updSeq, updDrive_updSeq, updSeq_updSeq, withPort_updRec, updRec_updRec]
  rfl

/-- Settles O41: the stroke is credited, the mix steps up or stays, and the next stroke starts or waits. -/
theorem injectStrokesCreditAndThicken : Obligations.InjectStrokesCreditAndThicken := by
  intro s l hinv hn k hk hrun hp hx r hr mix hm last hl ls hv credited goesOn
  obtain ⟨hst, hb, hpur, -⟩ := injecting_of_running hinv hk hrun hp
  have hdone := strokeDone_injectOn hp hm hr hl
  have hevaluates : (s.strokeDone l k).completionAction l k.purpose =
      (s.injectOn l mix (r.injectedBy last k.volume) s.port).tryThicken l (r.injectedBy last k.volume) := by
    rw [hp, ← hdone]
    exact evaluateInject_below (strokeDone_openRec hp hr hl) hv
  have hexec := exec_strokeComplete hk hrun hn
  rw [completeStroke_at_once (startsLater_eq_false fun h => by rw [hp] at h; cases h), hevaluates] at hexec
  have honly : OnlyLine l s (s.completeStroke l k) := ((LineOnly.refl l s).completeStroke k).onlyLine
  rw [completeStroke_at_once (startsLater_eq_false fun h => by rw [hp] at h; cases h), hevaluates] at honly
  have hmix : ((s.injectOn l mix (r.injectedBy last k.volume) s.port).seq.get l).currentMix = some mix :=
    congrArg Sequencer.currentMix (PerLine.get_upd_self _ _ _)
  have hvolume := injectedBy_stepVolume r last k.volume
  refine ⟨fun hstay => ?_, fun hstep hvol pn hpn low hlow hlt next h1 h2 hon hoff => ?_⟩
  · rw [tryThicken_stays hmix (x := r.injectedBy last k.volume) (by rw [hvolume]; exact hstay)] at hexec honly
    obtain ⟨hlog, htank, hwait⟩ := injectOn_outcome (m := mix) (x := r.injectedBy last k.volume) hst hpur hb hx hr s.port
    refine ⟨_, hexec, honly, hlog, fun tank ht => ?_, fun ht => ?_⟩
    · obtain ⟨hport, hstarts⟩ := htank tank ht
      exact ⟨latched_nothing hport, hstarts⟩
    · obtain ⟨hport, hwaits⟩ := hwait ht
      refine ⟨?_, hwaits⟩
      rw [show (0 : EventSet) ||| Event.supplyWait.bit = Event.supplyWait.bit from BitVec.zero_or]
      exact latched_event hport
  · rw [tryThicken_advances hmix (x := r.injectedBy last k.volume) hstep (by rw [hvolume]; exact hvol) hpn hlow hlt h1 h2 hon hoff, thicken_injectOn]
      at hexec honly
    obtain ⟨hlog, htank, hwait⟩ := injectOn_outcome (m := next)
      (x := (r.injectedBy last k.volume).thickened next s.clock) hst hpur hb hx hr (s.latchAll .mixChange).port
    refine ⟨_, hexec, honly, hlog, fun tank ht => ?_, fun ht => ?_⟩
    · obtain ⟨hport, hstarts⟩ := htank tank ht
      exact ⟨latched_event hport, hstarts⟩
    · obtain ⟨hport, hwaits⟩ := hwait ht
      exact ⟨latched_trans (t := s.withPort (s.latchAll .mixChange).port) (latched_event rfl) (latched_event hport), hwaits⟩

end Thickening
end Sys2Proof.Machine


/-! SUPPORT. Strokes that complete in TESTING, CHARGING and FLUSHING. -/

namespace Sys2Proof.Machine

section ByPurpose

variable {s t u v : State} {l : LineId} {k : Stroke} {r : Resume} {mix : Nat} {n : Nat}

/-! ### The line and the drive of a running stroke (R32, R40) -/

theorem DriveFits.running_work {q : Sequencer} {d : Drive} (h : DriveFits q d) (hk : d.stroke = some k)
    (hrun : k.running = true) :
    (k.purpose = .test → q.state = .testing ∧ d.burst = none ∧ d.purpose = .test) ∧
    (k.purpose = .charge → q.state = .charging ∧ d.burst = none ∧ d.purpose = .charge) ∧
    (k.purpose = .flush → q.state = .flushing ∧ d.burst = none ∧ d.purpose = .flush) := by
  have hfits := h.stroke k hk
  have hpurpose := h.purpose
  refine ⟨fun hp => ?_, fun hp => ?_, fun hp => ?_⟩ <;>
    simp only [strokeFits, hp, hrun, Bool.not_true, Bool.and_false, Bool.false_and, Bool.or_false, Bool.and_eq_true,
      beq_iff_eq, Option.isNone_iff_eq_none] at hfits
  · refine ⟨hfits.1, hfits.2, ?_⟩
    cases hd : d.purpose <;> simp [purposeFits, hd, hfits.1] at hpurpose ⊢
  · refine ⟨hfits.2, hfits.1, ?_⟩
    cases hd : d.purpose <;> simp [purposeFits, hd, hfits.2] at hpurpose ⊢
  · refine ⟨hfits.1, hfits.2, ?_⟩
    cases hd : d.purpose <;> simp [purposeFits, hd, hfits.1] at hpurpose ⊢

/-! ### The next stroke (R35 step 5) -/

theorem Purpose.fromWater_iff {purpose : Purpose} {kind : StrokePurpose} :
    purpose.fromWater kind ↔ purpose = .test ∧ kind = .test ∨ purpose = .flush ∧ kind = .flush := by
  cases purpose <;> cases kind <;> simp [Purpose.fromWater]

/-- The next stroke of a test or a flush starts from water (R33). -/
theorem nextStroke_water {purpose : Purpose} {kind : StrokePurpose} (hp : (u.drive.get l).purpose = purpose)
    (hw : purpose.fromWater kind) (hn : (u.drive.get l).stroke = none) (hb : (u.drive.get l).burst = none)
    (hx : (u.drive.get l).pendingRate ≠ 0) :
    u.nextStroke l =
      (u.updDrive l fun d => startedDrive u l purpose kind .water d.pendingRate d.staticTimer).updSeq l fun q =>
        { q with source := .water } := by
  have hstart : purpose ≠ .none ∧ u.startStroke l none = u.runStroke l kind .water := by
    rw [State.startStroke, hp]
    rcases Purpose.fromWater_iff.mp hw with ⟨rfl, rfl⟩ | ⟨rfl, rfl⟩ <;> exact ⟨by decide, rfl⟩
  obtain ⟨hpurpose, hstart⟩ := hstart
  rw [nextStroke_starts (by rw [hp]; exact hpurpose) hn hb hx, hstart, State.runStroke]
  refine congrArg (fun v : State => v.updSeq l _) (updDrive_congr ?_)
  rw [startedDrive, ← hp, ← hb]
  rfl

/-- A completion whose action leaves a stroke in progress, or the rate step 0, starts no next stroke (R35 step 5). -/
theorem completeStroke_ends (h : (u.strokeDone l k).completionAction l k.purpose = t)
    (ht : (t.drive.get l).stroke ≠ none ∨ (t.drive.get l).pendingRate = 0) : u.completeStroke l k = t := by
  cases hl : (u.drive.get l).startsLater k with
  | true => rw [completeStroke_later hl, h]
  | false => rw [completeStroke_at_once hl, h, nextStroke_eq_self (.inr (ht.imp id .inr))]

/-! ### Charging and flushing counted (R13, R25) -/

/-- A write of 0 on a drive without a stroke and a burst. -/
theorem writeRate_zero_rests (hd : DriveFits (u.seq.get l) (u.drive.get l)) (hb : (u.drive.get l).burst = none)
    (hn : (u.drive.get l).stroke = none) :
    u.writeRate l 0 none = u.updDrive l fun d => { d with rate := 0, pendingRate := 0 } := by
  rw [writeRate_zero hb]
  refine updDrive_congr ?_
  rw [hd.writeZero_eq hb, hn]
  rfl

theorem chargeComplete_ready (hd : DriveFits (u.seq.get l) (u.drive.get l)) (hs : u.lineState l = .charging)
    (hn : (u.drive.get l).stroke = none) (hb : (u.drive.get l).burst = none) (hslot : (u.seq.get l).slot = none) :
    u.chargeComplete l =
      ((u.updSeq l fun q =>
        { q with state := .ready, standingTimer := .running 0 (u.envelope.standingLimit * 1000) }).updDrive l fun d =>
        { d with rate := 0, pendingRate := 0, staticTimer := u.staticAfresh (u.seq.get l).holdsGrout }).updReg l fun g =>
        { g with watchArmed := true, baseline := none } := by
  unfold State.chargeComplete
  rw [writeRate_zero_rests hd hb hn, runSlot_empty (by exact hslot)]
  dsimp only
  rw [if_pos (by exact hs)]
  simp only [updDrive_updSeq, updDrive_updDrive]
  rfl

theorem flushComplete_idle (hd : DriveFits (u.seq.get l) (u.drive.get l)) (hn : (u.drive.get l).stroke = none)
    (hb : (u.drive.get l).burst = none) (hslot : (u.seq.get l).slot = none) :
    u.flushComplete l =
      (u.updSeq l fun q => { q with holdsGrout := false, state := .idle }).updDrive l fun d =>
        { d with rate := 0, pendingRate := 0 } := by
  have hempty : (((u.updSeq l fun q => { q with holdsGrout := false, state := .idle }).updDrive l fun d =>
      { d with rate := 0, pendingRate := 0 }).seq.get l).slot = none :=
    (congrArg Sequencer.slot (PerLine.get_upd_self _ _ _)).trans hslot
  unfold State.flushComplete
  rw [writeRate_zero_rests hd hb hn]
  exact runSlot_empty hempty _

theorem chargeDone_last (h : (u.seq.get l).chargeCount + 1 = (u.seq.get l).nc) :
    u.chargeDone l = (u.updSeq l fun q => { q with chargeCount := q.chargeCount + 1 }).chargeComplete l := if_pos h

theorem chargeDone_short (h : (u.seq.get l).chargeCount + 1 ≠ (u.seq.get l).nc) :
    u.chargeDone l = u.updSeq l fun q => { q with chargeCount := q.chargeCount + 1 } := if_neg h

theorem flushDone_last (h : (u.seq.get l).flushCount + 1 = (u.seq.get l).nf) :
    u.flushDone l = (u.updSeq l fun q => { q with flushCount := q.flushCount + 1 }).flushComplete l := if_pos h

theorem flushDone_short (h : (u.seq.get l).flushCount + 1 ≠ (u.seq.get l).nf) :
    u.flushDone l = u.updSeq l fun q => { q with flushCount := q.flushCount + 1 } := if_neg h

theorem strokeDone_fits (h : DriveFits (u.seq.get l) (u.drive.get l)) (k : Stroke) :
    DriveFits ((u.strokeDone l k).seq.get l) ((u.strokeDone l k).drive.get l) := by
  rw [strokeDone_seq, strokeDone_drive]
  exact h.strokeGone

/-! ### Each completion -/

theorem completes_test (hd : DriveFits (s.seq.get l) (s.drive.get l)) (hk : (s.drive.get l).stroke = some k)
    (hrun : k.running = true) (hp : k.purpose = .test) (hx : 0 < (s.drive.get l).pendingRate) :
    s.completeStroke l k =
      ((s.updReg l fun g => { g with testVolume := g.testVolume + k.volume }).updDrive l fun d =>
        startedDrive s l .test .test .water d.pendingRate d.staticTimer).updSeq l fun q => { q with source := .water } := by
  obtain ⟨htest, -, -⟩ := hd.running_work hk hrun
  obtain ⟨-, hb, hpur⟩ := htest hp
  have hdrive := strokeDone_drive s l k
  rw [completeStroke_at_once (startsLater_eq_false fun h => by rw [hp] at h; cases h), hp]
  change (s.strokeDone l k).nextStroke l = _
  rw [nextStroke_water (purpose := .test) (kind := .test) (by rw [hdrive]; exact hpur) trivial (by rw [hdrive])
    (by rw [hdrive]; exact hb) (by rw [hdrive]; exact Nat.pos_iff_ne_zero.mp hx), strokeDone_test hp, updDrive_updDrive]
  rfl

theorem completes_flush (hd : DriveFits (s.seq.get l) (s.drive.get l)) (hk : (s.drive.get l).stroke = some k)
    (hrun : k.running = true) (hp : k.purpose = .flush) (hx : 0 < (s.drive.get l).pendingRate)
    (hc : (s.seq.get l).flushCount + 1 ≠ (s.seq.get l).nf) :
    s.completeStroke l k =
      (s.updDrive l fun d => startedDrive s l .flush .flush .water d.pendingRate d.staticTimer).updSeq l fun q =>
        { q with flushCount := q.flushCount + 1, source := .water } := by
  obtain ⟨-, -, hflush⟩ := hd.running_work hk hrun
  obtain ⟨-, hb, hpur⟩ := hflush hp
  have hdrive := strokeDone_drive s l k
  rw [completeStroke_at_once (startsLater_eq_false fun h => by rw [hp] at h; cases h), hp]
  change ((s.strokeDone l k).flushDone l).nextStroke l = _
  rw [flushDone_short (by rw [strokeDone_seq]; exact hc),
    nextStroke_water (purpose := .flush) (kind := .flush) (by rw [State.updSeq_drive, hdrive]; exact hpur) trivial
      (by rw [State.updSeq_drive, hdrive]) (by rw [State.updSeq_drive, hdrive]; exact hb)
      (by rw [State.updSeq_drive, hdrive]; exact Nat.pos_iff_ne_zero.mp hx), strokeDone_water (.inl hp)]
  simp only [updDrive_updSeq, updSeq_updSeq, updDrive_updDrive]
  rfl

theorem completes_lastFlush (hd : DriveFits (s.seq.get l) (s.drive.get l)) (hk : (s.drive.get l).stroke = some k)
    (hrun : k.running = true) (hp : k.purpose = .flush) (hc : (s.seq.get l).flushCount + 1 = (s.seq.get l).nf)
    (hslot : (s.seq.get l).slot = none) :
    s.completeStroke l k =
      (s.updDrive l fun d => { d with rate := 0, pendingRate := 0, stroke := none, watch := none }).updSeq l fun q =>
        { q with state := .idle, holdsGrout := false, flushCount := q.flushCount + 1 } := by
  obtain ⟨-, -, hflush⟩ := hd.running_work hk hrun
  obtain ⟨-, hb, -⟩ := hflush hp
  have hdrive := strokeDone_drive s l k
  have hseq : ((s.strokeDone l k).updSeq l fun q => { q with flushCount := q.flushCount + 1 }).seq.get l =
      { s.seq.get l with flushCount := (s.seq.get l).flushCount + 1 } := by
    rw [State.updSeq_seq, PerLine.get_upd_self, strokeDone_seq]
  refine completeStroke_ends ?_ (.inr (by rw [State.updSeq_drive, State.updDrive_drive, PerLine.get_upd_self]))
  rw [hp]
  change (s.strokeDone l k).flushDone l = _
  rw [flushDone_last (by rw [strokeDone_seq]; exact hc), flushComplete_idle (by
    rw [hseq, State.updSeq_drive]
    exact (strokeDone_fits hd k).of_view (by rw [strokeDone_seq]; rfl)) (by rw [State.updSeq_drive, hdrive])
    (by rw [State.updSeq_drive, hdrive]; exact hb) (by rw [hseq]; exact hslot), strokeDone_water (.inl hp)]
  simp only [updDrive_updSeq, updSeq_updSeq, updDrive_updDrive]

theorem completes_lastCharge (hd : DriveFits (s.seq.get l) (s.drive.get l)) (hk : (s.drive.get l).stroke = some k)
    (hrun : k.running = true) (hp : k.purpose = .charge) (hc : (s.seq.get l).chargeCount + 1 = (s.seq.get l).nc)
    (hslot : (s.seq.get l).slot = none) :
    s.completeStroke l k =
      (((s.updRec l fun x => { x with charge := x.charge + k.volume }).updDrive l fun d =>
        { d with
          rate := 0, pendingRate := 0, stroke := none, watch := none
          staticTimer := s.staticAfresh (s.seq.get l).holdsGrout }).updSeq l fun q =>
        { q with
          state := .ready
          chargeCount := q.chargeCount + 1
          standingTimer := .running 0 (s.envelope.standingLimit * 1000) }).updReg l fun g =>
        { g with watchArmed := true, baseline := none } := by
  obtain ⟨-, hcharge, -⟩ := hd.running_work hk hrun
  obtain ⟨hst, hb, -⟩ := hcharge hp
  have hdrive := strokeDone_drive s l k
  have hseq : ((s.strokeDone l k).updSeq l fun q => { q with chargeCount := q.chargeCount + 1 }).seq.get l =
      { s.seq.get l with chargeCount := (s.seq.get l).chargeCount + 1 } := by
    rw [State.updSeq_seq, PerLine.get_upd_self, strokeDone_seq]
  refine completeStroke_ends ?_
    (.inr (by rw [State.updReg_drive, State.updSeq_drive, State.updDrive_drive, PerLine.get_upd_self]))
  rw [hp]
  change (s.strokeDone l k).chargeDone l = _
  rw [chargeDone_last (by rw [strokeDone_seq]; exact hc), chargeComplete_ready (by
    rw [hseq, State.updSeq_drive]
    exact (strokeDone_fits hd k).of_view (by rw [strokeDone_seq]; rfl)) (by rw [State.lineState, hseq]; exact hst)
    (by rw [State.updSeq_drive, hdrive])
    (by rw [State.updSeq_drive, hdrive]; exact hb) (by rw [hseq]; exact hslot), hseq, strokeDone_charge hp]
  simp only [updDrive_updSeq, updSeq_updSeq, updDrive_updDrive, updRec_updSeq]
  rfl

/-- A CHARGE stroke short of the last whose successor starts at once, or waits for supply (R13, R22, R33, R35). -/
theorem completes_charge (hd : DriveFits (s.seq.get l) (s.drive.get l)) (hk : (s.drive.get l).stroke = some k)
    (hrun : k.running = true) (hp : k.purpose = .charge) (hc : (s.seq.get l).chargeCount + 1 ≠ (s.seq.get l).nc)
    (hw : ∀ w ∈ (s.drive.get l).watch, w = 0) (hx : 0 < (s.drive.get l).pendingRate)
    (hm : (s.seq.get l).currentMix = some mix) :
    let t := s.completeStroke l k
    let counted : Sequencer := { s.seq.get l with chargeCount := (s.seq.get l).chargeCount + 1 }
    let x := (s.openRec.get l).map fun x => { x with charge := x.charge + k.volume }
    SameLog s t ∧
    (∀ tank ∈ s.selectTank l mix (s.strokeVolume l), t.port = s.port ∧
      GroutStarts s t l .charging tank (s.drive.get l).pendingRate counted (s.drive.get l).staticTimer (s.reg.get l) x) ∧
    (s.selectTank l mix (s.strokeVolume l) = none → t.port = (s.latchAll .supplyWait).port ∧
      SupplyWaits s t l .charging mix counted { s.drive.get l with stroke := none, watch := none } (s.reg.get l) x) := by
  intro t counted x
  obtain ⟨-, hcharge, -⟩ := hd.running_work hk hrun
  obtain ⟨hst, hb, hpur⟩ := hcharge hp
  let w := ((s.updRec l fun x => { x with charge := x.charge + k.volume }).updDrive l fun d =>
    { d with stroke := none, watch := none }).updSeq l fun q => { q with chargeCount := q.chargeCount + 1 }
  have hseq : w.seq.get l = counted := PerLine.get_upd_self _ _ _
  have hdrive : w.drive.get l = { s.drive.get l with stroke := none, watch := none } := PerLine.get_upd_self _ _ _
  have hrec : w.openRec.get l = x := PerLine.get_upd_self _ _ _
  have ht : t = w.startStroke l none := by
    have hdone : ((s.strokeDone l k).completionAction l k.purpose) = w := by
      rw [hp]
      change (s.strokeDone l k).chargeDone l = _
      rw [chargeDone_short (by rw [strokeDone_seq]; exact hc), strokeDone_charge hp]
    change s.completeStroke l k = _
    rw [completeStroke_at_once (startsLater_eq_false fun _ => hw), hdone]
    exact nextStroke_starts (by rw [hdrive]; dsimp only; rw [hpur]; decide) (by rw [hdrive]) (by rw [hdrive]; exact hb)
      (by rw [hdrive]; exact Nat.pos_iff_ne_zero.mp hx)
  obtain ⟨hlog, htank, hwait⟩ := startStroke_outcome (u := w) (l := l) (r := .charging) (mix := mix)
    (by rw [hdrive]; exact hpur) (by rw [hdrive]; exact hb) (by rw [hdrive])
    (by rw [State.lineState, hseq]; exact hst) (by rw [hseq]; exact hm)
  rw [hseq, hdrive, hrec] at htank hwait
  rw [ht]
  exact ⟨hlog, htank, hwait⟩

end ByPurpose
end Sys2Proof.Machine


/-! PROOF of O40. Strokes that complete, by purpose. -/

namespace Sys2Proof.Machine

section Circulation

variable {s t u v : State} {l : LineId} {k : Stroke} {r : Resume} {mix n : Nat}

/-! ### CIRCULATE completions (R41) -/

theorem circulateDone_more (hb : (u.drive.get l).burst = some n) (hn : 1 < n) :
    u.circulateDone l = (u.updDrive l fun d => { d with burst := some (n - 1) }).startCirculate l := by
  rw [State.circulateDone, hb]
  exact if_neg (Nat.not_le.mpr hn)

theorem circulateDone_last (hb : (u.drive.get l).burst = some n) (hn : n ≤ 1) : u.circulateDone l = u.endBurst l := by
  rw [State.circulateDone, hb]
  exact if_pos hn

/-- A line whose last CIRCULATE stroke has completed, still in READY or HELD (R15, R41, R129). -/
def State.burstOver (s : State) (l : LineId) : State :=
  ((s.updDrive l fun d =>
    { d with
      rate := 0, pendingRate := 0, stroke := none, watch := none, burst := none
      staticTimer := s.staticAfresh (s.seq.get l).holdsGrout }).updSeq l fun q =>
    { q with returnOpen := decide (q.resume ≠ some .injecting) }).updReg l fun g =>
    { g with watchArmed := true, baseline := none }

theorem strokeDone_endBurst (hp : k.purpose = .circulate) :
    (s.strokeDone l k).endBurst l =
      if (s.seq.get l).resumeAfterBurst then (s.burstOver l).leaveHeld l none else s.burstOver l := by
  have hover : ((((s.strokeDone l k).updDrive l fun d =>
      { d with burst := none, rate := 0, pendingRate := 0, staticTimer := (s.strokeDone l k).staticStart l }).updSeq l
      fun q => { q with returnOpen := q.returnAtRest }).updReg l Regulator.arm) = s.burstOver l := by
    have hreturn : ∀ q : Sequencer, q.returnAtRest = decide (q.resume ≠ some .injecting) := by
      intro q
      rw [Sequencer.returnAtRest]
      cases q.resume with
      | none => rfl
      | some r => cases r <;> rfl
    rw [strokeDone_water (.inr hp), updDrive_updDrive]
    simp only [hreturn]
    rfl
  rw [State.endBurst, hover, strokeDone_seq]

theorem completes_circulate (hp : k.purpose = .circulate) (hb : (s.drive.get l).burst = some n) (hn : 1 < n) :
    s.completeStroke l k =
      s.updDrive l fun d =>
        { d with
          burst := some (n - 1)
          watch := some 0
          stroke := some ⟨.circulate, (s.seq.get l).source, s.strokeVolume l, true,
            (s.lineTable.get l).tmin * 15 / d.rate⟩ } := by
  refine completeStroke_ends ?_ (.inl (by rw [State.updDrive_drive, PerLine.get_upd_self]; exact Option.some_ne_none _))
  rw [hp]
  change (s.strokeDone l k).circulateDone l = _
  rw [circulateDone_more (by rw [strokeDone_drive]; exact hb) hn, strokeDone_water (.inr hp), updDrive_updDrive,
    State.startCirculate, updDrive_updDrive]
  rfl

theorem burstOver_drive (s : State) (l : LineId) :
    (s.burstOver l).drive.get l =
      { s.drive.get l with
        rate := 0, pendingRate := 0, stroke := none, watch := none, burst := none
        staticTimer := s.staticAfresh (s.seq.get l).holdsGrout } := PerLine.get_upd_self _ _ _

theorem burstOver_seq (s : State) (l : LineId) :
    (s.burstOver l).seq.get l =
      { s.seq.get l with returnOpen := decide ((s.seq.get l).resume ≠ some .injecting) } := PerLine.get_upd_self _ _ _

theorem completes_lastCirculate (hp : k.purpose = .circulate) (hb : (s.drive.get l).burst = some n) (hn : n ≤ 1) :
    (s.strokeDone l k).completionAction l k.purpose =
      if (s.seq.get l).resumeAfterBurst then (s.burstOver l).leaveHeld l none else s.burstOver l := by
  rw [hp]
  change (s.strokeDone l k).circulateDone l = _
  rw [circulateDone_last (by rw [strokeDone_drive]; exact hb) hn, strokeDone_endBurst hp]

/-- A burst that ends with its line to stay where it is (R41). -/
theorem completes_burst (hp : k.purpose = .circulate) (hb : (s.drive.get l).burst = some n) (hn : n ≤ 1)
    (hf : (s.seq.get l).resumeAfterBurst = false) : s.completeStroke l k = s.burstOver l := by
  refine completeStroke_ends ?_ (.inr (by rw [burstOver_drive]))
  rw [completes_lastCirculate hp hb hn, if_neg (by rw [hf]; exact Bool.false_ne_true)]

/-- A burst that ends with its line due to leave HELD: a stroke from the tank selected, or a wait for supply anew
(R22, R23, R33, R41). -/
theorem completes_burst_resumes (hs : SequencerFits (s.seq.get l) (s.openRec.get l).isSome (onList s.demand l) (s.covered l))
    (hd : DriveFits (s.seq.get l) (s.drive.get l)) (hp : k.purpose = .circulate)
    (hb : (s.drive.get l).burst = some n) (hn : n ≤ 1) (hf : (s.seq.get l).resumeAfterBurst = true)
    (hr : (s.seq.get l).resume = some r) (hx : 0 < s.rateOf r) (hm : (s.seq.get l).currentMix = some mix) :
    let t := s.completeStroke l k
    SameLog s t ∧
    (∀ tank ∈ s.selectTank l mix (s.strokeVolume l), t.port = s.port ∧
      GroutStarts s t l r tank (s.rateOf r) ((s.seq.get l).outOfHeld r) .stopped (s.reg.get l).outOfHeld (s.stayAdded l)) ∧
    (s.selectTank l mix (s.strokeVolume l) = none → t.port = (s.latchAll .supplyWait).port ∧
      SupplyWaits s t l r mix ((s.seq.get l).outOfHeld r)
        { s.drive.get l with rate := 0, pendingRate := 0, stroke := none, watch := none, burst := none }
        (s.reg.get l).outOfHeld (s.stayAdded l)) := by
  intro t
  obtain ⟨hhold, hsupply⟩ := hs.afterBurst hf
  have hheld : s.lineState l = .held := hs.waits (.inr hf)
  have hstay : (s.burstOver l).stayAdded l = s.stayAdded l := by
    rw [State.stayAdded, State.stayAdded, State.heldNow, State.lineState, burstOver_seq]
    rfl
  have hreg : ((s.burstOver l).reg.get l).outOfHeld = (s.reg.get l).outOfHeld :=
    (congrArg Regulator.outOfHeld (PerLine.get_upd_self s.reg l _)).trans rfl
  obtain ⟨hlog, htank, hwait⟩ := leaveHeld_outcome (u := s.burstOver l) (l := l) (r := r) (mix := mix)
    (by rw [State.lineState, burstOver_seq]; exact hheld) (by rw [burstOver_seq]; exact hr)
    (by rw [burstOver_seq, burstOver_drive]; exact hd.purpose) (by rw [burstOver_drive]) hx (by rw [burstOver_drive])
    (by rw [burstOver_seq]; exact hm) (by rw [burstOver_seq]; exact hhold) (by rw [burstOver_seq]; exact hsupply)
  rw [burstOver_seq, hreg, hstay] at htank hwait
  rw [burstOver_drive] at hwait
  have ht : t = (s.burstOver l).leaveHeld l none := by
    refine completeStroke_ends ((completes_lastCirculate hp hb hn).trans (if_pos hf)) ?_
    cases hsel : s.selectTank l mix (s.strokeVolume l) with
    | some tank =>
      obtain ⟨-, -, -, hdrive, -⟩ := htank tank hsel
      rw [hdrive]
      refine .inl ?_
      split <;> exact Option.some_ne_none _
    | none =>
      obtain ⟨-, -, -, -, hdrive, -⟩ := hwait hsel
      rw [hdrive]
      exact .inr rfl
  rw [ht]
  exact ⟨hlog, htank, hwait⟩

/-! ### Every completion but that of INJECT -/

theorem completes_laterCharge (hp : k.purpose = .charge) (hc : (s.seq.get l).chargeCount + 1 ≠ (s.seq.get l).nc)
    {w : Nat} (hw : (s.drive.get l).watch = some w) (hpos : 0 < w) :
    s.completeStroke l k =
      ((s.updRec l fun x => { x with charge := x.charge + k.volume }).updDrive l fun d =>
        { d with stroke := none, watch := none }).updSeq l fun q => { q with chargeCount := q.chargeCount + 1 } := by
  rw [completeStroke_later (by simp [Drive.startsLater, hp, hw, hpos]), hp]
  change (s.strokeDone l k).chargeDone l = _
  rw [chargeDone_short (by rw [strokeDone_seq]; exact hc), strokeDone_charge hp]

/-- Settles O40: by the purpose of the stroke and what is left of its count. -/
theorem strokesCompleteByPurpose : Obligations.StrokesCompleteByPurpose := by
  intro s l hinv hn k hk hrun q d g stopped
  obtain ⟨hs, hd⟩ := lineInv_iff.mp hinv
  have hexec := exec_strokeComplete hk hrun hn
  have honly : OnlyLine l s (s.completeStroke l k) := ((LineOnly.refl l s).completeStroke k).onlyLine
  refine ⟨fun hx => ⟨fun hp => ?_, fun hp hc w hw hpos => ?_, fun hp hc hw mix hm => ?_, fun hp hc => ?_⟩,
    fun hslot => ⟨fun hp hc => ?_, fun hp hc => ?_⟩, fun hp n hb => ⟨fun hlt => ?_, fun hle hf => ?_,
      fun hle hf r hr hx mix hm => ?_⟩⟩
  · rw [hexec, completes_test hd hk hrun hp hx]
  · rw [hexec, completes_laterCharge hp hc hw hpos]
  · obtain ⟨hlog, htank, hwait⟩ := completes_charge hd hk hrun hp hc hw hx hm
    refine ⟨_, hexec, honly, hlog, fun tank ht => ?_, fun ht => ?_⟩
    · exact ⟨latched_nothing (htank tank ht).1, (htank tank ht).2⟩
    · exact ⟨latched_event (hwait ht).1, (hwait ht).2⟩
  · rw [hexec, completes_flush hd hk hrun hp hx hc]
  · rw [hexec, completes_lastCharge hd hk hrun hp hc hslot]
    refine congrArg (fun v : State => Host.Outcome.next ((v.updSeq l _).updReg l _)) (updDrive_congr rfl)
  · rw [hexec, completes_lastFlush hd hk hrun hp hc hslot]
    refine congrArg (fun v : State => Host.Outcome.next (v.updSeq l _)) (updDrive_congr rfl)
  · rw [hexec, completes_circulate hp hb hlt]
  · rw [hexec, completes_burst hp hb hle hf, State.burstOver]
    refine congrArg (fun v : State => Host.Outcome.next ((v.updSeq l _).updReg l _)) (updDrive_congr rfl)
  · obtain ⟨hlog, htank, hwait⟩ := completes_burst_resumes hs hd hp hb hle hf hr hx hm
    refine ⟨_, hexec, honly, hlog, fun tank ht => ?_, fun ht => ?_⟩
    · exact ⟨latched_nothing (htank tank ht).1, (htank tank ht).2⟩
    · exact ⟨latched_event (hwait ht).1, (hwait ht).2⟩

end Circulation
end Sys2Proof.Machine


/-! PROOF of O4 and O5. The cabinet reset. -/

namespace Sys2Proof.Machine

section CabinetReset

variable {s t u v : State} {k l : LineId} {r : Record} {ls : List LineId}

/-! ### The stages that a cabinet reset ends (R28, R149) -/

/-- What the reset of stages leaves of a part beside the stages: what is steady, the tanks, the stage sequence number,
and the state and the holds-grout flag of every line (R28). -/
structure StagesReset (s t : State) : Prop where
  steady : Steady s t
  tanks : t.tanks = s.tanks
  nextSeq : t.nextSeq = s.nextSeq
  lines : ∀ k, t.lineState k = s.lineState k ∧ (t.seq.get k).holdsGrout = (s.seq.get k).holdsGrout

theorem StagesReset.refl (s : State) : StagesReset s s := ⟨Steady.refl s, rfl, rfl, fun _ => ⟨rfl, rfl⟩⟩

theorem StagesReset.trans (h : StagesReset s t) (g : StagesReset t u) : StagesReset s u :=
  ⟨h.steady.trans g.steady, g.tanks.trans h.tanks, g.nextSeq.trans h.nextSeq, fun k =>
    ⟨(g.lines k).1.trans (h.lines k).1, (g.lines k).2.trans (h.lines k).2⟩⟩

theorem closeRecord_nextSeq (u : State) (l : LineId) (fin : FinalValues) (reason : EndReason) (origin : Option Port)
    (quiet : Bool) : (u.closeRecord l fin reason origin quiet).nextSeq = u.nextSeq := by
  unfold State.closeRecord
  split
  · rfl
  · unfold State.latchUnless
    split <;> exact makeRoom_nextSeq _ _ _

theorem resetStage_resets (u : State) (l : LineId) : StagesReset u (u.resetStage l) := by
  have honly := resetStage_lineOnly u l
  obtain ⟨htanks, -, hseq, -, -⟩ := endStage_blocks u l .reset none true
  unfold State.resetStage at honly ⊢
  split
  · rename_i hs
    rw [if_pos hs] at honly
    refine ⟨honly.steady, htanks, ?_, fun k => ?_⟩
    · rw [endStage_eq]
      exact closeRecord_nextSeq _ _ _ _ _ _
    · by_cases hkl : k = l
      · subst hkl
        rw [State.lineState, hseq]
        exact ⟨rfl, rfl⟩
      · obtain ⟨hq, -⟩ := honly.lines k hkl
        rw [State.lineState, hq]
        exact ⟨rfl, rfl⟩
  · exact StagesReset.refl u

theorem resetStages_resets (ls : List LineId) (u : State) : StagesReset u (ls.foldl State.resetStage u) := by
  induction ls generalizing u with
  | nil => exact StagesReset.refl u
  | cons l ls ih => exact (resetStage_resets u l).trans (ih _)

/-- The sequencer of a line after a cabinet reset, by the table of R28. -/
theorem sequencer_cabinetReset (q : Sequencer) :
    let keepsGrout : Bool := decide (q.holdsGrout = true ∧ (q.state = .charging ∨ q.state = .ready ∨
      q.state = .injecting ∨ q.state = .held ∨ q.state = .flushing ∨ q.state = .fault))
    q.cabinetReset =
      { Sequencer.powerOn with
        state := if q.state = .off then .off else if keepsGrout then .fault else .idle
        faultCause := if keepsGrout then some .reset else none
        holdsGrout := keepsGrout } := by
  intro keepsGrout
  rw [Sequencer.cabinetReset, Sequencer.afterReset]
  cases hs : q.state with
  | off | idle | seated | testing => simp [keepsGrout, hs]
  | charging | ready | injecting | held | flushing | fault => cases hg : q.holdsGrout <;> simp [keepsGrout, hs, hg]

theorem afterReset_of_same {p q : Sequencer} (hs : p.state = q.state) (hg : p.holdsGrout = q.holdsGrout) :
    p.cabinetReset = q.cabinetReset := by
  rw [Sequencer.cabinetReset, Sequencer.cabinetReset, Sequencer.afterReset, Sequencer.afterReset, hs, hg]

/-- Settles O4: the stages are closed first, and every block then takes its reset value. -/
theorem cabinetResetSetsEveryBlock : Obligations.CabinetResetSetsEveryBlock := by
  refine fun s => ⟨fun h => congrArg Host.Outcome.next (if_pos h), rfl, fun hoff hstaged => ?_⟩
  have hstages : StagesReset s s.resetStages := resetStages_resets LineId.all s
  have hcommands := hstages.steady.clock
  obtain ⟨hclock, -, hrun, -, -, -, hpending⟩ := hcommands
  refine ⟨{ s.cabinetReset with resetAsserted := true }, congrArg Host.Outcome.next (if_neg (by simp [hoff])),
    fun l => ?_, rfl, fun k => by cases k <;> rfl, hstages.tanks, hstages.steady.settings, hclock, hrun, hstages.nextSeq,
    hpending, rfl, fun p => ?_⟩
  · obtain ⟨hstate, hgrout⟩ := hstages.lines l
    have hseq : s.cabinetReset.seq.get l = (s.seq.get l).cabinetReset := by
      rw [← afterReset_of_same hstate hgrout]
      exact PerLine.get_mapIdx _ _ _
    have hreg : s.cabinetReset.reg.get l = regulatorAfterReset (s.seq.get l).cabinetReset.state := by
      rw [← afterReset_of_same hstate hgrout]
      exact PerLine.get_mapIdx _ _ _
    have hrec : s.resetStages.openRec.get l = none :=
      resetStages_openRec (fun k hk => (hstaged k).symm.trans hk) LineId.all (.inl (LineId.mem_all l))
    have htable := sequencer_cabinetReset (s.seq.get l)
    refine ⟨hseq.trans htable, PerLine.get_const _ _, ?_, hrec, PerLine.get_const _ _, PerLine.get_const _ _⟩
    refine hreg.trans ?_
    rw [htable]
    rfl
  · have hport : s.cabinetReset.port.get p = (s.resetStages.port.get p).cabinetReset := PerPort.get_mapIdx _ _ _
    change s.cabinetReset.port.get p = { (s.cabinetReset.port.get p) with
      rx := .hunt, response := (s.port.get p).response, latches := Event.restarted.bit, masks := 0xFFFF
      snapshot := none, note := none, supervision := none, silence := none, restartWaiting := false }
    rw [hport, PortState.cabinetReset, (hstages.steady.ports p).response]
    rfl

/-! ### The records that a cabinet reset closes (R67, R143) -/

/-- The open stages of a run of lines, in order. -/
def State.opens (u : State) (ls : List LineId) : List (LineId × Record) :=
  ls.filterMap fun l => (u.openRec.get l).map fun r => (l, r)

/-- The record of a stage that a cabinet reset closes under an entry number. -/
def State.resetRecord (u : State) (l : LineId) (r : Record) (number : Nat) : Record :=
  { u.closing l r .reset none with entry := some number }

/-- The records that a cabinet reset closes of a run of lines, numbered on from `n`. -/
def State.resetCloses (u : State) (ls : List LineId) (n : Nat) : List Record :=
  (u.opens ls).zipIdx.map fun x => u.resetRecord x.1.1 x.1.2 (nextNumber^[x.2] n)

theorem resetCloses_none (hr : u.openRec.get l = none) (ls : List LineId) (n : Nat) :
    u.opens (l :: ls) = u.opens ls ∧ u.resetCloses (l :: ls) n = u.resetCloses ls n := by
  have hopens : u.opens (l :: ls) = u.opens ls := List.filterMap_cons_none (by rw [hr]; rfl)
  exact ⟨hopens, by rw [State.resetCloses, hopens]; rfl⟩

theorem resetCloses_some (hr : u.openRec.get l = some r) (ls : List LineId) (n : Nat) :
    u.opens (l :: ls) = (l, r) :: u.opens ls ∧
      u.resetCloses (l :: ls) n = u.resetRecord l r n :: u.resetCloses ls (nextNumber n) := by
  have hopens : u.opens (l :: ls) = (l, r) :: u.opens ls := List.filterMap_cons_some (by rw [hr]; rfl)
  refine ⟨hopens, ?_⟩
  rw [State.resetCloses, hopens, List.zipIdx_cons', List.map_cons, List.map_map]
  rfl

/-- What a line that a reset does not touch would close is the same after it. -/
theorem resetRecord_congr (hsteady : Steady u v) (hsame : SameLine k u v) (r : Record) (n : Nat) :
    v.resetRecord k r n = u.resetRecord k r n := by
  obtain ⟨hseq, hdrive, hreg, -⟩ := hsame
  obtain ⟨hclock, -, hrun, -⟩ := hsteady.clock
  obtain ⟨-, -, -, -, -, hceiling, -⟩ := hsteady.settings
  have hflight : v.inFlight k = u.inFlight k := by rw [State.inFlight, hdrive]; rfl
  have hheld : v.heldNow k = u.heldNow k := by
    rw [State.heldNow, State.heldNow, State.lineState, State.lineState, hseq, hrun]
  rw [State.resetRecord, State.resetRecord, State.closing, State.closing, hflight, hheld, hreg, hdrive, hclock, hceiling]

theorem resetCloses_congr (hsteady : Steady u v) (hsame : ∀ k ∈ ls, SameLine k u v) (n : Nat) :
    v.opens ls = u.opens ls ∧ v.resetCloses ls n = u.resetCloses ls n := by
  have hopens : v.opens ls = u.opens ls := by
    refine List.filterMap_congr fun k hk => ?_
    obtain ⟨-, -, -, hrec, -⟩ := hsame k hk
    rw [hrec]
  refine ⟨hopens, ?_⟩
  rw [State.resetCloses, State.resetCloses, hopens]
  refine List.map_congr_left fun x hx => resetRecord_congr hsteady ?_ _ _
  have hmem : x.1 ∈ u.opens ls := List.fst_mem_of_mem_zipIdx hx
  obtain ⟨k, hk, hsome⟩ := List.mem_filterMap.mp hmem
  obtain ⟨r, -, hr⟩ := Option.map_eq_some_iff.mp hsome
  rw [← hr]
  exact hsame k hk

/-- One stage that a reset ends: its record is the newest of the log (R143). -/
theorem resetStage_log (hs : (u.lineState l).hasStage = true) (hr : u.openRec.get l = some r) (hlen : u.log.length ≤ 32) :
    (u.resetStage l).log = newest32 (u.log ++ [u.resetRecord l r u.nextEntry]) ∧
      (u.resetStage l).nextEntry = nextNumber u.nextEntry := by
  obtain ⟨hlog, hentry, -⟩ := closeRecord_some (stageCleared_openRec hr true) hlen (u.finalValues l) .reset none true
  rw [← closing_eq u l hr] at hlog
  rw [State.resetStage, if_pos hs, endStage_eq]
  exact ⟨hlog, hentry⟩

/-- The records closed one after another (R67, R143). -/
theorem resetStages_log (hn : ls.Nodup) (hstaged : ∀ l ∈ ls, (u.openRec.get l).isSome = (u.lineState l).hasStage)
    (hlen : u.log.length ≤ 32) :
    (ls.foldl State.resetStage u).log = newest32 (u.log ++ u.resetCloses ls u.nextEntry) ∧
      (ls.foldl State.resetStage u).nextEntry = nextNumber^[(u.opens ls).length] u.nextEntry := by
  induction ls generalizing u with
  | nil => exact ⟨((congrArg newest32 (List.append_nil _)).trans (newest32_of_length_le hlen)).symm, rfl⟩
  | cons l ls ih =>
    obtain ⟨hl, hn⟩ := List.nodup_cons.mp hn
    have hstage := hstaged l List.mem_cons_self
    cases hr : u.openRec.get l with
    | none =>
      rw [hr] at hstage
      have hsame : u.resetStage l = u := if_neg (by rw [← hstage]; exact Bool.false_ne_true)
      obtain ⟨hopens, hcloses⟩ := resetCloses_none hr ls u.nextEntry
      rw [List.foldl_cons, hsame, hopens, hcloses]
      exact ih hn (fun k hk => hstaged k (List.mem_cons_of_mem l hk)) hlen
    | some r =>
      rw [hr] at hstage
      obtain ⟨hlog, hentry⟩ := resetStage_log hstage.symm hr hlen
      have hothers : ∀ k ∈ ls, SameLine k u (u.resetStage l) := fun k hk => resetStage_same fun h => hl (h ▸ hk)
      obtain ⟨hopens, hcloses⟩ := resetCloses_some hr ls u.nextEntry
      obtain ⟨hopens', hcloses'⟩ := resetCloses_congr (resetStage_lineOnly u l).steady hothers (nextNumber u.nextEntry)
      obtain ⟨hlog', hentry'⟩ := ih hn (u := u.resetStage l) (fun k hk => by
        obtain ⟨hseq, -, -, hrec, -⟩ := hothers k hk
        rw [State.lineState, hseq, hrec]
        exact hstaged k (List.mem_cons_of_mem l hk)) (by rw [hlog]; exact length_newest32_le _)
      rw [List.foldl_cons, hlog', hentry', hopens', hlog, hentry, hcloses', hopens, hcloses, newest32_newest32_append,
        List.append_assoc]
      exact ⟨rfl, rfl⟩

/-- Settles O5: the stages are closed in the order of the lines, each under the next entry number. -/
theorem cabinetResetClosesOpenStages : Obligations.CabinetResetClosesOpenStages := by
  intro s hoff hlen hstaged
  obtain ⟨hlog, hentry⟩ := resetStages_log LineId.nodup_all (fun l _ => hstaged l) hlen
  exact ⟨{ s.cabinetReset with resetAsserted := true }, congrArg Host.Outcome.next (if_neg (by simp [hoff])), hlog, hentry,
    (resetStages_resets LineId.all s).nextSeq⟩

end CabinetReset
end Sys2Proof.Machine


/-! SUPPORT. The operations of a line commute with the restart of a silence timer. -/

namespace Sys2Proof.Machine

section Hushed

variable {u : State} {p : Port} {l : LineId} {mix : Nat}

/-! ### Operations of a line and the silence timer of a port

No operation of a line reads a port, and what it does to one leaves the silence timer alone: it comes to the same whether
the timer is restarted before it or after it (R124). -/

/-- A choice that does not read the ports, of two operations that leave the silence timer alone. -/
theorem restartSilence_ite {c d : Prop} [Decidable c] [Decidable d] {a a' b b' : State} (h : c ↔ d)
    (ha : a = a'.restartSilence p) (hb : b = b'.restartSilence p) :
    (if c then a else b) = (if d then a' else b').restartSilence p := by
  by_cases hc : c
  · rw [if_pos hc, if_pos (h.mp hc), ha]
  · rw [if_neg hc, if_neg (mt h.mpr hc), hb]

theorem restartSilence_latchAll (u : State) (p : Port) (e : Event) :
    (u.restartSilence p).latchAll e = (u.latchAll e).restartSilence p := by
  cases p <;> rfl

theorem restartSilence_latchUnless (u : State) (p : Port) (quiet : Bool) (e : Event) :
    (u.restartSilence p).latchUnless quiet e = (u.latchUnless quiet e).restartSilence p := by
  cases quiet with
  | true => rfl
  | false => exact restartSilence_latchAll u p e

theorem restartSilence_stopDrive (u : State) (p : Port) (l : LineId) :
    (u.restartSilence p).stopDrive l = (u.stopDrive l).restartSilence p := by
  rw [stopDrive_eq, stopDrive_eq]
  rfl

theorem restartSilence_leaveDemand (u : State) (p : Port) (l : LineId) (quiet : Bool) :
    (u.restartSilence p).leaveDemand l quiet = (u.leaveDemand l quiet).restartSilence p :=
  restartSilence_ite Iff.rfl (restartSilence_latchUnless ((u.setCurrentTank l none).setDemand _) p quiet _) rfl

theorem restartSilence_endTimers (u : State) (p : Port) (l : LineId) :
    (u.restartSilence p).endTimers l = (u.endTimers l).restartSilence p := by
  rw [endTimers_eq, endTimers_eq]
  rfl

theorem restartSilence_dropSlot (u : State) (p : Port) (l : LineId) (quiet : Bool) :
    (u.restartSilence p).dropSlot l quiet = (u.dropSlot l quiet).restartSilence p := by
  have hslot : ((u.restartSilence p).seq.get l).slot = (u.seq.get l).slot := rfl
  rw [State.dropSlot, State.dropSlot, hslot]
  cases (u.seq.get l).slot with
  | none => rfl
  | some req => exact restartSilence_latchUnless (u.updSeq l fun q => { q with slot := none }) p quiet _

theorem entryRemoved_restartSilence (removed newOldest : Nat) (quiet : Bool) (q : PortState) :
    q.restartSilence.entryRemoved removed newOldest quiet = (q.entryRemoved removed newOldest quiet).restartSilence := by
  unfold PortState.entryRemoved
  dsimp only
  by_cases hm : q.mark = removed
  · rw [if_pos (by exact hm), if_pos hm]
    cases quiet <;> rfl
  · rw [if_neg (by exact hm), if_neg hm]

theorem restartSilence_makeRoom (u : State) (p : Port) (appended : Nat) (quiet : Bool) :
    (u.restartSilence p).makeRoom appended quiet = (u.makeRoom appended quiet).restartSilence p := by
  have hlog : (u.restartSilence p).log = u.log := rfl
  refine restartSilence_ite Iff.rfl rfl ?_
  rw [hlog]
  cases u.log with
  | nil => rfl
  | cons old rest =>
    cases p <;> simp only [State.restartSilence, State.updPort, PerPort.upd, PerPort.mapIdx,
      entryRemoved_restartSilence]

theorem restartSilence_closeRecord (u : State) (p : Port) (l : LineId) (fin : FinalValues) (reason : EndReason)
    (origin : Option Port) (quiet : Bool) :
    (u.restartSilence p).closeRecord l fin reason origin quiet = (u.closeRecord l fin reason origin quiet).restartSilence p := by
  have hrec : (u.restartSilence p).openRec.get l = u.openRec.get l := rfl
  cases hr : u.openRec.get l with
  | none => rw [State.closeRecord, State.closeRecord, hrec, hr]
  | some r =>
    rw [closeRecord_eq (hrec.trans hr), closeRecord_eq hr, ← restartSilence_latchUnless]
    have hroom := restartSilence_makeRoom u p u.nextEntry quiet
    rw [show (u.restartSilence p).nextEntry = u.nextEntry from rfl, hroom]
    rfl

theorem restartSilence_endStage (u : State) (p : Port) (l : LineId) (reason : EndReason) (origin : Option Port)
    (quiet : Bool) :
    (u.restartSilence p).endStage l reason origin quiet = (u.endStage l reason origin quiet).restartSilence p := by
  have hclear : ∀ v : State, (v.restartSilence p).clearCauses l quiet = (v.clearCauses l quiet).restartSilence p :=
    fun v => restartSilence_dropSlot (v.updSeq l _) p l quiet
  rw [State.endStage, restartSilence_stopDrive, restartSilence_leaveDemand, restartSilence_endTimers, hclear,
    restartSilence_closeRecord]
  rfl

theorem restartSilence_enterFault (u : State) (p : Port) (l : LineId) (cause : FaultCause) :
    (u.restartSilence p).enterFault l cause = (u.enterFault l cause).restartSilence p := by
  rw [State.enterFault, State.enterFault, ← restartSilence_latchAll]
  rfl

theorem restartSilence_lineFault (u : State) (p : Port) (l : LineId) (cause : FaultCause) :
    (u.restartSilence p).lineFault l cause = (u.lineFault l cause).restartSilence p := by
  have hdrop : ∀ v : State, ((v.restartSilence p).dropSlot l false).enterFault l cause =
      ((v.dropSlot l false).enterFault l cause).restartSilence p := fun v => by
    rw [restartSilence_dropSlot, restartSilence_enterFault]
  unfold State.lineFault
  rw [show (u.restartSilence p).lineState l = u.lineState l from rfl]
  cases u.lineState l with
  | seated | testing | charging | ready | injecting | held =>
    dsimp only
    rw [restartSilence_endStage, restartSilence_enterFault]
  | flushing =>
    dsimp only
    rw [restartSilence_stopDrive]
    exact hdrop ((u.stopDrive l).updSeq l _)
  | idle =>
    dsimp only
    rw [restartSilence_stopDrive]
    exact restartSilence_enterFault ((u.stopDrive l).updSeq l _) p l cause
  | fault => rfl
  | off => rfl

theorem restartSilence_strokeFailure (u : State) (p : Port) (l : LineId) :
    (u.restartSilence p).strokeFailure l = (u.strokeFailure l).restartSilence p := by
  have habandon : (u.restartSilence p).abandonStroke l = (u.abandonStroke l).restartSilence p := by
    have hstroke : ((u.restartSilence p).drive.get l).stroke = (u.drive.get l).stroke := rfl
    rw [State.abandonStroke, State.abandonStroke, hstroke]
    cases (u.drive.get l).stroke with
    | none => rfl
    | some k =>
      dsimp only
      cases k.purpose.isGrout <;> rfl
  rw [State.strokeFailure, habandon]
  exact restartSilence_lineFault ((u.abandonStroke l).updDrive l _) p l .stroke

theorem restartSilence_restartStroke (u : State) (p : Port) (l : LineId) :
    (u.restartSilence p).restartStroke l = (u.restartStroke l).restartSilence p :=
  restartSilence_ite Iff.rfl (restartSilence_strokeFailure (u.updDrive l _) p l) rfl

theorem restartSilence_supplyWait (u : State) (p : Port) (l : LineId) (mix : Nat) :
    (u.restartSilence p).supplyWait l mix = (u.supplyWait l mix).restartSilence p := by
  have hlatch := restartSilence_latchAll (u.setDemand (joinDemand u.demand mix l u.stamp)) p .supplyWait
  change State.latchAll ((u.restartSilence p).setDemand
    (joinDemand (u.restartSilence p).demand mix l (u.restartSilence p).stamp)) .supplyWait = _ at hlatch
  unfold State.supplyWait
  rw [hlatch, show (u.restartSilence p).lineState l = u.lineState l from rfl]
  cases (u.lineState l).asResume <;> rfl

theorem restartSilence_startGrout (u : State) (p : Port) (l : LineId) (kind : StrokePurpose) (given : Option TankId) :
    (u.restartSilence p).startGrout l kind given = (u.startGrout l kind given).restartSilence p := by
  have hmix : ((u.restartSilence p).seq.get l).currentMix = (u.seq.get l).currentMix := rfl
  have htank : ∀ m, (u.restartSilence p).selectTank l m ((u.restartSilence p).strokeVolume l) =
      u.selectTank l m (u.strokeVolume l) := fun _ => rfl
  unfold State.startGrout
  cases given with
  | some k => rfl
  | none =>
    rw [hmix]
    cases (u.seq.get l).currentMix with
    | none => rfl
    | some m =>
      dsimp only
      rw [htank]
      cases u.selectTank l m (u.strokeVolume l) with
      | none => exact restartSilence_supplyWait u p l m
      | some k => rfl

theorem restartSilence_startStroke (u : State) (p : Port) (l : LineId) (given : Option TankId) :
    (u.restartSilence p).startStroke l given = (u.startStroke l given).restartSilence p := by
  unfold State.startStroke
  rw [show ((u.restartSilence p).drive.get l).purpose = (u.drive.get l).purpose from rfl]
  cases (u.drive.get l).purpose with
  | none | test | flush => rfl
  | charge => exact restartSilence_startGrout u p l .charge given
  | inject => exact restartSilence_startGrout u p l .inject given

theorem restartSilence_updDrive (u : State) (p : Port) (l : LineId) (f : Drive → Drive) :
    (u.restartSilence p).updDrive l f = (u.updDrive l f).restartSilence p := rfl

theorem restartSilence_writeRate (u : State) (p : Port) (l : LineId) (x : Nat) (given : Option TankId) :
    (u.restartSilence p).writeRate l x given = (u.writeRate l x given).restartSilence p := by
  have hdrive : (u.restartSilence p).drive = u.drive := rfl
  unfold State.writeRate
  dsimp only
  rw [hdrive, restartSilence_updDrive, restartSilence_updDrive, restartSilence_restartStroke, restartSilence_startStroke]
  exact restartSilence_ite Iff.rfl rfl (restartSilence_ite Iff.rfl rfl (restartSilence_ite Iff.rfl rfl
    (restartSilence_ite Iff.rfl rfl rfl)))

theorem restartSilence_setPurpose (u : State) (p : Port) (l : LineId) (purpose : Purpose) (x : Nat) :
    (u.restartSilence p).setPurpose l purpose x = (u.setPurpose l purpose x).restartSilence p := by
  rw [State.setPurpose, restartSilence_updDrive, restartSilence_writeRate]
  rfl

/-! ### The requests taken (R9, R11, R12, R14) -/

theorem restartSilence_takeTest (u : State) (p : Port) (l : LineId) (target duration : Nat) :
    (u.restartSilence p).takeTest l target duration = (u.takeTest l target duration).restartSilence p := by
  rw [State.takeTest, State.takeTest, ← restartSilence_setPurpose]
  rfl

theorem restartSilence_takeInject (u : State) (p : Port) (l : LineId) :
    (u.restartSilence p).takeInject l = (u.takeInject l).restartSilence p := by
  rw [State.takeInject, State.takeInject, ← restartSilence_setPurpose]
  rfl

/-- An event latched under a condition that does not read the ports. -/
theorem restartSilence_ite_latchAll (c : Prop) [Decidable c] (u : State) (p : Port) (e : Event) :
    (if c then (u.restartSilence p).latchAll e else u.restartSilence p) =
      (if c then u.latchAll e else u).restartSilence p :=
  restartSilence_ite Iff.rfl (restartSilence_latchAll u p e) rfl

theorem restartSilence_takeCharge (u : State) (p : Port) (l : LineId) :
    (u.restartSilence p).takeCharge l = (u.takeCharge l).restartSilence p := by
  have hmix : (u.restartSilence p).chargeMix l = u.chargeMix l := rfl
  unfold State.takeCharge
  dsimp only
  rw [hmix, restartSilence_ite_latchAll, ← restartSilence_setPurpose]
  rfl

theorem restartSilence_takeSeat (u : State) (p : Port) (l : LineId) (q : SeatParams) :
    (u.restartSilence p).takeSeat l q = (u.takeSeat l q).restartSilence p := by
  have henvelope : (u.restartSilence p).envelope = u.envelope := rfl
  unfold State.takeSeat
  dsimp only
  rw [henvelope, restartSilence_ite_latchAll]
  rfl

/-- A request taken, with the silence timer restarted before or after it. -/
theorem restartSilence_takeDeferred (u : State) (p : Port) (l : LineId) (req : PendingReq) :
    (u.restartSilence p).takeDeferred l req = (u.takeDeferred l req).restartSilence p := by
  cases req with
  | seat q => exact restartSilence_takeSeat u p l q
  | test target duration => exact restartSilence_takeTest u p l target duration
  | charge => exact restartSilence_takeCharge u p l
  | inject => exact restartSilence_takeInject u p l

end Hushed
end Sys2Proof.Machine


/-! PROOF of O30. The deferred requests. -/

namespace Sys2Proof.Machine

section Deferred

variable {s t u v before : State} {l : LineId} {k : Stroke} {req : PendingReq} {point : Instr} {pt : RunPoint}

/-! ### The slot at a run point (R18 to R20) -/

/-- A line with its slot emptied. -/
def State.slotEmptied (u : State) (l : LineId) : State := u.updSeq l fun q => { q with slot := none }

theorem runSlot_taken (hslot : (u.seq.get l).slot = some req) (hpt : req.runsAt pt = true) (hd : u.dropsAtRun l req = false) :
    u.runSlot l pt = (u.slotEmptied l).takeDeferred l req := by
  rw [State.runSlot, hslot]
  dsimp only
  rw [if_pos hpt, if_neg (by rw [hd]; exact Bool.false_ne_true)]
  rfl

theorem runSlot_dropped (hslot : (u.seq.get l).slot = some req) (hpt : req.runsAt pt = true) (hd : u.dropsAtRun l req = true) :
    u.runSlot l pt = (u.slotEmptied l).latchAll .pendingDropped := by
  rw [State.runSlot, hslot]
  dsimp only
  rw [if_pos hpt, if_pos hd]
  rfl

theorem dropsAtRun_iff : u.dropsAtRun l req = true ↔ u.heldBack l req := by
  cases req <;> simp [State.dropsAtRun, State.heldBack]

/-! ### What a request asks of a state that differs at its own line alone (R6 to R8) -/

theorem heldBack_congr (h : LineOnly l s v) : v.heldBack l req ↔ s.heldBack l req := by
  have hc : v.covered l = s.covered l := by rw [State.covered, State.covered, h.holds]
  cases req <;> simp only [State.heldBack, hc]

theorem reqInRange_congr (h : LineOnly l s v) (hr : ReqInRange s req) : ReqInRange v req := by
  obtain ⟨-, hmix, -⟩ := h.steady.settings
  cases req with
  | seat q =>
    have hon : ∀ c, v.mixEnabled c = s.mixEnabled c := fun c => by rw [State.mixEnabled, State.mixEnabled, hmix]
    have hr : SeatInRange s q := hr
    change SeatInRange v q
    unfold SeatInRange at hr ⊢
    rw [hon, hon]
    exact hr
  | test _ _ => exact hr
  | charge | inject => trivial

theorem reqConflict_congr (h : LineOnly l s v) (hc : ReqConflict v l req) : ReqConflict s l req := by
  cases req with
  | seat q =>
    obtain ⟨j, hj, hclaim⟩ := hc
    obtain ⟨hseq, -, -, hrec, -⟩ := h.lines j hj
    refine ⟨j, hj, ?_⟩
    rw [State.claims, hseq, hrec] at hclaim
    exact hclaim
  | test _ _ | charge | inject => exact hc

/-- A request that waits runs at a command as if it had arrived when the command had done its own work (R19). -/
def RunsAsArrived (s : State) (l : LineId) (req : PendingReq) (point : Instr) : Prop :=
  Answers (exec point (s.slotEmptied l)) fun before =>
    (¬s.heldBack l req →
      Answers (exec point s) fun t =>
        exec (reqCommand .gallery l.num req) before = .next (t.answered .gallery (reqCode req) .ok [])) ∧
    (s.heldBack l req → exec point s = .next (before.latchAll .pendingDropped))

/-- The request taken at the run point, and the same request taken as it arrives. -/
theorem runsAsArrived (hfree : s.free .gallery) (hr : ReqInRange s req) (hc : ¬ReqConflict s l req)
    (honly : LineOnly l s before) (htakes : before.takesAtOnce l req) (hexec : exec point (s.slotEmptied l) = .next before)
    (htaken : ¬s.heldBack l req → exec point s = .next (before.takeDeferred l req))
    (hdropped : s.heldBack l req → exec point s = .next (before.latchAll .pendingDropped)) :
    RunsAsArrived s l req point := by
  refine ⟨before, hexec, fun hh => ⟨_, htaken hh, ?_⟩, hdropped⟩
  have hfree' : before.free .gallery := (honly.steady.ports .gallery).response.trans hfree
  rw [exec_reqCommand_taken hfree' htakes (mt (heldBack_congr honly).mp hh) (reqInRange_congr honly hr)
    (mt (reqConflict_congr honly) hc), restartSilence_takeDeferred, respond_restartSilence]

/-- A run point whose own work is done before the slot is looked at (R10, R11). -/
theorem runsAsArrived_of_runSlot {w : State} (hfree : s.free .gallery) (hr : ReqInRange s req) (hc : ¬ReqConflict s l req)
    (hslot : (w.seq.get l).slot = some req) (hpt : req.runsAt pt = true) (honly : LineOnly l s w)
    (htakes : (w.slotEmptied l).takesAtOnce l req) (hexec : exec point (s.slotEmptied l) = .next (w.slotEmptied l))
    (hpoint : exec point s = .next (w.runSlot l pt)) : RunsAsArrived s l req point := by
  refine runsAsArrived (before := w.slotEmptied l) hfree hr hc (honly.updSeq _) htakes hexec (fun hh => ?_) fun hh => ?_
  · rw [hpoint, runSlot_taken hslot hpt (Bool.eq_false_iff.mpr (mt (dropsAtRun_iff.trans (heldBack_congr honly)).mp hh))]
  · rw [hpoint, runSlot_dropped hslot hpt ((dropsAtRun_iff.trans (heldBack_congr honly)).mpr hh)]

/-! ### Packer settle (R10) -/

/-- A line that has settled, before the request in its slot is looked at (R10, R51). -/
def State.settleDone (u : State) (l : LineId) : State :=
  ((u.updSeq l fun q => { q with settled := true, settleTimer := .stopped }).captureFormation l).updReg l Regulator.arm

theorem settle_eq (u : State) (l : LineId) : u.settle l = (u.settleDone l).runSlot l .settleExpiry := rfl

theorem settleDone_seq (u : State) (l : LineId) :
    (u.settleDone l).seq.get l = { u.seq.get l with settled := true, settleTimer := .stopped } := PerLine.get_upd_self _ _ _

theorem slotEmptied_seq (u : State) (l : LineId) : (u.slotEmptied l).seq.get l = { u.seq.get l with slot := none } :=
  PerLine.get_upd_self _ _ _

theorem settleDone_slotEmptied (u : State) (l : LineId) :
    (u.slotEmptied l).settleDone l = (u.settleDone l).slotEmptied l := by
  unfold State.settleDone State.slotEmptied State.captureFormation
  simp only [updReg_updSeq, updRec_updSeq, updSeq_updSeq]
  rfl

theorem runs_atSettle (hfree : s.free .gallery) (hr : ReqInRange s req) (hslot : (s.seq.get l).slot = some req)
    (hs : s.lineState l = .seated) (hset : (s.seq.get l).settled = false) (ht : (s.seq.get l).settleTimer ≠ .stopped)
    (hn : s.NotOvertaken (.packerSettleExpiry l)) (hreq : req = .charge ∨ ∃ target duration, req = .test target duration) :
    RunsAsArrived s l req (.packerSettleExpiry l) := by
  have hn' : (s.slotEmptied l).NotOvertaken (.packerSettleExpiry l) := fun hcame => by
    change RanOut ((s.slotEmptied l).seq.get l).settleTimer
    rw [slotEmptied_seq]
    exact hn hcame
  have hexec := exec_settle (s := s.slotEmptied l) (by rw [State.lineState, slotEmptied_seq]; exact hs)
    (by rw [slotEmptied_seq]; exact hset) (by rw [slotEmptied_seq]; exact ht) hn'
  rw [settle_eq, settleDone_slotEmptied, runSlot_empty (by rw [slotEmptied_seq])] at hexec
  have hdone : ((s.settleDone l).slotEmptied l).lineState l = .seated ∧ (((s.settleDone l).slotEmptied l).seq.get l).settled = true := by
    rw [State.lineState, slotEmptied_seq, settleDone_seq]
    exact ⟨hs, rfl⟩
  refine runsAsArrived_of_runSlot (w := s.settleDone l) (pt := .settleExpiry) hfree hr ?_ (by rw [settleDone_seq]; exact hslot) ?_
    (((((LineOnly.refl l s).updSeq _).updReg _).updRec _).updReg _) ?_ hexec (exec_settle hs hset ht hn)
  · rcases hreq with rfl | ⟨target, duration, rfl⟩ <;> exact not_false
  · rcases hreq with rfl | ⟨target, duration, rfl⟩ <;> rfl
  · rcases hreq with rfl | ⟨target, duration, rfl⟩ <;> exact hdone

/-! ### The end of a test (R11) -/

/-- A line whose test has ended, before the request in its slot is looked at. -/
def State.testDone (u : State) (l : LineId) : State := (u.testOver l .complete).putUnplaced l (u.inFlight l)

theorem endTest_testDone (u : State) (l : LineId) : u.endTest l .complete = (u.testDone l).runSlot l .testEnd := by
  unfold State.endTest State.testDone State.testOver State.putUnplaced
  rw [stopDrive_eq]
  dsimp only
  refine congrArg (fun v : State => v.runSlot l .testEnd) ?_
  cases u.testOutcome l .complete with
  | none => simp only [updRec_updSeq, updRec_updReg, updRec_updRec]; rfl
  | some t => simp only [updRec_updSeq, updRec_updReg, updRec_updRec]; rfl

theorem testDone_seq (u : State) (l : LineId) :
    (u.testDone l).seq.get l = { u.seq.get l with state := .seated, settled := true, testTimer := none, testDuration := none } :=
  PerLine.get_upd_self _ _ _

theorem testDone_slotEmptied (u : State) (l : LineId) : (u.slotEmptied l).testDone l = (u.testDone l).slotEmptied l := by
  have houtcome : (u.slotEmptied l).testOutcome l .complete = u.testOutcome l .complete := by
    unfold State.testOutcome
    rw [slotEmptied_seq]
    rfl
  unfold State.testDone State.testOver
  rw [houtcome]
  unfold State.slotEmptied State.putUnplaced
  simp only [updReg_updSeq, updRec_updSeq, updDrive_updSeq, updSeq_updSeq]
  rfl

theorem runs_atTestEnd (hfree : s.free .gallery) (hslot : (s.seq.get l).slot = some .charge)
    (hs : s.lineState l = .testing) (ht : (s.seq.get l).testTimer ≠ none) (hn : s.NotOvertaken (.testTimerExpiry l)) :
    RunsAsArrived s l .charge (.testTimerExpiry l) := by
  have exec_end : ∀ u : State, u.lineState l = .testing → (u.seq.get l).testTimer ≠ none →
      u.NotOvertaken (.testTimerExpiry l) → exec (.testTimerExpiry l) u = .next ((u.testDone l).runSlot l .testEnd) := by
    intro u hs ht hn
    rw [← endTest_testDone]
    refine congrArg Host.Outcome.next ((onEvent_of_not_overtaken hn.overtaken _).trans (if_pos ?_))
    rw [show (u.seq.get l).state = .testing from hs, Option.isSome_iff_ne_none.mpr ht]
    rfl
  have hn' : (s.slotEmptied l).NotOvertaken (.testTimerExpiry l) := fun hcame => by
    change ∃ n ∈ ((s.slotEmptied l).seq.get l).testDuration, ∃ elapsed ∈ ((s.slotEmptied l).seq.get l).testTimer,
      n * 1000 ≤ elapsed
    rw [slotEmptied_seq]
    exact hn hcame
  have hexec := exec_end (s.slotEmptied l) (by rw [State.lineState, slotEmptied_seq]; exact hs)
    (by rw [slotEmptied_seq]; exact ht) hn'
  rw [testDone_slotEmptied, runSlot_empty (by rw [slotEmptied_seq])] at hexec
  refine runsAsArrived_of_runSlot (w := s.testDone l) (pt := .testEnd) hfree trivial not_false
    (by rw [testDone_seq]; exact hslot) rfl
    ((((((LineOnly.refl l s).updDrive _).updSeq _).updReg _).updRec _).updRec _) ?_ hexec (exec_end s hs ht hn)
  change ((s.testDone l).slotEmptied l).lineState l = .seated ∧ (((s.testDone l).slotEmptied l).seq.get l).settled = true
  rw [State.lineState, slotEmptied_seq, testDone_seq]
  exact ⟨rfl, rfl⟩

/-! ### Charging complete (R13) -/

/-- An INJECT taken leaves the line in INJECTING with a stroke, or in HELD with its rate steps 0 (R14, R22). -/
theorem takeInject_leaves {mix : Nat} (hn : (u.drive.get l).stroke = none) (hb : (u.drive.get l).burst = none)
    (hm : (u.seq.get l).currentMix = some mix) :
    (u.takeInject l).lineState l ≠ .charging ∧
      (((u.takeInject l).drive.get l).stroke ≠ none ∨ ((u.takeInject l).drive.get l).pendingRate = 0) := by
  obtain ⟨-, htank, hwait⟩ := startStroke_outcome (u := u.injectSet l) (l := l) (r := .injecting) (mix := mix)
    (by rw [injectSet_drive]; rfl) (by rw [injectSet_drive]; exact hb) (by rw [injectSet_drive]; exact hn)
    (by rw [State.lineState, injectSet_seq]; rfl) (by rw [injectSet_seq]; exact hm)
  rw [takeInject_eq hn hb, State.lineState]
  cases hsel : (u.injectSet l).selectTank l mix ((u.injectSet l).strokeVolume l) with
  | some tank =>
    obtain ⟨-, -, hseq, hdrive, -⟩ := htank tank hsel
    rw [hseq, hdrive, injectSet_seq]
    exact ⟨nofun, .inl (Option.some_ne_none _)⟩
  | none =>
    obtain ⟨-, -, -, hseq, hdrive, -⟩ := hwait hsel
    rw [hseq, hdrive]
    exact ⟨nofun, .inr rfl⟩

theorem slotEmptied_fits (h : DriveFits (u.seq.get l) (u.drive.get l)) :
    DriveFits ((u.slotEmptied l).seq.get l) ((u.slotEmptied l).drive.get l) := by
  rw [slotEmptied_seq]
  exact h.of_view rfl

/-- A line whose last CHARGE stroke has been counted and its drive stopped, its slot emptied (R13, R19). -/
def State.chargedUp (u : State) (l : LineId) (k : Stroke) : State :=
  ((((u.strokeDone l k).updSeq l fun q => { q with chargeCount := q.chargeCount + 1 }).updDrive l fun d =>
    { d with rate := 0, pendingRate := 0 }).slotEmptied l)

theorem chargedUp_seq (u : State) (l : LineId) (k : Stroke) :
    (u.chargedUp l k).seq.get l = { u.seq.get l with chargeCount := (u.seq.get l).chargeCount + 1, slot := none } := by
  rw [State.chargedUp, slotEmptied_seq, State.updDrive_seq, State.updSeq_seq, PerLine.get_upd_self, strokeDone_seq]

theorem chargedUp_drive (u : State) (l : LineId) (k : Stroke) :
    (u.chargedUp l k).drive.get l =
      { u.drive.get l with rate := 0, pendingRate := 0, stroke := none, watch := none } := by
  change (((u.strokeDone l k).drive.upd l _).get l) = _
  rw [PerLine.get_upd_self, strokeDone_drive]

/-- An INJECT that waits for the last CHARGE stroke runs once the drive has stopped (R13, R18, R19). -/
theorem completes_charge_inject {mix : Nat} (hd : DriveFits (s.seq.get l) (s.drive.get l))
    (hk : (s.drive.get l).stroke = some k) (hrun : k.running = true) (hp : k.purpose = .charge)
    (hc : (s.seq.get l).chargeCount + 1 = (s.seq.get l).nc) (hslot : (s.seq.get l).slot = some .inject)
    (hcov : s.covered l = false) (hm : (s.seq.get l).currentMix = some mix) :
    s.completeStroke l k = (s.chargedUp l k).takeInject l := by
  obtain ⟨-, hcharge, -⟩ := hd.running_work hk hrun
  obtain ⟨-, hb, -⟩ := hcharge hp
  have hdrive := strokeDone_drive s l k
  have hcov' : (s.strokeDone l k).covered l = false := by rw [strokeDone_charge hp]; exact hcov
  obtain ⟨hleaves, hrests⟩ := takeInject_leaves (u := s.chargedUp l k) (l := l) (mix := mix) (by rw [chargedUp_drive])
    (by rw [chargedUp_drive]; exact hb) (by rw [chargedUp_seq]; exact hm)
  refine completeStroke_ends ?_ hrests
  rw [hp]
  change (s.strokeDone l k).chargeDone l = _
  rw [chargeDone_last (by rw [strokeDone_seq]; exact hc)]
  unfold State.chargeComplete
  rw [writeRate_zero_rests (by
      rw [State.updSeq_seq, PerLine.get_upd_self, State.updSeq_drive]
      exact (strokeDone_fits hd k).of_view rfl) (by rw [State.updSeq_drive, hdrive]; exact hb)
    (by rw [State.updSeq_drive, hdrive]), runSlot_taken (req := .inject) (by
      rw [State.updDrive_seq, State.updSeq_seq, PerLine.get_upd_self, strokeDone_seq]
      exact hslot) rfl (by exact hcov')]
  exact if_neg hleaves

theorem runs_atChargeCompletion (hfree : s.free .gallery) (hslot : (s.seq.get l).slot = some .inject) (hinv : s.LineInv l)
    (hk : (s.drive.get l).stroke = some k) (hrun : k.running = true) (hn : s.NotOvertaken (.strokeComplete l))
    (hp : k.purpose = .charge) (hc : (s.seq.get l).chargeCount + 1 = (s.seq.get l).nc) :
    RunsAsArrived s l .inject (.strokeComplete l) := by
  obtain ⟨hs, hd⟩ := lineInv_iff.mp hinv
  obtain ⟨-, hcharge, -⟩ := hd.running_work hk hrun
  obtain ⟨hst, hb, -⟩ := hcharge hp
  have hcov : s.covered l = false := Bool.eq_false_iff.mpr fun h => (hs.uncovered h).2.1 hst
  obtain ⟨mix, hm⟩ : ∃ mix, (s.seq.get l).currentMix = some mix :=
    Option.isSome_iff_exists.mp (by rw [hs.mix, hst]; rfl)
  have hbefore := completes_lastCharge (s := s.slotEmptied l) (slotEmptied_fits hd) hk hrun hp
    (by rw [slotEmptied_seq]; exact hc) (by rw [slotEmptied_seq])
  have hready : ((s.slotEmptied l).completeStroke l k).lineState l = .ready := by
    rw [hbefore]
    exact congrArg Sequencer.state (PerLine.get_upd_self _ _ _)
  have hdrive : ((s.slotEmptied l).completeStroke l k).drive.get l =
      { s.drive.get l with
        rate := 0, pendingRate := 0, stroke := none, watch := none
        staticTimer := (s.slotEmptied l).staticAfresh ((s.slotEmptied l).seq.get l).holdsGrout } := by
    rw [hbefore]
    exact PerLine.get_upd_self _ _ _
  have htakes : ((s.slotEmptied l).completeStroke l k).takeInject l = (s.chargedUp l k).takeInject l := by
    rw [takeInject_eq (by rw [hdrive]) (by rw [hdrive]; exact hb),
      takeInject_eq (by rw [chargedUp_drive]) (by rw [chargedUp_drive]; exact hb), hbefore]
    unfold State.injectSet State.chargedUp State.slotEmptied
    rw [strokeDone_charge hp]
    simp only [updReg_updSeq, updRec_updSeq, updDrive_updSeq, updSeq_updSeq, updReg_updDrive, updRec_updDrive,
      updDrive_updDrive, updReg_updReg, updRec_updReg]
    rfl
  refine runsAsArrived (before := (s.slotEmptied l).completeStroke l k) hfree trivial not_false
    (((LineOnly.refl l s).updSeq _).completeStroke k) ⟨hready, by rw [hdrive]; exact hb⟩
    (exec_strokeComplete (s := s.slotEmptied l) hk hrun hn) (fun _ => ?_) fun hh => ?_
  · rw [exec_strokeComplete hk hrun hn, completes_charge_inject hd hk hrun hp hc hslot hcov hm]
    exact congrArg Host.Outcome.next htakes.symm
  · exact absurd hh (by rw [State.heldBack, hcov]; exact Bool.false_ne_true)

/-! ### Flushing complete (R25) -/

theorem takeSeat_drive (u : State) (l : LineId) (q : SeatParams) : (u.takeSeat l q).drive = u.drive := by
  rw [takeSeat_eq]
  rfl

/-- A SEAT that waits for the last FLUSH stroke runs once the line is in IDLE (R18, R25). -/
theorem completes_flush_seat {q : SeatParams} (hd : DriveFits (s.seq.get l) (s.drive.get l))
    (hk : (s.drive.get l).stroke = some k) (hrun : k.running = true) (hp : k.purpose = .flush)
    (hc : (s.seq.get l).flushCount + 1 = (s.seq.get l).nf) (hslot : (s.seq.get l).slot = some (.seat q)) :
    s.completeStroke l k = ((s.slotEmptied l).completeStroke l k).takeSeat l q := by
  obtain ⟨-, -, hflush⟩ := hd.running_work hk hrun
  obtain ⟨-, hb, -⟩ := hflush hp
  have hdrive := strokeDone_drive s l k
  have hbefore := completes_lastFlush (s := s.slotEmptied l) (slotEmptied_fits hd) hk hrun hp
    (by rw [slotEmptied_seq]; exact hc) (by rw [slotEmptied_seq])
  refine completeStroke_ends ?_
    (.inr (by rw [takeSeat_drive, hbefore, State.updSeq_drive, State.updDrive_drive, PerLine.get_upd_self]))
  rw [hp]
  change (s.strokeDone l k).flushDone l = _
  rw [flushDone_last (by rw [strokeDone_seq]; exact hc)]
  unfold State.flushComplete
  rw [writeRate_zero_rests (by
      rw [State.updSeq_seq, PerLine.get_upd_self, State.updSeq_drive]
      exact (strokeDone_fits hd k).of_view rfl) (by rw [State.updSeq_drive, hdrive]; exact hb)
    (by rw [State.updSeq_drive, hdrive]), runSlot_taken (req := .seat q) (by
      rw [State.updSeq_seq, PerLine.get_upd_self, State.updDrive_seq, State.updSeq_seq, PerLine.get_upd_self, strokeDone_seq]
      exact hslot) rfl rfl, hbefore]
  refine congrArg (State.takeSeat · l q) ?_
  unfold State.slotEmptied
  rw [strokeDone_water (.inl hp)]
  simp only [updDrive_updSeq, updSeq_updSeq, updDrive_updDrive]

theorem runs_atFlushCompletion {q : SeatParams} (hfree : s.free .gallery) (hr : ReqInRange s (.seat q))
    (hconf : ¬ReqConflict s l (.seat q)) (hslot : (s.seq.get l).slot = some (.seat q)) (hinv : s.LineInv l)
    (hk : (s.drive.get l).stroke = some k) (hrun : k.running = true) (hn : s.NotOvertaken (.strokeComplete l))
    (hp : k.purpose = .flush) (hc : (s.seq.get l).flushCount + 1 = (s.seq.get l).nf) :
    RunsAsArrived s l (.seat q) (.strokeComplete l) := by
  have hd := (lineInv_iff.mp hinv).2
  have hidle : ((s.slotEmptied l).completeStroke l k).lineState l = .idle := by
    rw [completes_lastFlush (s := s.slotEmptied l) (slotEmptied_fits hd) hk hrun hp
      (by rw [slotEmptied_seq]; exact hc) (by rw [slotEmptied_seq])]
    exact congrArg Sequencer.state (PerLine.get_upd_self _ _ _)
  refine runsAsArrived (before := (s.slotEmptied l).completeStroke l k) hfree hr hconf
    (((LineOnly.refl l s).updSeq _).completeStroke k) hidle
    (exec_strokeComplete (s := s.slotEmptied l) hk hrun hn) (fun _ => ?_) fun hh => hh.elim
  rw [exec_strokeComplete hk hrun hn, completes_flush_seat hd hk hrun hp hc hslot]
  rfl

/-- A request that a line defers waits in its slot (R6, R18). -/
theorem exec_reqCommand_deferred (hfree : s.free .gallery) (hr : ReqInRange s req) (hd : s.defers l req)
    (hslot : (s.seq.get l).slot = none) (hh : ¬s.heldBack l req) (hc : ¬ReqConflict s l req) :
    exec (reqCommand .gallery l.num req) s =
      .next ((s.updSeq l fun q => { q with slot := some req }).answered .gallery (reqCode req) .deferred []) := by
  have hst : (s.restartSilence .gallery).lineStatus l req = .deferred := (lineStatus_deferred hd hslot hh hr hc :)
  have howner : deferrable req l (s.restartSilence .gallery) =
      (((s.updSeq l fun q => { q with slot := some req }).restartSilence .gallery), plain .deferred) := by
    rw [deferrable, hst]
    rfl
  rw [exec_reqCommand, line_request hfree (by decide) howner, respond_restartSilence]

/-- Settles O30: the request waits, and is taken at its run point in the state that the point's own work leaves. -/
theorem deferredRequestsWaitAndRun : Obligations.DeferredRequestsWaitAndRun := by
  refine fun s l req hfree hr => ⟨exec_reqCommand_deferred hfree hr, fun hslot => ⟨fun hs hset ht hn hreq => ?_,
    fun hs ht hn hreq => ?_, fun k hk hrun hn hinv => ⟨fun hp hc hs hreq => ?_, fun hp hc hs hreq hconf => ?_⟩⟩⟩
  · exact runs_atSettle hfree hr hslot hs hset ht hn hreq
  · subst hreq
    exact runs_atTestEnd hfree hslot hs ht hn
  · subst hreq
    exact runs_atChargeCompletion hfree hslot hinv hk hrun hn hp hc
  · obtain ⟨x, rfl⟩ := hreq
    exact runs_atFlushCompletion hfree hr hconf hslot hinv hk hrun hn hp hc

end Deferred
end Sys2Proof.Machine
